-- ==== Sys2Proof/Word.lean ====
section
/-! DEFINITION. The words of the head bus: a byte of a frame and a 16-bit item of a payload (file 10, R187). -/

namespace Sys2Proof

/-- One byte of a CAN frame or of a payload, the u8 of R187. -/
abbrev Byte := BitVec 8

/-- A 16-bit item of a payload, the u16 of R187. -/
abbrev Half := BitVec 16

end Sys2Proof
end

