-- ==== Sys2Proof/Config.lean ====
section
/-! DEFINITION. The free values: values the spec leaves open after a command that goes on. Each is a constant with no
body, so that nothing can evaluate it and a claim is true whatever it is. -/

namespace Sys2Proof

/-- FREE VALUE, log 8. The diameter of a member with this profile (positions and diameters) at a position the
diameter-at-position rule does not cover: R105 and R107 give it from 0 upwards, on a profile with at least one sample. It
keeps the range of a diameter. -/
opaque Config.diameterUnstated : List (Nat × Nat) → Int → Fin 1000

/-- FREE VALUE, log 9. The contribution of a channel at an average raw reading its table does not cover, which R65 gives
for a table of 9 loaded points only. It keeps the range of a contribution. -/
opaque Config.contributionUnstated : List (Option (Nat × Nat)) → Nat → Fin 5001

/-- FREE VALUE, log 10. The u16 that carries a number outside 0..65535 where R188 lays the number out as a u16. -/
opaque Config.halfUnstated : Int → Half

end Sys2Proof
end

