-- ==== Sys2Proof/Machine/Arith.lean ====
section
/-! DEFINITION. The rounding words of file 00 section 3.4, clamping, and saturating counters. -/

namespace Sys2Proof.Machine

/-- x clamped to lo..hi (section 3.4). -/
def clampInt (lo hi x : Int) : Int := if x < lo then lo else if hi < x then hi else x

/-- x clamped to lo..hi (section 3.4), for numbers that are not negative. -/
def clampNat (lo hi x : Nat) : Nat := if x < lo then lo else if hi < x then hi else x

/-- The quotient a / b rounded half up: the floor of (2a + b) / (2b) for a positive b (chapter 6, opening). -/
def halfUp (a : Int) (b : Nat) : Int := (2 * a + b) / (2 * b)

/-- The quotient a / b rounded up (section 3.4). -/
def divUp (a b : Nat) : Nat := (a + (b - 1)) / b

/-- The quotient a / b toward zero (section 3.4). -/
def towardZero (a : Int) (b : Nat) : Int := a.tdiv b

/-- The largest integer whose square does not exceed n (section 3.4). -/
def floorRoot (n : Nat) : Nat := n.sqrt

/-- A counter of range 0..255 after an increment: one that holds 255 keeps 255 (R5, R180, R183). -/
def saturate (n : Nat) : Nat := if n < 255 then n + 1 else 255

end Sys2Proof.Machine
end

