-- ==== Sys2Proof/Syntax.lean ====
section
/-! DEFINITION. The commands the SH20 takes: one constructor of `Instr` for each row of spec/opcode_table.json, with the
operands the row's rule gives it. The requests of the head bus also stand alone, as `Request`. -/

namespace Sys2Proof

/-- A frame of the head bus as it is received (R176, R177): whether its identifier is extended, whether it is a remote
frame, its 29-bit identifier and its data bytes. -/
structure Frame where
  extended : Bool
  remote : Bool
  ident : BitVec 29
  data : List Byte
  deriving DecidableEq, Repr

/-- The two quadrature encoders (file 03). -/
inductive Encoder where
  | wheel
  | roller
  deriving DecidableEq, Repr

/-- The direction of a counted pulse (R44). -/
inductive Direction where
  | forward
  | reverse
  deriving DecidableEq, Repr

/-- The direction of a change of a filtered switch line. The table has a row for the assertion of SAW_END and SAW_HOME
and none for their deassertion, which their rows carry as `deasserted` (log 5). -/
inductive Edge where
  | asserted
  | deasserted
  deriving DecidableEq, Repr

/-- The levels of the digital lines at power-on (R42, R43): the encoder lines high or low, the switch lines asserted or
not. -/
structure PinLevels where
  wheelA : Bool
  wheelB : Bool
  rollerA : Bool
  rollerB : Bool
  wheelContact : Bool
  sawHome : Bool
  sawEnd : Bool
  halt : Bool
  deriving DecidableEq, Repr

/-- The raw readings the converter yields on the four channels while a sequence completes (R63, R67): for each channel
the readings a sequence may take, of which it takes its averaging count, in order. -/
structure Readings where
  ukl : Vector (BitVec 12) 8
  ukr : Vector (BitVec 12) 8
  frl : Vector (BitVec 12) 8
  frr : Vector (BitVec 12) 8
  deriving DecidableEq, Repr

/-- Bytes 1..39 of the WRITE_ASSORTMENT payload (R189), before any check. -/
structure EntryImage where
  productCode : Half
  speciesMask : Half
  minTop : Half
  maxButt : Half
  lengthCount : Byte
  lengthSlots : Vector Half 6
  classWidth : Byte
  prices : Vector Half 8
  groupAllowed : Byte
  deriving DecidableEq, Repr

/-- The requests of the catalogue (file 10, section 10.6), each with the items of its payload. -/
inductive Request where
  | setParameter (number : Byte) (value : Half)
  | readParameter (number : Byte)
  | loadArmPoint (arm index : Byte) (raw contribution : Half)
  | readArmTable (arm : Byte)
  | setSpeciesTaper (species tmin tdefault tmax : Byte)
  | readSpeciesTaper (species : Byte)
  | writeAssortment (number : Byte) (image : EntryImage)
  | retireAssortment (number : Byte)
  | readAssortment (bank number : Byte)
  | swapBanks
  | setLockSize (size : Byte)
  | listStems
  | readStem (handle : Half)
  | readProfile (handle : Half) (first count : Byte)
  | readPlan (handle : Half) (which : Byte)
  | readPieces (handle : Half)
  | setSpecies (handle : Half) (species : Byte)
  | setOverride (handle : Half) (assortment : Byte) (length : Half)
  | clearOverride (handle : Half)
  | freezePlan (handle : Half)
  | thawPlan (handle : Half)
  | setUpdateMode (handle : Half) (mode : Byte)
  | replan (handle : Half)
  | setTopWatch (handle : Half) (threshold : Half) (mode : Byte)
  | retireStem (handle : Half)
  | fell (species : Byte)
  | feed
  | stop
  | cut
  | cutHere
  | drop
  | release
  | cabMeasure (mask count : Byte)
  | readStatus
  | reinitialise (scope : Byte)
  deriving DecidableEq, Repr

/-- The commands of the SH20: one constructor per row of spec/opcode_table.json, in the table's order. A request carries
its tag (R176) before its payload items. -/
inductive Instr where
  | powerOn (node : BitVec 3) (pins : PinLevels)
  | firstFrame (frame : Frame)
  | continuationFrame (frame : Frame)
  | gapTimerExpiry
  | frameSent
  | segmentErrorAnswer (code tag : Byte)
  | unknownRequest (code tag : Byte) (payload : List Byte)
  | setParameter (tag number : Byte) (value : Half)
  | readParameter (tag number : Byte)
  | loadArmPoint (tag arm index : Byte) (raw contribution : Half)
  | readArmTable (tag arm : Byte)
  | setSpeciesTaper (tag species tmin tdefault tmax : Byte)
  | readSpeciesTaper (tag species : Byte)
  | writeAssortment (tag number : Byte) (image : EntryImage)
  | retireAssortment (tag number : Byte)
  | readAssortment (tag bank number : Byte)
  | swapBanks (tag : Byte)
  | setLockSize (tag size : Byte)
  | listStems (tag : Byte)
  | readStem (tag : Byte) (handle : Half)
  | readProfile (tag : Byte) (handle : Half) (first count : Byte)
  | readPlan (tag : Byte) (handle : Half) (which : Byte)
  | readPieces (tag : Byte) (handle : Half)
  | setSpecies (tag : Byte) (handle : Half) (species : Byte)
  | setOverride (tag : Byte) (handle : Half) (assortment : Byte) (length : Half)
  | clearOverride (tag : Byte) (handle : Half)
  | freezePlan (tag : Byte) (handle : Half)
  | thawPlan (tag : Byte) (handle : Half)
  | setUpdateMode (tag : Byte) (handle : Half) (mode : Byte)
  | replan (tag : Byte) (handle : Half)
  | setTopWatch (tag : Byte) (handle : Half) (threshold : Half) (mode : Byte)
  | retireStem (tag : Byte) (handle : Half)
  | fell (tag species : Byte)
  | feed (tag : Byte)
  | stop (tag : Byte)
  | cut (tag : Byte)
  | cutHere (tag : Byte)
  | drop (tag : Byte)
  | release (tag : Byte)
  | cabMeasure (tag mask count : Byte)
  | readStatus (tag : Byte)
  | reinitialiseStems (tag : Byte)
  | reinitialiseAll (tag : Byte)
  | encoderPulse (encoder : Encoder) (direction : Direction)
  | quadratureFault (encoder : Encoder)
  | wheelContactChange (asserted : Bool)
  | sawEndAsserted (edge : Edge)
  | sawHomeAsserted (edge : Edge)
  | haltAsserted
  | haltReleased
  | settleTimerExpiry
  | sawTimerExpiry
  | homeTimerExpiry
  | stallTimerExpiry
  | sequenceComplete (readings : Readings)
  | passComplete
  deriving DecidableEq, Repr

/-- The request a command stands for, with its tag, and none for the commands that are no request of the catalogue. -/
def Instr.request? : Instr → Option (Byte × Request)
  | .setParameter t n v => some (t, .setParameter n v)
  | .readParameter t n => some (t, .readParameter n)
  | .loadArmPoint t a i r c => some (t, .loadArmPoint a i r c)
  | .readArmTable t a => some (t, .readArmTable a)
  | .setSpeciesTaper t s a b c => some (t, .setSpeciesTaper s a b c)
  | .readSpeciesTaper t s => some (t, .readSpeciesTaper s)
  | .writeAssortment t n e => some (t, .writeAssortment n e)
  | .retireAssortment t n => some (t, .retireAssortment n)
  | .readAssortment t b n => some (t, .readAssortment b n)
  | .swapBanks t => some (t, .swapBanks)
  | .setLockSize t n => some (t, .setLockSize n)
  | .listStems t => some (t, .listStems)
  | .readStem t h => some (t, .readStem h)
  | .readProfile t h f c => some (t, .readProfile h f c)
  | .readPlan t h w => some (t, .readPlan h w)
  | .readPieces t h => some (t, .readPieces h)
  | .setSpecies t h s => some (t, .setSpecies h s)
  | .setOverride t h a l => some (t, .setOverride h a l)
  | .clearOverride t h => some (t, .clearOverride h)
  | .freezePlan t h => some (t, .freezePlan h)
  | .thawPlan t h => some (t, .thawPlan h)
  | .setUpdateMode t h m => some (t, .setUpdateMode h m)
  | .replan t h => some (t, .replan h)
  | .setTopWatch t h th m => some (t, .setTopWatch h th m)
  | .retireStem t h => some (t, .retireStem h)
  | .fell t s => some (t, .fell s)
  | .feed t => some (t, .feed)
  | .stop t => some (t, .stop)
  | .cut t => some (t, .cut)
  | .cutHere t => some (t, .cutHere)
  | .drop t => some (t, .drop)
  | .release t => some (t, .release)
  | .cabMeasure t m c => some (t, .cabMeasure m c)
  | .readStatus t => some (t, .readStatus)
  | .reinitialiseStems t => some (t, .reinitialise 0)
  | .reinitialiseAll t => some (t, .reinitialise 1)
  | .powerOn _ _ => none
  | .firstFrame _ => none
  | .continuationFrame _ => none
  | .gapTimerExpiry => none
  | .frameSent => none
  | .segmentErrorAnswer _ _ => none
  | .unknownRequest _ _ _ => none
  | .encoderPulse _ _ => none
  | .quadratureFault _ => none
  | .wheelContactChange _ => none
  | .sawEndAsserted _ => none
  | .sawHomeAsserted _ => none
  | .haltAsserted => none
  | .haltReleased => none
  | .settleTimerExpiry => none
  | .sawTimerExpiry => none
  | .homeTimerExpiry => none
  | .stallTimerExpiry => none
  | .sequenceComplete _ => none
  | .passComplete => none

end Sys2Proof
end

