-- ==== Sys2Proof/Decode.lean ====
section
/-! DEFINITION. The wire form of the requests (file 10, section 10.6 and R187, R189): the catalogue's codes and payload
lengths, a request read from its code and payload (total on any bytes), and after it the encoder. The opcode table gives
no row any bits, so `decodeTableWord` reads none. -/

namespace Sys2Proof

/-- The payload length the catalogue gives for a request code, and none for a code that is not in it (section 10.6). -/
def catalogueLength (code : Byte) : Option Nat :=
  match code.toNat with
  | 1 => some 3
  | 2 => some 1
  | 3 => some 6
  | 4 => some 1
  | 5 => some 4
  | 6 => some 1
  | 16 => some 40
  | 17 => some 1
  | 18 => some 2
  | 19 => some 0
  | 20 => some 1
  | 32 => some 0
  | 33 => some 2
  | 34 => some 4
  | 35 => some 3
  | 36 => some 2
  | 37 => some 3
  | 38 => some 5
  | 39 => some 2
  | 40 => some 2
  | 41 => some 2
  | 42 => some 3
  | 43 => some 2
  | 44 => some 5
  | 45 => some 2
  | 48 => some 1
  | 49 => some 0
  | 50 => some 0
  | 51 => some 0
  | 52 => some 0
  | 53 => some 0
  | 54 => some 0
  | 64 => some 2
  | 65 => some 0
  | 66 => some 1
  | _ => none

/-- Byte i of a payload. -/
def byteAt (payload : List Byte) (i : Nat) : Byte := payload.getD i 0

/-- The u16 at bytes i and i + 1 of a payload, least significant byte first (R187). -/
def halfAt (payload : List Byte) (i : Nat) : Half := byteAt payload (i + 1) ++ byteAt payload i

/-- Bytes 1..39 of a WRITE_ASSORTMENT payload (R189). -/
def entryImageAt (payload : List Byte) : EntryImage where
  productCode := halfAt payload 1
  speciesMask := halfAt payload 3
  minTop := halfAt payload 5
  maxButt := halfAt payload 7
  lengthCount := byteAt payload 9
  lengthSlots := Vector.ofFn fun i => halfAt payload (10 + 2 * i.val)
  classWidth := byteAt payload 22
  prices := Vector.ofFn fun i => halfAt payload (23 + 2 * i.val)
  groupAllowed := byteAt payload 39

/-- The request of a code of the catalogue, its items read from a payload of the catalogue's length, each where the
catalogue lays it. -/
def requestItems (code : Byte) (p : List Byte) : Option Request :=
  match code.toNat with
  | 1 => some (.setParameter (byteAt p 0) (halfAt p 1))
  | 2 => some (.readParameter (byteAt p 0))
  | 3 => some (.loadArmPoint (byteAt p 0) (byteAt p 1) (halfAt p 2) (halfAt p 4))
  | 4 => some (.readArmTable (byteAt p 0))
  | 5 => some (.setSpeciesTaper (byteAt p 0) (byteAt p 1) (byteAt p 2) (byteAt p 3))
  | 6 => some (.readSpeciesTaper (byteAt p 0))
  | 16 => some (.writeAssortment (byteAt p 0) (entryImageAt p))
  | 17 => some (.retireAssortment (byteAt p 0))
  | 18 => some (.readAssortment (byteAt p 0) (byteAt p 1))
  | 19 => some .swapBanks
  | 20 => some (.setLockSize (byteAt p 0))
  | 32 => some .listStems
  | 33 => some (.readStem (halfAt p 0))
  | 34 => some (.readProfile (halfAt p 0) (byteAt p 2) (byteAt p 3))
  | 35 => some (.readPlan (halfAt p 0) (byteAt p 2))
  | 36 => some (.readPieces (halfAt p 0))
  | 37 => some (.setSpecies (halfAt p 0) (byteAt p 2))
  | 38 => some (.setOverride (halfAt p 0) (byteAt p 2) (halfAt p 3))
  | 39 => some (.clearOverride (halfAt p 0))
  | 40 => some (.freezePlan (halfAt p 0))
  | 41 => some (.thawPlan (halfAt p 0))
  | 42 => some (.setUpdateMode (halfAt p 0) (byteAt p 2))
  | 43 => some (.replan (halfAt p 0))
  | 44 => some (.setTopWatch (halfAt p 0) (halfAt p 2) (byteAt p 4))
  | 45 => some (.retireStem (halfAt p 0))
  | 48 => some (.fell (byteAt p 0))
  | 49 => some .feed
  | 50 => some .stop
  | 51 => some .cut
  | 52 => some .cutHere
  | 53 => some .drop
  | 54 => some .release
  | 64 => some (.cabMeasure (byteAt p 0) (byteAt p 1))
  | 65 => some .readStatus
  | 66 => some (.reinitialise (byteAt p 0))
  | _ => none

/-- What the checks of R181 make of a code and a payload: a code that names no request, a payload length other than the
catalogue's, or a request. -/
inductive DecodedRequest where
  | unknownCode
  | wrongLength
  | request (r : Request)
  deriving DecidableEq, Repr

/-- The code and length checks of R181, in their order, and the request's items. -/
def decodeRequest (code : Byte) (payload : List Byte) : DecodedRequest :=
  match catalogueLength code with
  | none => .unknownCode
  | some n =>
    if payload.length = n then
      match requestItems code payload with
      | some r => .request r
      | none => .unknownCode
    else .wrongLength

/-- A u16 as its two bytes, least significant first (R187). -/
def halfBytes (v : Half) : List Byte := [v.extractLsb' 0 8, v.extractLsb' 8 8]

/-- The bytes 1..39 of a WRITE_ASSORTMENT payload (R189). -/
def EntryImage.bytes (e : EntryImage) : List Byte :=
  halfBytes e.productCode ++ halfBytes e.speciesMask ++ halfBytes e.minTop ++ halfBytes e.maxButt ++ [e.lengthCount] ++
    e.lengthSlots.toList.flatMap halfBytes ++ [e.classWidth] ++ e.prices.toList.flatMap halfBytes ++ [e.groupAllowed]

/-- The catalogue's code of a request (section 10.6). -/
def Request.code : Request → Byte
  | .setParameter _ _ => 1
  | .readParameter _ => 2
  | .loadArmPoint _ _ _ _ => 3
  | .readArmTable _ => 4
  | .setSpeciesTaper _ _ _ _ => 5
  | .readSpeciesTaper _ => 6
  | .writeAssortment _ _ => 16
  | .retireAssortment _ => 17
  | .readAssortment _ _ => 18
  | .swapBanks => 19
  | .setLockSize _ => 20
  | .listStems => 32
  | .readStem _ => 33
  | .readProfile _ _ _ => 34
  | .readPlan _ _ => 35
  | .readPieces _ => 36
  | .setSpecies _ _ => 37
  | .setOverride _ _ _ => 38
  | .clearOverride _ => 39
  | .freezePlan _ => 40
  | .thawPlan _ => 41
  | .setUpdateMode _ _ => 42
  | .replan _ => 43
  | .setTopWatch _ _ _ => 44
  | .retireStem _ => 45
  | .fell _ => 48
  | .feed => 49
  | .stop => 50
  | .cut => 51
  | .cutHere => 52
  | .drop => 53
  | .release => 54
  | .cabMeasure _ _ => 64
  | .readStatus => 65
  | .reinitialise _ => 66

/-- The payload of a request, its items in the catalogue's order (section 10.6, R187, R189). -/
def Request.payload : Request → List Byte
  | .setParameter n v => n :: halfBytes v
  | .readParameter n => [n]
  | .loadArmPoint a i r c => [a, i] ++ halfBytes r ++ halfBytes c
  | .readArmTable a => [a]
  | .setSpeciesTaper s a b c => [s, a, b, c]
  | .readSpeciesTaper s => [s]
  | .writeAssortment n e => n :: e.bytes
  | .retireAssortment n => [n]
  | .readAssortment b n => [b, n]
  | .swapBanks => []
  | .setLockSize n => [n]
  | .listStems => []
  | .readStem h => halfBytes h
  | .readProfile h f c => halfBytes h ++ [f, c]
  | .readPlan h w => halfBytes h ++ [w]
  | .readPieces h => halfBytes h
  | .setSpecies h s => halfBytes h ++ [s]
  | .setOverride h a l => halfBytes h ++ [a] ++ halfBytes l
  | .clearOverride h => halfBytes h
  | .freezePlan h => halfBytes h
  | .thawPlan h => halfBytes h
  | .setUpdateMode h m => halfBytes h ++ [m]
  | .replan h => halfBytes h
  | .setTopWatch h t m => halfBytes h ++ halfBytes t ++ [m]
  | .retireStem h => halfBytes h
  | .fell s => [s]
  | .feed => []
  | .stop => []
  | .cut => []
  | .cutHere => []
  | .drop => []
  | .release => []
  | .cabMeasure m c => [m, c]
  | .readStatus => []
  | .reinitialise s => [s]

/-- The command a word spells by the bits of spec/opcode_table.json: none, since the table gives no row any bits. -/
def decodeTableWord (_nbits _w : Nat) : Option Instr := none

end Sys2Proof
end

