-- ==== Sys2Proof/Machine/State.lean ====
section
/-! DEFINITION. The state of the SH20 as plain data, block by block as the spec's file 00 section 2.1 lists them, the
queue of waiting commands, and the state after power-on. -/

namespace Sys2Proof.Machine

/-! ### Enumerations, each in the order its rule lists its values (R187 numbers them in that order). -/

/-- States of a stem record (R3, R5). -/
inductive StemState where
  | felling | held | processing | closed | abandoned
  deriving DecidableEq, Repr

/-- End reasons of a closed or abandoned record (R5). -/
inductive EndReason where
  | topped | fellOut | released | dropped | fellFailed
  deriving DecidableEq, Repr

/-- Roles in a PROCESSING group (R6). -/
inductive Role where
  | lead | member
  deriving DecidableEq, Repr

/-- Update modes of a record (R21). -/
inductive UpdateMode where
  | immediate | atStop
  deriving DecidableEq, Repr

/-- Top watch modes (R22). -/
inductive WatchMode where
  | fall | every
  deriving DecidableEq, Repr

/-- Where a top watch threshold comes from (R22). -/
inductive WatchOrigin where
  | default | set
  deriving DecidableEq, Repr

/-- Directions of a TOP_WATCH notice (R23). -/
inductive WatchDirection where
  | falling | rising
  deriving DecidableEq, Repr

/-- Length source summary of a record (R13). -/
inductive SourceSummary where
  | wheelOnly | mixed | rollerOnly
  deriving DecidableEq, Repr

/-- Kinds of a piece (R16, R18, R188). -/
inductive PieceKind where
  | plannedCut | overrideCut | operatorCut | wasteCut
  deriving DecidableEq, Repr

/-- Status of a plan piece (R14). -/
inductive PlanStatus where
  | planned | committed
  deriving DecidableEq, Repr

/-- Source of a plan piece (R14). -/
inductive PlanSource where
  | optimizer | override
  deriving DecidableEq, Repr

/-- States of the feed group (R28), in the order R185 lists them. -/
inductive GroupState where
  | empty | held | processing
  deriving DecidableEq, Repr

/-- Length source states (R58). -/
inductive SourceState where
  | wheel | disputed | roller | rejoin
  deriving DecidableEq, Repr

/-- Causes of a LENGTH_SOURCE notice (R60). -/
inductive SourceCause where
  | disputes | agreements | contactLost | wheelFault | datum
  deriving DecidableEq, Repr

/-- Masks of a measurement (R63, codes in R169). -/
inductive Mask where
  | knives | rollers | both
  deriving DecidableEq, Repr

/-- The four arm channels (R63). -/
inductive Channel where
  | ukl | ukr | frl | frr
  deriving DecidableEq, Repr

/-- Outcomes of a pass, with NONE before the first (R122). -/
inductive PassOutcome where
  | none | discarded | stale | late | installed | held
  deriving DecidableEq, Repr

/-- States of the Feed and Cut Sequencer (R138). -/
inductive SeqState where
  | idle | felling | holding | waiting | feeding | creeping | settling | reversing | atTarget | cutting | sawReturn
  | paused | halted
  deriving DecidableEq, Repr

/-- Pause reasons (R138). -/
inductive PauseReason where
  | stopRequest | planDone | sawTimeout | sawNotHome | feedStall | haltReleased
  deriving DecidableEq, Repr

/-- Kinds of a cut (R138, R152). -/
inductive CutKind where
  | planned | offPlan
  deriving DecidableEq, Repr

/-- Causes of a SAW_FAULT notice (R164). -/
inductive SawFaultCause where
  | fellTimeout | cutTimeout | homeTimeout
  deriving DecidableEq, Repr

/-- Occasions of a bank swap (R88). -/
inductive SwapOccasion where
  | atRequest | atSafePoint
  deriving DecidableEq, Repr

/-- Occasions of an install (R136). -/
inductive InstallOccasion where
  | direct | fromPending
  deriving DecidableEq, Repr

/-- The kinds of message the transmitter chooses between (R184). -/
inductive MessageKind where
  | answer | notice
  deriving DecidableEq, Repr

/-- Answer statuses, in the order of their codes 0..17 (R182). -/
inductive Status where
  | ok | clamped | pending | accepted | busy | full | noStem | wrongState | locked | range | order | frozen
  | notConfigured | notReady | sawNotHome | swapPending | segmentError | unknownRequest
  deriving DecidableEq, Repr

/-! ### The stem record (file 01). -/

/-- Flags of a profile sample (R9). -/
structure SampleFlags where
  butt : Bool
  disagree : Bool
  armLimit : Bool
  slipSuspect : Bool
  rollerLen : Bool
  estimated : Bool
  deriving DecidableEq, Repr

/-- A profile sample (R9). -/
structure Sample where
  position : Nat
  diameter : Nat
  envelope : Option Nat
  averaging : Nat
  flags : SampleFlags
  deriving DecidableEq, Repr

/-- A plan piece (R14). -/
structure PlanPiece where
  assortment : Nat
  nominal : Nat
  cutPosition : Int
  topDiameter : Nat
  value : Nat
  status : PlanStatus
  source : PlanSource
  deriving DecidableEq, Repr

/-- Flags of a pass result (R119). -/
structure ResultFlags where
  defaultTaper : Bool
  overrideDropped : Bool
  noEligible : Bool
  noUsableEnd : Bool
  deriving DecidableEq, Repr

/-- The result of a pass (R119). As a pending plan it is what R132 keeps. -/
structure PassResult where
  pieces : List PlanPiece
  passNumber : Nat
  origin : Int
  usableEnd : Option Int
  taper : Nat
  flags : ResultFlags
  deriving DecidableEq, Repr

/-- Flags of a recorded piece (R16, R188). -/
structure PieceFlags where
  overshoot : Bool
  slipSuspect : Bool
  rollerLen : Bool
  deriving DecidableEq, Repr

/-- A recorded piece (R16). -/
structure Piece where
  kind : PieceKind
  assortment : Option Nat
  cutPosition : Int
  actual : Int
  nominal : Option Nat
  lengthError : Option Int
  topDiameter : Nat
  value : Option Nat
  flags : PieceFlags
  deriving DecidableEq, Repr

/-- A lead's override (R19). -/
structure Override where
  assortment : Nat
  nominal : Nat
  deriving DecidableEq, Repr

/-- The top watch of a record (R22). -/
structure TopWatch where
  threshold : Nat
  mode : WatchMode
  armed : Bool
  origin : WatchOrigin
  deriving DecidableEq, Repr

/-- A stem record (R5). -/
structure StemRecord where
  handle : Nat
  state : StemState
  endReason : Option EndReason
  species : Nat
  fellingOrder : Nat
  role : Option Role
  butt : Option Nat
  profile : List Sample
  profileStep : Nat
  plan : List PlanPiece
  pendingPlan : Option PassResult
  pieces : List Piece
  override : Option Override
  frozen : Bool
  updateMode : UpdateMode
  topWatch : TopWatch
  missedSamples : Nat
  disputedWindows : Nat
  lengthSummary : SourceSummary
  furthest : Int
  planValue : Nat
  lastPass : Nat
  deriving DecidableEq, Repr

/-- The Stem Table: 8 slots (R1), the next-handle counter (R2) and the feed group, bottom first (R28). -/
structure StemTable where
  slots : Vector (Option StemRecord) 8
  nextHandle : Nat
  group : List Nat
  deriving DecidableEq, Repr

/-! ### The Length Unit (file 03). -/

/-- A slip window (R55). -/
structure SlipWindow where
  start : Int
  least : Int
  greatest : Int
  wheelCount : Int
  rollerCount : Int
  size : Nat
  deriving DecidableEq, Repr

/-- The Length Unit (file 03, state table). -/
structure LengthUnit where
  wheelRun : Int
  rollerRun : Int
  base : Int
  length : Int
  limit : Bool
  source : SourceState
  n : Nat
  window : SlipWindow
  wheelFaults : Nat
  rollerFaults : Nat
  wheelFaulty : Bool
  rollerFaulty : Bool
  slipSuspended : Bool
  trigger : Int
  slipSuspect : Bool
  rollerLen : Bool
  deriving DecidableEq, Repr

/-- A line with its filter (R42, R43): the level at the pin, the accepted level, and how many successive samples, counted
back from the latest, show the other level. For an encoder line a level is high or low, for a switch line asserted or
not. -/
structure LineFilter where
  pin : Bool
  accepted : Bool
  run : Nat
  deriving DecidableEq, Repr

/-- The eight digital lines (file 00, section 5.1). -/
structure InputLines where
  wheelA : LineFilter
  wheelB : LineFilter
  rollerA : LineFilter
  rollerB : LineFilter
  wheelContact : LineFilter
  sawHome : LineFilter
  sawEnd : LineFilter
  halt : LineFilter
  deriving DecidableEq, Repr

/-! ### The Diameter Sequencer (file 04). -/

/-- A loaded calibration point (R64): raw value and contribution in tenths of a millimetre. -/
structure CalPoint where
  raw : Nat
  contribution : Nat
  deriving DecidableEq, Repr

/-- A calibration table of 9 points, each loaded or not (R64). -/
abbrev ArmTable := Vector (Option CalPoint) 9

/-- A FEED request (R71): captured position and captured source state. -/
structure FeedRequest where
  position : Int
  source : SourceState
  deriving DecidableEq, Repr

/-- A TRIM request (R72): slot and handle of the record. -/
structure TrimRequest where
  slot : Nat
  handle : Nat
  deriving DecidableEq, Repr

/-- A CAB request (R73). -/
structure CabRequest where
  mask : Mask
  averaging : Nat
  tag : Byte
  deriving DecidableEq, Repr

/-- The requester and target of a running sequence (R66). -/
inductive SequenceTarget where
  | feed (r : FeedRequest)
  | trim (r : TrimRequest)
  | cab (r : CabRequest)
  deriving DecidableEq, Repr

/-- A running sequence (R66, file 04 state table). -/
structure RunningSequence where
  target : SequenceTarget
  mask : Mask
  averaging : Nat
  settle : Nat
  channel : Channel
  sums : List Nat
  averages : List Nat
  deriving DecidableEq, Repr

/-- The Diameter Sequencer: it is IDLE exactly when no sequence is running. -/
structure DiameterSequencer where
  running : Option RunningSequence
  feedPending : Option FeedRequest
  trimPending : Option TrimRequest
  cabPending : Option CabRequest
  ukl : ArmTable
  ukr : ArmTable
  frl : ArmTable
  frr : ArmTable
  deriving DecidableEq, Repr

/-! ### The Assortment Table (file 05). -/

/-- The fields of a DEFINED entry (R82). -/
structure Assortment where
  productCode : Nat
  speciesMask : BitVec 16
  minTop : Nat
  maxButt : Nat
  lengths : List Nat
  classWidth : Nat
  prices : Vector Nat 8
  groupAllowed : Bool
  deriving DecidableEq, Repr

/-- A bank of 32 entries, each EMPTY (none) or DEFINED (R82). -/
abbrev Bank := Vector (Option Assortment) 32

/-- An entry of the species taper table (R94). -/
structure TaperEntry where
  tmin : Nat
  tdefault : Nat
  tmax : Nat
  deriving DecidableEq, Repr

/-- The Assortment Table (file 05, state table). -/
structure AssortmentTable where
  active : Bank
  edit : Bank
  lockSize : Nat
  swapPending : Bool
  taper : Vector TaperEntry 16
  deriving DecidableEq, Repr

/-! ### The Bucking Engine (files 06 and 07). -/

/-- One member in a snapshot (R99): species, felling order, whether it is the lead, the positions and diameters of its
profile, and the taper entry of its species. -/
structure SnapMember where
  species : Nat
  order : Nat
  isLead : Bool
  profile : List (Nat × Nat)
  taper : TaperEntry
  deriving DecidableEq, Repr

/-- The snapshot of a pass (R99). -/
structure Snapshot where
  length : Int
  slowDistance : Nat
  leadMargin : Nat
  taperWindow : Nat
  members : List SnapMember
  pieceCount : Nat
  lastCut : Option Int
  committed : Option PlanPiece
  override : Option Override
  bank : Bank
  deriving DecidableEq, Repr

/-- A pass in flight (R122). -/
structure Pass where
  number : Nat
  lead : Nat
  snapshot : Snapshot
  void : Bool
  deriving DecidableEq, Repr

/-- The Bucking Engine (R122). -/
structure BuckingEngine where
  inFlight : Option Pass
  flag : Bool
  counter : Nat
  lastOutcome : PassOutcome
  lastOutcomePass : Nat
  deriving DecidableEq, Repr

/-! ### The Feed and Cut Sequencer (file 08). -/

/-- The Feed and Cut Sequencer (R138). A timer is none when stopped, and else the milliseconds since its start (R141). -/
structure Sequencer where
  state : SeqState
  pause : Option PauseReason
  reversals : Nat
  overshoot : Bool
  cutKind : Option CutKind
  stopped : Bool
  settleTimer : Option Nat
  sawTimer : Option Nat
  homeTimer : Option Nat
  stallTimer : Option Nat
  stallReference : Int
  deriving DecidableEq, Repr

/-! ### Operating parameters (R169). -/

/-- The operating parameters, in the order of their numbers 0..22 (R169). -/
structure Parameters where
  profileStep : Nat
  taperWindow : Nat
  slowDistance : Nat
  overshootTol : Nat
  leadMargin : Nat
  settleTime : Nat
  sawTimeout : Nat
  homeTimeout : Nat
  stallTime : Nat
  endDiameter : Nat
  disagreeTol : Nat
  slipWindow : Nat
  slipTol : Nat
  wheelConstant : Nat
  rollerConstant : Nat
  encFilter : Nat
  switchFilter : Nat
  sensorSettle : Nat
  feedMask : Mask
  feedAvg : Nat
  trimMask : Mask
  trimAvg : Nat
  autoCut : Bool
  deriving DecidableEq, Repr

/-! ### The Head Bus Port (file 10). -/

/-- One channel of a MEASURE_RESULT notice (R80): average raw, contribution, ARM_LIMIT mark. -/
structure ChannelReport where
  average : Nat
  contribution : Nat
  armLimit : Bool
  deriving DecidableEq, Repr

/-- What a COMPLETE MEASURE_RESULT adds (R80). -/
structure MeasureReport where
  settle : Nat
  channels : List ChannelReport
  knifePair : Option Nat
  rollerPair : Option Nat
  result : Nat
  disagree : Bool
  armLimit : Bool
  deriving DecidableEq, Repr

/-- The notices of the catalogue (section 10.6), each with the items of its rule. -/
inductive Notice where
  | stemOpened (handle slot species order : Nat)
  | stemClosed (handle : Nat) (state : StemState) (reason : EndReason) (pieces discarded : Nat)
  | pieceCut (handle index : Nat) (kind : PieceKind) (cutPosition actual : Int) (assortment value : Option Nat)
  | planInstalled (handle : Nat) (occasion : InstallOccasion) (pass count value : Nat) (usableEnd : Option Int)
      (taper : Nat) (flags : ResultFlags)
  | topWatch (handle position diameter threshold : Nat) (mode : WatchMode) (direction : WatchDirection)
  | lengthSource (previous new : SourceState) (cause : SourceCause) (length : Int)
  | rollerFault (length : Int) (wheelFaulty : Bool)
  | fcsState (previous new : SeqState) (pause : Option PauseReason) (length : Int) (target : Option Int)
  | sawFault (cause : SawFaultCause) (handle : Nat) (kind : Option CutKind) (length : Int) (sawHome sawEnd : Bool)
  | feedStall (state : SeqState) (length reference : Int) (target : Option Int)
  | banksSwapped (occasion : SwapOccasion) (changed defined lockSize : Nat)
  | measureResult (tag : Byte) (mask : Mask) (averaging : Nat) (report : Option MeasureReport)
  | requestsLost (count : Nat) (code tag : Byte)
  deriving DecidableEq, Repr

/-- An answer: its status and the content bytes that follow it (R182). -/
structure Answer where
  status : Status
  content : List Byte
  deriving DecidableEq, Repr

/-- An entry of the request queue (R180). -/
inductive QueueEntry where
  | request (code tag : Byte) (payload : List Byte)
  | error (code tag : Byte)
  deriving DecidableEq, Repr

/-- The partial request (R179), its gap timer in milliseconds since its latest frame. -/
structure PartialRequest where
  code : Byte
  tag : Byte
  size : Nat
  received : List Byte
  nextNumber : Nat
  gap : Nat
  deriving DecidableEq, Repr

/-- The request in service with its answer (R181). -/
structure InService where
  code : Byte
  tag : Byte
  answer : Answer
  deriving DecidableEq, Repr

/-- The message the transmitter is sending, and the number of its frame now on the bus, 0 for the first (R178, R184). -/
structure Transmission where
  kind : MessageKind
  code : Byte
  tag : Byte
  payload : List Byte
  index : Nat
  deriving DecidableEq, Repr

/-- The Head Bus Port (file 10, state table). -/
structure HeadBus where
  node : BitVec 3
  partialRequest : Option PartialRequest
  requests : List QueueEntry
  inService : Option InService
  notices : List Notice
  transmitter : Option Transmission
  lastKind : MessageKind
  requestsLost : Nat
  noticesLost : Nat
  deriving DecidableEq, Repr

/-! ### The machine. -/

/-- The state of the SH20, with the queue of commands that wait (the model's own, log 2). -/
structure State where
  hbp : HeadBus
  stb : StemTable
  lnu : LengthUnit
  lines : InputLines
  dsq : DiameterSequencer
  atb : AssortmentTable
  bke : BuckingEngine
  fcs : Sequencer
  params : Parameters
  pending : List Instr
  deriving DecidableEq, Repr

/-- Why a step stops with a fault. No rule of the spec names an event after which the SH20 does not go on, so there is
no fault: every failing check is an answer status and every failing mechanism a notice or a count. -/
inductive Fault where
  deriving DecidableEq, Repr

/-- Why a command is refused by the model. -/
inductive Refusal where
  /-- Raised by exec's arm for a command that has no meaning yet; safe, since nothing is claimed of it. -/
  | notModelled (mnemonic : String)
  deriving DecidableEq, Repr

/-! ### The state after power-on. -/

/-- The default of every parameter, with both encoder constants at 0 (R169, R172). -/
def Parameters.default : Parameters where
  profileStep := 100
  taperWindow := 2000
  slowDistance := 300
  overshootTol := 20
  leadMargin := 200
  settleTime := 150
  sawTimeout := 2500
  homeTimeout := 1500
  stallTime := 1500
  endDiameter := 25
  disagreeTol := 15
  slipWindow := 250
  slipTol := 12
  wheelConstant := 0
  rollerConstant := 0
  encFilter := 3
  switchFilter := 5
  sensorSettle := 200
  feedMask := .both
  feedAvg := 2
  trimMask := .both
  trimAvg := 8
  autoCut := true

/-- The taper entry after power-on (R94). -/
def TaperEntry.default : TaperEntry := ⟨4, 10, 20⟩

/-- The Assortment Table after power-on (R92). -/
def AssortmentTable.powerOn : AssortmentTable where
  active := Vector.replicate 32 none
  edit := Vector.replicate 32 none
  lockSize := 0
  swapPending := false
  taper := Vector.replicate 16 TaperEntry.default

/-- The Stem Table after power-on (R1, R2, R28). -/
def StemTable.powerOn : StemTable where
  slots := Vector.replicate 8 none
  nextHandle := 1
  group := []

/-- The Length Unit after power-on (R52). -/
def LengthUnit.powerOn : LengthUnit where
  wheelRun := 0
  rollerRun := 0
  base := 0
  length := 0
  limit := false
  source := .roller
  n := 0
  window := ⟨0, 0, 0, 0, 0, Parameters.default.slipWindow⟩
  wheelFaults := 0
  rollerFaults := 0
  wheelFaulty := false
  rollerFaulty := false
  slipSuspended := false
  trigger := 0
  slipSuspect := false
  rollerLen := true

/-- An encoder line after power-on: its accepted level is its first sample (R42). -/
def LineFilter.firstSample (level : Bool) : LineFilter := ⟨level, level, 0⟩

/-- A switch line after power-on: accepted deasserted, whatever the pin shows (R43). -/
def LineFilter.deasserted (pin : Bool) : LineFilter := ⟨pin, false, 0⟩

/-- The lines after a power-on that finds the pins at these levels (R42, R43). -/
def InputLines.powerOn (p : PinLevels) : InputLines where
  wheelA := .firstSample p.wheelA
  wheelB := .firstSample p.wheelB
  rollerA := .firstSample p.rollerA
  rollerB := .firstSample p.rollerB
  wheelContact := .deasserted p.wheelContact
  sawHome := .deasserted p.sawHome
  sawEnd := .deasserted p.sawEnd
  halt := .deasserted p.halt

/-- The Diameter Sequencer after power-on (R64, R70, R79). -/
def DiameterSequencer.powerOn : DiameterSequencer where
  running := none
  feedPending := none
  trimPending := none
  cabPending := none
  ukl := Vector.replicate 9 none
  ukr := Vector.replicate 9 none
  frl := Vector.replicate 9 none
  frr := Vector.replicate 9 none

/-- The Bucking Engine after power-on (R122). -/
def BuckingEngine.powerOn : BuckingEngine where
  inFlight := none
  flag := false
  counter := 0
  lastOutcome := .none
  lastOutcomePass := 0

/-- The Feed and Cut Sequencer with every item at its reset value, in this state (R138). -/
def Sequencer.reset (state : SeqState) : Sequencer where
  state := state
  pause := none
  reversals := 0
  overshoot := false
  cutKind := none
  stopped := false
  settleTimer := none
  sawTimer := none
  homeTimer := none
  stallTimer := none
  stallReference := 0

/-- The Head Bus Port after power-on with this node address (R186). -/
def HeadBus.powerOn (node : BitVec 3) : HeadBus where
  node := node
  partialRequest := none
  requests := []
  inService := none
  notices := []
  transmitter := none
  lastKind := .notice
  requestsLost := 0
  noticesLost := 0

/-- The machine after a power-on with these node pins and line levels (R175), with the commands that wait. -/
def State.powerOn (node : BitVec 3) (pins : PinLevels) (pending : List Instr) : State where
  hbp := .powerOn node
  stb := .powerOn
  lnu := .powerOn
  lines := .powerOn pins
  dsq := .powerOn
  atb := .powerOn
  bke := .powerOn
  fcs := .reset .idle
  params := .default
  pending := pending

/-- DESIGN CHOICE, log 1: the levels State.reset finds at the pins. The spec takes them from outside. -/
def PinLevels.quiet : PinLevels := ⟨false, false, false, false, false, false, false, false⟩

/-- The machine right after reset: power-on (R175) with node address 0 and quiet pins (log 1), no command waiting. -/
def State.reset : State := State.powerOn 0 PinLevels.quiet []

end Sys2Proof.Machine
end

