-- ==== Sys2Proof/Machine/Operands.lean ====
section
/-! DEFINITION. The forms in which items stand in a payload (R187): numbers, optional items, lists, and the number of each
enumeration's value; and the values that request operands name. -/

namespace Sys2Proof.Machine

/-! ### Items of a payload (R187) -/

/-- A u8. -/
def u8 (n : Nat) : List Byte := [BitVec.ofNat 8 n]

/-- A u16, least significant byte first. -/
def u16 (n : Nat) : List Byte := halfBytes (BitVec.ofNat 16 n)

/-- The four bytes of a 32-bit word, least significant first. -/
def wordBytes (w : BitVec 32) : List Byte :=
  [w.extractLsb' 0 8, w.extractLsb' 8 8, w.extractLsb' 16 8, w.extractLsb' 24 8]

/-- A u32. -/
def u32 (n : Nat) : List Byte := wordBytes (BitVec.ofNat 32 n)

/-- An i32 in two's complement. -/
def i32 (z : Int) : List Byte := wordBytes (BitVec.ofInt 32 z)

/-- A position laid out as a u16 (R188). FREE VALUE, log 10, where the position does not fit. -/
def posU16 (z : Int) : List Byte :=
  if 0 ≤ z ∧ z < 65536 then u16 z.toNat else halfBytes (Config.halfUnstated z)

/-- Yes and no as 1 and 0, and so a flag, mark or line level that stands alone (log 13). -/
def yesNo (b : Bool) : List Byte := u8 (if b then 1 else 0)

/-- An optional u8: all bits set when absent. -/
def optU8 (o : Option Nat) : List Byte := u8 (o.getD 255)

/-- An optional u16. -/
def optU16 (o : Option Nat) : List Byte := u16 (o.getD 65535)

/-- An optional u32. -/
def optU32 (o : Option Nat) : List Byte := u32 (o.getD 4294967295)

/-- An optional position laid out as a u16. -/
def optPosU16 (o : Option Int) : List Byte :=
  match o with
  | some z => posU16 z
  | none => u16 65535

/-- An optional i32. -/
def optI32 (o : Option Int) : List Byte := i32 (o.getD (-2147483648))

/-- A list: a u8 count and then the entries. -/
def listBytes (entries : List (List Byte)) : List Byte := u8 entries.length ++ entries.flatten

/-- An optional list: its presence, and then the list; an absent list carries no count. -/
def optListBytes (o : Option (List (List Byte))) : List Byte :=
  match o with
  | some entries => u8 1 ++ listBytes entries
  | none => u8 0

/-! ### Numbers of enumeration values, from 0 in the order the owning rule lists them (R187) -/

/-- Number of a record state (R5). -/
def StemState.number : StemState → Nat
  | .felling => 0 | .held => 1 | .processing => 2 | .closed => 3 | .abandoned => 4

/-- Number of an end reason (R5). -/
def EndReason.number : EndReason → Nat
  | .topped => 0 | .fellOut => 1 | .released => 2 | .dropped => 3 | .fellFailed => 4

/-- Number of a role (R5). -/
def Role.number : Role → Nat
  | .lead => 0 | .member => 1

/-- Number of an update mode (R5). -/
def UpdateMode.number : UpdateMode → Nat
  | .immediate => 0 | .atStop => 1

/-- Number of a top watch mode (R5). -/
def WatchMode.number : WatchMode → Nat
  | .fall => 0 | .every => 1

/-- Number of a top watch origin (R5). -/
def WatchOrigin.number : WatchOrigin → Nat
  | .default => 0 | .set => 1

/-- Number of a top watch direction (R23). -/
def WatchDirection.number : WatchDirection → Nat
  | .falling => 0 | .rising => 1

/-- Number of a length source summary (R5). -/
def SourceSummary.number : SourceSummary → Nat
  | .wheelOnly => 0 | .mixed => 1 | .rollerOnly => 2

/-- Number of a piece kind (R188). -/
def PieceKind.number : PieceKind → Nat
  | .plannedCut => 0 | .overrideCut => 1 | .operatorCut => 2 | .wasteCut => 3

/-- Number of a group state (R185). -/
def GroupState.number : GroupState → Nat
  | .empty => 0 | .held => 1 | .processing => 2

/-- Number of a length source state (file 03, state table). -/
def SourceState.number : SourceState → Nat
  | .wheel => 0 | .disputed => 1 | .roller => 2 | .rejoin => 3

/-- Number of a LENGTH_SOURCE cause (R60). -/
def SourceCause.number : SourceCause → Nat
  | .disputes => 0 | .agreements => 1 | .contactLost => 2 | .wheelFault => 3 | .datum => 4

/-- Code of a mask (R169). -/
def Mask.code : Mask → Nat
  | .knives => 1 | .rollers => 2 | .both => 3

/-- Number of the DSQ state (file 04, state table): IDLE, RUNNING(FEED), RUNNING(TRIM), RUNNING(CAB). -/
def DiameterSequencer.stateNumber (d : DiameterSequencer) : Nat :=
  match d.running with
  | none => 0
  | some r =>
    match r.target with
    | .feed _ => 1
    | .trim _ => 2
    | .cab _ => 3

/-- Number of a pass outcome (R122). -/
def PassOutcome.number : PassOutcome → Nat
  | .none => 0 | .discarded => 1 | .stale => 2 | .late => 3 | .installed => 4 | .held => 5

/-- Number of a sequencer state (R138). -/
def SeqState.number : SeqState → Nat
  | .idle => 0 | .felling => 1 | .holding => 2 | .waiting => 3 | .feeding => 4 | .creeping => 5 | .settling => 6
  | .reversing => 7 | .atTarget => 8 | .cutting => 9 | .sawReturn => 10 | .paused => 11 | .halted => 12

/-- Number of a pause reason (R138). -/
def PauseReason.number : PauseReason → Nat
  | .stopRequest => 0 | .planDone => 1 | .sawTimeout => 2 | .sawNotHome => 3 | .feedStall => 4 | .haltReleased => 5

/-- Number of a cut kind (R138). -/
def CutKind.number : CutKind → Nat
  | .planned => 0 | .offPlan => 1

/-- Number of a SAW_FAULT cause (R164). -/
def SawFaultCause.number : SawFaultCause → Nat
  | .fellTimeout => 0 | .cutTimeout => 1 | .homeTimeout => 2

/-- Number of a swap occasion (R88). -/
def SwapOccasion.number : SwapOccasion → Nat
  | .atRequest => 0 | .atSafePoint => 1

/-- Number of an install occasion (R136). -/
def InstallOccasion.number : InstallOccasion → Nat
  | .direct => 0 | .fromPending => 1

/-- Code of an answer status (R182). -/
def Status.code : Status → Nat
  | .ok => 0 | .clamped => 1 | .pending => 2 | .accepted => 3 | .busy => 4 | .full => 5 | .noStem => 6
  | .wrongState => 7 | .locked => 8 | .range => 9 | .order => 10 | .frozen => 11 | .notConfigured => 12
  | .notReady => 13 | .sawNotHome => 14 | .swapPending => 15 | .segmentError => 16 | .unknownRequest => 17

/-! ### Values that operands name -/

/-- The mask of a code (R169), and none for a code that names no mask. -/
def Mask.ofCode : Nat → Option Mask
  | 1 => some .knives
  | 2 => some .rollers
  | 3 => some .both
  | _ => none

/-- The averaging counts (R67). -/
def isAveraging (n : Nat) : Bool := n == 1 || n == 2 || n == 4 || n == 8

/-- The arm of a number (R63, R187). -/
def Channel.ofNumber : Nat → Option Channel
  | 0 => some .ukl
  | 1 => some .ukr
  | 2 => some .frl
  | 3 => some .frr
  | _ => none

/-- The update mode of a number (R21). -/
def UpdateMode.ofNumber : Nat → Option UpdateMode
  | 0 => some .immediate
  | 1 => some .atStop
  | _ => none

/-- The top watch mode of a number (R22). -/
def WatchMode.ofNumber : Nat → Option WatchMode
  | 0 => some .fall
  | 1 => some .every
  | _ => none

end Sys2Proof.Machine
end

