-- ==== Sys2Proof/Machine/Flags.lean ====
section
/-! DEFINITION. Sets of flags: how each is carried (R187, R188), and the flags the blocks compute. -/

namespace Sys2Proof.Machine

/-- A set of flags as a number, bit i for the flag in place i of its rule's list (R187). -/
def flagBits : List Bool → Nat
  | [] => 0
  | b :: rest => (if b then 1 else 0) + 2 * flagBits rest

/-- Bits 0..5 of byte 6 of a profile sample (R188). -/
def SampleFlags.bits (f : SampleFlags) : Nat :=
  flagBits [f.butt, f.disagree, f.armLimit, f.slipSuspect, f.rollerLen, f.estimated]

/-- Byte 18 of a piece (R188). -/
def PieceFlags.bits (f : PieceFlags) : Nat := flagBits [f.overshoot, f.slipSuspect, f.rollerLen]

/-- The flags of a PLAN_INSTALLED notice (R119, R136). -/
def ResultFlags.bits (f : ResultFlags) : Nat :=
  flagBits [f.defaultTaper, f.overrideDropped, f.noEligible, f.noUsableEnd]

/-- The code of an averaging count in byte 6 of a profile sample (R188). -/
def averagingCode (n : Nat) : Nat :=
  if n = 1 then 0 else if n = 2 then 1 else if n = 4 then 2 else 3

/-- The flags of the BUTT sample of a TRIM result (R9). -/
def SampleFlags.ofTrim (disagree armLimit : Bool) : SampleFlags :=
  ⟨true, disagree, armLimit, false, false, false⟩

/-- The flags of the sample of a FEED result (R10, step 4): the source at the capture decides ROLLER_LEN, and a group of
two or more active members ESTIMATED. -/
def SampleFlags.ofFeed (disagree armLimit : Bool) (source : SourceState) (members : Nat) : SampleFlags :=
  ⟨false, disagree, armLimit, false, source == .roller || source == .rejoin, decide (2 ≤ members)⟩

end Sys2Proof.Machine
end

