-- ==== Sys2Proof/Machine/Notices.lean ====
section
/-! DEFINITION. The notice queue (R183), and the code and payload of each notice (section 10.6, R187). -/

namespace Sys2Proof.Machine

/-- The catalogue's code of a notice (section 10.6). -/
def Notice.code : Notice → Byte
  | .stemOpened _ _ _ _ => 1
  | .stemClosed _ _ _ _ _ => 2
  | .pieceCut _ _ _ _ _ _ _ => 3
  | .planInstalled _ _ _ _ _ _ _ _ => 4
  | .topWatch _ _ _ _ _ _ => 5
  | .lengthSource _ _ _ _ => 16
  | .rollerFault _ _ => 17
  | .fcsState _ _ _ _ _ => 32
  | .sawFault _ _ _ _ _ _ => 33
  | .feedStall _ _ _ _ => 34
  | .banksSwapped _ _ _ _ => 48
  | .measureResult _ _ _ _ => 64
  | .requestsLost _ _ _ => 80

/-- One channel of a MEASURE_RESULT (R80). -/
def ChannelReport.bytes (c : ChannelReport) : List Byte := u16 c.average ++ u16 c.contribution ++ yesNo c.armLimit

/-- The items of a MEASURE_RESULT after the averaging count (R80): each is optional, the channels an optional list (R187),
and an ABORTED one carries them all as absent (log 14). -/
def measureBytes (report : Option MeasureReport) : List Byte :=
  optU16 (report.map fun m => m.settle) ++
    optListBytes (report.map fun m => m.channels.map ChannelReport.bytes) ++
    optU16 (report.bind fun m => m.knifePair) ++ optU16 (report.bind fun m => m.rollerPair) ++
    optU16 (report.map fun m => m.result) ++ optU8 (report.map fun m => flagBits [m.disagree, m.armLimit])

/-- The payload of a notice, its items in the order its rule lists them (R187). -/
def Notice.payload : Notice → List Byte
  | .stemOpened h slot species order => u16 h ++ u8 slot ++ u8 species ++ u8 order
  | .stemClosed h st why pieces discarded => u16 h ++ u8 st.number ++ u8 why.number ++ u8 pieces ++ u8 discarded
  | .pieceCut h i kind pos actual a v =>
      u16 h ++ u8 i ++ u8 kind.number ++ posU16 pos ++ posU16 actual ++ optU8 a ++ optU32 v
  | .planInstalled h occ pass count value e taper flags =>
      u16 h ++ u8 occ.number ++ u8 pass ++ u8 count ++ u32 value ++ optPosU16 e ++ u8 taper ++ u8 flags.bits
  | .topWatch h pos d th mode dir => u16 h ++ u16 pos ++ u16 d ++ u16 th ++ u8 mode.number ++ u8 dir.number
  | .lengthSource old new cause len => u8 old.number ++ u8 new.number ++ u8 cause.number ++ i32 len
  | .rollerFault len wheel => i32 len ++ yesNo wheel
  | .fcsState old new pause len target =>
      u8 old.number ++ u8 new.number ++ optU8 (pause.map PauseReason.number) ++ i32 len ++ optPosU16 target
  | .sawFault cause h kind len home stroke =>
      u8 cause.number ++ u16 h ++ optU8 (kind.map CutKind.number) ++ i32 len ++ yesNo home ++ yesNo stroke
  | .feedStall st len ref target => u8 st.number ++ i32 len ++ i32 ref ++ optPosU16 target
  | .banksSwapped occ changed defined lock => u8 occ.number ++ u8 changed ++ u8 defined ++ u8 lock
  | .measureResult tag mask avg report =>
      u8 (if report.isSome then 0 else 1) ++ [tag] ++ u8 mask.code ++ u8 avg ++ measureBytes report
  | .requestsLost count code tag => u8 count ++ [code] ++ [tag]

/-- A notice is offered to the notice queue (R183): appended while fewer than 16 stand in it, else lost and counted. -/
def State.offerNotice (s : State) (n : Notice) : State :=
  if s.hbp.notices.length < 16 then { s with hbp.notices := s.hbp.notices ++ [n] }
  else { s with hbp.noticesLost := saturate s.hbp.noticesLost }

end Sys2Proof.Machine
end

