-- ==== Sys2Proof/Machine/Ops.lean ====
section
/-! DEFINITION. The shared operations over stem records, the feed group, the lead's plan, the lines and answers. The SH20
has no exception entry and no addressed memory: a failing check is an answer status. -/

namespace Sys2Proof.Machine

/-! ### Records and slots (R1, R2) -/

/-- The record in a slot, if the slot holds one. -/
def State.record? (s : State) (slot : Nat) : Option StemRecord := (s.stb.slots[slot]?).join

/-- Puts a record into a slot, or frees it. -/
def State.setSlot (s : State) (slot : Nat) (r : Option StemRecord) : State :=
  { s with stb.slots := s.stb.slots.setIfInBounds slot r }

/-- Changes the record in a slot, if the slot holds one. -/
def State.modifySlot (s : State) (slot : Nat) (f : StemRecord → StemRecord) : State :=
  match s.record? slot with
  | some r => s.setSlot slot (some (f r))
  | none => s

/-- Whether an occupied slot holds this handle (R2). -/
def State.holdsHandle (s : State) (handle : Nat) : Bool :=
  s.stb.slots.toList.any fun o => o.any fun r => r.handle == handle

/-- The slot whose record has this handle (R2). -/
def State.findSlot (s : State) (handle : Nat) : Option Nat :=
  s.stb.slots.toList.findIdx? fun o => o.any fun r => r.handle == handle

/-- The slot and record a request's handle names; none is answered NO_STEM (R2, R7). -/
def State.findRecord (s : State) (handle : Nat) : Option (Nat × StemRecord) :=
  match s.findSlot handle with
  | some slot => (s.record? slot).map fun r => (slot, r)
  | none => none

/-- The lowest-numbered FREE slot (R1). -/
def State.freeSlot? (s : State) : Option Nat := s.stb.slots.toList.findIdx? fun o => o.isNone

/-- The number of FREE slots (R24, R185). -/
def State.freeSlots (s : State) : Nat := s.stb.slots.toList.countP fun o => o.isNone

/-- The count of PROCESSING records (R4, R28). -/
def State.processingCount (s : State) : Nat :=
  s.stb.slots.toList.countP fun o => o.any fun r => r.state == .processing

/-- The slot of the record being felled (R3). -/
def State.fellingSlot? (s : State) : Option Nat :=
  s.stb.slots.toList.findIdx? fun o => o.any fun r => r.state == .felling

/-! ### The feed group (R28) -/

/-- The members of the feed group with their slots, bottom first, so in ascending felling order (R28). -/
def State.members (s : State) : List (Nat × StemRecord) :=
  s.stb.group.filterMap fun i => (s.record? i).map fun r => (i, r)

/-- The state of the group: empty, or the state its entries share (R28). -/
def State.groupState (s : State) : GroupState :=
  match s.members with
  | [] => .empty
  | (_, r) :: _ => if r.state = .processing then .processing else .held

/-- Changes every member of the group, in ascending felling order. -/
def State.modifyMembers (s : State) (f : StemRecord → StemRecord) : State :=
  s.stb.group.foldl (fun s i => s.modifySlot i f) s

/-- Changes every member while the group is PROCESSING, and nothing otherwise (R12, R13). -/
def State.modifyActive (s : State) (f : StemRecord → StemRecord) : State :=
  if s.groupState = .processing then s.modifyMembers f else s

/-- The slot and record of the lead of a PROCESSING group (R6, R33). -/
def State.lead? (s : State) : Option (Nat × StemRecord) :=
  if s.groupState = .processing then s.members.find? fun m => m.2.role == some .lead else none

/-! ### The lead's plan (R14, R101) -/

/-- The COMMITTED first plan piece of a record (R14). -/
def StemRecord.committed? (r : StemRecord) : Option PlanPiece :=
  match r.plan with
  | p :: _ => if p.status = .committed then some p else none
  | [] => none

/-- The cut position of a record's last piece (R101). -/
def StemRecord.lastCut? (r : StemRecord) : Option Int := (r.pieces.getLast?).map fun p => p.cutPosition

/-- The origin by the steps of R101: the COMMITTED piece's cut position, else the last piece's, else 0. -/
def originOf (committed : Option PlanPiece) (lastCut : Option Int) : Int :=
  match committed with
  | some p => p.cutPosition
  | none => lastCut.getD 0

/-- The present origin of a record (R101, R128). -/
def StemRecord.origin (r : StemRecord) : Int := originOf r.committed? r.lastCut?

/-- Sets the plan, and with it the plan value (R14). -/
def StemRecord.setPlan (r : StemRecord) (plan : List PlanPiece) : StemRecord :=
  { r with plan := plan, planValue := (plan.map fun p => p.value).sum }

/-- The target: the cut position of the lead's first plan piece (R140, section 8.4). -/
def State.target? (s : State) : Option Int :=
  match s.lead? with
  | some (_, r) => (r.plan.head?).map fun p => p.cutPosition
  | none => none

/-- Whether the lead's plan holds a piece. -/
def State.planNonempty (s : State) : Bool := s.target?.isSome

/-- A pass is outstanding (R122). -/
def State.passOutstanding (s : State) : Bool := s.bke.inFlight.isSome || s.bke.flag

/-! ### Lines -/

/-- A filter after one sample of its line: the level changes when n successive samples show the new one (R42). -/
def LineFilter.sample (n : Nat) (f : LineFilter) : LineFilter :=
  if f.pin = f.accepted then { f with run := 0 }
  else if n ≤ f.run + 1 then ⟨f.pin, f.pin, 0⟩
  else { f with run := f.run + 1 }

/-- A line that has been accepted at a level. -/
def LineFilter.settled (level : Bool) : LineFilter := ⟨level, level, 0⟩

/-- The six demand lines (R139). -/
structure DemandLines where
  feedFwd : Bool
  feedRev : Bool
  feedFast : Bool
  sawRun : Bool
  knifeGrip : Bool
  accumClose : Bool
  deriving DecidableEq, Repr

/-- The demand lines as the sequencer's state and the feed group give them (R139). -/
def State.demand (s : State) : DemandLines where
  feedFwd := s.fcs.state == .feeding || s.fcs.state == .creeping
  feedRev := s.fcs.state == .reversing
  feedFast := s.fcs.state == .feeding
  sawRun := s.fcs.state == .felling || s.fcs.state == .cutting
  knifeGrip := s.fcs.state == .felling || !s.stb.group.isEmpty
  accumClose := !s.stb.group.isEmpty

/-! ### Answers (R182) -/

/-- An answer of a status alone. -/
def Answer.only (st : Status) : Answer := ⟨st, []⟩

/-- An OK answer with content. -/
def Answer.okWith (content : List Byte) : Answer := ⟨.ok, content⟩

end Sys2Proof.Machine
end

