-- ==== Sys2Proof/Machine/Assortments.lean ====
section
/-! DEFINITION. The Assortment Table (file 05): entry checks, the requests on the banks, the bank swap, the lock size,
eligibility and the species taper table. -/

namespace Sys2Proof.Machine

/-- The number of places in which two banks differ below a bound (R88, R90). -/
def bankDifferences (bound : Nat) (a b : Bank) : Nat :=
  ((a.toList.take bound).zip (b.toList.take bound)).countP fun p => p.1 != p.2

/-- The number of DEFINED entries of a bank (R98). -/
def Bank.defined (b : Bank) : Nat := b.toList.countP fun o => o.isSome

/-- An entry of a bank, EMPTY outside 0..31. -/
def Bank.entry? (b : Bank) (number : Nat) : Option Assortment := (b[number]?).join

/-- Whether a species mask includes a species (R82, R189). -/
def Assortment.accepts (a : Assortment) (species : Nat) : Bool := a.speciesMask.getLsbD species

/-! ### Content of a write (R83, R189) -/

/-- The allowed lengths an image holds: its first lengthCount slots. -/
def EntryImage.lengths (e : EntryImage) : List Nat := (e.lengthSlots.toList.map BitVec.toNat).take e.lengthCount.toNat

/-- Round 1 of the content checks (R83), with the checks on the layout (R189). -/
def EntryImage.rangesOk (e : EntryImage) : Bool :=
  e.speciesMask != 0 &&
  decide (30 ≤ e.minTop.toNat ∧ e.minTop.toNat ≤ 600) &&
  decide (50 ≤ e.maxButt.toNat ∧ e.maxButt.toNat ≤ 999) &&
  decide (1 ≤ e.lengthCount.toNat ∧ e.lengthCount.toNat ≤ 6) &&
  (EntryImage.lengths e).all (fun l => decide (500 ≤ l ∧ l ≤ 9900 ∧ l % 100 = 0)) &&
  decide (10 ≤ e.classWidth.toNat ∧ e.classWidth.toNat ≤ 100) &&
  decide (e.groupAllowed.toNat ≤ 1)

/-- Whether a list of lengths strictly ascends. -/
def strictlyAscending : List Nat → Bool
  | a :: b :: rest => decide (a < b) && strictlyAscending (b :: rest)
  | _ => true

/-- Round 2 of the content checks (R83). -/
def EntryImage.orderOk (e : EntryImage) : Bool :=
  decide (e.minTop.toNat < e.maxButt.toNat) && strictlyAscending (EntryImage.lengths e)

/-- The DEFINED entry an image that passes the checks stands for (R84). -/
def EntryImage.assortment (e : EntryImage) : Assortment where
  productCode := e.productCode.toNat
  speciesMask := e.speciesMask
  minTop := e.minTop.toNat
  maxButt := e.maxButt.toNat
  lengths := EntryImage.lengths e
  classWidth := e.classWidth.toNat
  prices := Vector.ofFn fun i => (e.prices[i]).toNat
  groupAllowed := e.groupAllowed.toNat == 1

/-- The status of the first failing content check (R83), and none when the content passes. -/
def EntryImage.failure? (e : EntryImage) : Option Status :=
  if !EntryImage.rangesOk e then some .range else if !EntryImage.orderOk e then some .order else none

/-! ### Editing the EDIT bank (R84, R85, R89) -/

/-- The first failing check of number, lock and swap (R84, R85). -/
def State.editFailure? (s : State) (number : Nat) : Option Status :=
  if 31 < number then some .range
  else if number < s.atb.lockSize then some .locked
  else if s.atb.swapPending then some .swapPending
  else none

/-- Puts an entry into the EDIT bank. -/
def State.setEdit (s : State) (number : Nat) (entry : Option Assortment) : State :=
  { s with atb.edit := s.atb.edit.setIfInBounds number entry }

/-- WRITE_ASSORTMENT (R84). -/
def answerWriteAssortment (number : Nat) (image : EntryImage) (s : State) : State × Answer :=
  match s.editFailure? number with
  | some st => (s, .only st)
  | none =>
    match EntryImage.failure? image with
    | some st => (s, .only st)
    | none => (s.setEdit number (some (EntryImage.assortment image)), .only .ok)

/-- RETIRE_ASSORTMENT (R85). -/
def answerRetireAssortment (number : Nat) (s : State) : State × Answer :=
  match s.editFailure? number with
  | some st => (s, .only st)
  | none => (s.setEdit number none, .only .ok)

/-! ### The bank swap (R87, R88) -/

/-- Applying a swap: copy, flag, notice (R88). -/
def State.applySwap (s : State) (occasion : SwapOccasion) : State :=
  ({ s with atb.active := s.atb.edit, atb.swapPending := false }).offerNotice
    (.banksSwapped occasion (bankDifferences 32 s.atb.active s.atb.edit) (Bank.defined s.atb.edit) s.atb.lockSize)

/-- The safe point signal applies a pending swap (R4, R88). -/
def State.safePoint (s : State) : State := if s.atb.swapPending then s.applySwap .atSafePoint else s

/-- SWAP_BANKS (R87). -/
def answerSwapBanks (s : State) : State × Answer :=
  if s.processingCount = 0 then (s.applySwap .atRequest, .only .ok)
  else ({ s with atb.swapPending := true }, .only .pending)

/-! ### The lock size (R90, R91) -/

/-- Raising the lock: ACTIVE is copied into EDIT below the new size, and the size is stored (R90). -/
def State.raiseLock (s : State) (size : Nat) : State :=
  { s with
    atb.edit := Vector.ofFn fun i => if i.val < size then s.atb.active[i] else s.atb.edit[i]
    atb.lockSize := size }

/-- SET_LOCK_SIZE (R90). -/
def answerSetLockSize (size : Nat) (s : State) : State × Answer :=
  if !(size == 0 || size == 4 || size == 8 || size == 16) then (s, .only .range)
  else if size < s.atb.lockSize then (s, .only .locked)
  else if size = s.atb.lockSize then (s, .okWith (u8 size ++ u8 0))
  else if s.atb.swapPending then (s, .only .swapPending)
  else (s.raiseLock size, .okWith (u8 size ++ u8 (bankDifferences size s.atb.active s.atb.edit)))

/-! ### Reading an entry (R86, R189) -/

/-- Bytes 1..39 of the layout for a DEFINED entry: 0 in the slots beyond its length count (R189). -/
def Assortment.bytes (a : Assortment) : List Byte :=
  u16 a.productCode ++ halfBytes a.speciesMask ++ u16 a.minTop ++ u16 a.maxButt ++ u8 a.lengths.length ++
    ((List.range 6).flatMap fun i => u16 (a.lengths.getD i 0)) ++ u8 a.classWidth ++ (a.prices.toList.flatMap u16) ++
    yesNo a.groupAllowed

/-- READ_ASSORTMENT (R86). -/
def answerReadAssortment (bank number : Nat) (s : State) : State × Answer :=
  if 1 < bank ∨ 31 < number then (s, .only .range)
  else
    let entry := Bank.entry? (if bank = 0 then s.atb.active else s.atb.edit) number
    (s, .okWith (u8 bank ++ u8 number ++ yesNo entry.isSome ++ yesNo (decide (number < s.atb.lockSize)) ++
      (match entry with
       | some a => a.bytes
       | none => [])))

/-! ### Eligibility (R93) and the top watch default (R22) -/

/-- Whether an entry is eligible for a group of these species (R93). -/
def Assortment.eligible (a : Assortment) (species : List Nat) : Bool :=
  species.all a.accepts && (a.groupAllowed || decide (species.length < 2))

/-- The default top watch threshold of a species: the smallest min top among the DEFINED ACTIVE entries whose mask
includes it, or 0 (R22). -/
def State.defaultThreshold (s : State) (species : Nat) : Nat :=
  ((s.atb.active.toList.filterMap id).filter fun a => a.accepts species).foldl
    (fun least a => match least with
      | none => some a.minTop
      | some m => some (min m a.minTop)) none |>.getD 0

/-! ### The species taper table (R94 to R96) -/

/-- The taper entry of a species (R94). -/
def State.taperOf (s : State) (species : Nat) : TaperEntry := (s.atb.taper[species]?).getD TaperEntry.default

/-- SET_SPECIES_TAPER (R95). -/
def answerSetSpeciesTaper (species tmin tdefault tmax : Nat) (s : State) : State × Answer :=
  if 15 < species then (s, .only .range)
  else if 40 < tmin ∨ 40 < tdefault ∨ 40 < tmax then (s, .only .range)
  else if ¬(tmin ≤ tdefault ∧ tdefault ≤ tmax) then (s, .only .order)
  else ({ s with atb.taper := s.atb.taper.setIfInBounds species ⟨tmin, tdefault, tmax⟩ }, .only .ok)

/-- READ_SPECIES_TAPER (R96). -/
def answerReadSpeciesTaper (species : Nat) (s : State) : State × Answer :=
  if 15 < species then (s, .only .range)
  else
    let t := s.taperOf species
    (s, .okWith (u8 species ++ u8 t.tmin ++ u8 t.tdefault ++ u8 t.tmax))

end Sys2Proof.Machine
end

