-- ==== Sys2Proof/Machine/Bucking.lean ====
section
/-! DEFINITION. Bucking arithmetic (file 06): the diameter-at-position rule, price classes and values, and the computation
of a pass from its snapshot to its result, a dynamic programme over grid points and remaining counts. -/

namespace Sys2Proof.Machine

/-! ### Diameter along a member (R105 to R108) -/

/-- The diameter at a position inside a profile, half up between neighbouring samples (R105). -/
def interpolateProfile : List (Nat × Nat) → Nat → Nat
  | [], _ => 0
  | [(_, d)], _ => d
  | (x0, d0) :: (x1, d1) :: rest, x =>
    if x ≤ x0 then d0
    else if x < x1 then
      (halfUp ((d0 : Int) * ((x1 : Int) - x0) + ((d1 : Int) - d0) * ((x : Int) - x0)) (x1 - x0)).toNat
    else interpolateProfile ((x1, d1) :: rest) x

/-- The taper of a member (R106): estimated over the taper window and clamped, or the default while the profile is
shorter than the window. -/
def profileTaper (profile : List (Nat × Nat)) (window : Nat) (entry : TaperEntry) : Nat :=
  match profile.getLast? with
  | none => entry.tdefault
  | some (p, d) =>
    if p < window then entry.tdefault
    else
      let back := interpolateProfile profile (p - window)
      (clampInt entry.tmin entry.tmax (halfUp (((back : Int) - d) * 1000) window)).toNat

/-- The diameter-at-position rule (R105, R107) for a profile and its taper. FREE VALUE, log 8, before the datum and on an
empty profile. -/
def diameterAt (profile : List (Nat × Nat)) (taper : Nat) (x : Int) : Nat :=
  match profile.getLast? with
  | none => (Config.diameterUnstated profile x).val
  | some (p, d) =>
    if x < 0 then (Config.diameterUnstated profile x).val
    else if x ≤ p then interpolateProfile profile x.toNat
    else d - divUp (taper * (x.toNat - p)) 1000

/-- The positions and diameters of a profile, all that the rule reads of it (R100). -/
def profilePoints (profile : List Sample) : List (Nat × Nat) := profile.map fun s => (s.position, s.diameter)

/-- The rule applied to a record outside a pass, with the settings as they stand (R108). -/
def State.recordDiameter (s : State) (r : StemRecord) (x : Int) : Nat :=
  let points := profilePoints r.profile
  diameterAt points (profileTaper points s.params.taperWindow (s.taperOf r.species)) x

/-! ### Price classes and values (R82, R112) -/

/-- The price class of a top diameter (R112): class 0 below the min top diameter, class 7 at most. -/
def Assortment.priceClass (a : Assortment) (top : Nat) : Nat := min 7 ((top - a.minTop) / a.classWidth)

/-- The value of one member's piece (R112, R16). -/
def Assortment.memberValue (a : Assortment) (nominal top : Nat) : Nat :=
  (a.prices[a.priceClass top]?).getD 0 * nominal / 1000

/-! ### The snapshot's inputs (R101 to R104, R109) -/

/-- The origin of a pass (R101). -/
def Snapshot.origin (s : Snapshot) : Int := originOf s.committed s.lastCut

/-- The earliest first cut (R102). -/
def Snapshot.earliest (s : Snapshot) : Int := s.length + s.slowDistance + s.leadMargin

/-- The allowance (R103). -/
def Snapshot.allowance (s : Snapshot) : Nat := 12 - s.pieceCount - (if s.committed.isSome then 1 else 0)

/-- Each member's profile with its taper (R106). -/
def Snapshot.tapered (s : Snapshot) : List (List (Nat × Nat) × Nat) :=
  s.members.map fun m => (m.profile, profileTaper m.profile s.taperWindow m.taper)

/-- Every member's diameter at a position. -/
def diametersAt (tapered : List (List (Nat × Nat) × Nat)) (x : Int) : List Nat :=
  tapered.map fun m => diameterAt m.1 m.2 x

/-- The lead of a snapshot. -/
def Snapshot.lead? (s : Snapshot) : Option SnapMember := s.members.find? fun m => m.isLead

/-- The lead's taper (R106, R119). -/
def Snapshot.leadTaper (s : Snapshot) : Nat :=
  match s.lead? with
  | some m => profileTaper m.profile s.taperWindow m.taper
  | none => 0

/-- The lead's diameter at a position (R118). -/
def Snapshot.leadDiameter (s : Snapshot) (x : Int) : Nat :=
  match s.lead? with
  | some m => diameterAt m.profile (profileTaper m.profile s.taperWindow m.taper) x
  | none => 0

/-- Whether the profile end lies short of the taper window (R106). -/
def Snapshot.defaultTaper (s : Snapshot) : Bool :=
  match s.lead?.bind fun m => m.profile.getLast? with
  | some (p, _) => decide (p < s.taperWindow)
  | none => true

/-- The eligible set with the entries' numbers, ascending (R109). -/
def Snapshot.eligible (s : Snapshot) : List (Nat × Assortment) :=
  s.bank.toList.zipIdx.filterMap fun e => match e.1 with
    | some a => if a.eligible (s.members.map fun m => m.species) then some (e.2, a) else none
    | none => none

/-- The smallest min top diameter of a set of entries (R109). -/
def smallestTop : List (Nat × Assortment) → Option Nat
  | [] => none
  | (_, a) :: rest =>
    match smallestTop rest with
    | none => some a.minTop
    | some m => some (min a.minTop m)

/-! ### Grid and usable end (R110) -/

/-- The members' diameters at the grid points in use: g_k for k in 0..300, none above 60000 (R110). -/
def Snapshot.grid (s : Snapshot) : List (List Nat) :=
  (((List.range 301).map fun (k : Nat) => s.origin + 100 * (k : Int)).takeWhile fun g => g ≤ 60000).map
    (diametersAt s.tapered)

/-- K, the largest grid index at which every member has the smallest top diameter (R110). -/
def usableIndex (grid : List (List Nat)) (least : Nat) : Option Nat :=
  ((grid.zipIdx.filter fun g => g.1.all fun d => decide (least ≤ d)).getLast?).map fun g => g.2

/-! ### Candidates and the dynamic programme (R111 to R115) -/

/-- A valid piece: its entry number, nominal length, the grid index it ends at, and its planned value. -/
structure Candidate where
  assortment : Nat
  nominal : Nat
  next : Nat
  value : Nat
  deriving DecidableEq, Repr

/-- The valid pieces from grid index k, in the order they are tried: entries ascending, lengths descending (R111, R112,
R114). -/
def candidatesAt (grid : List (List Nat)) (eligible : List (Nat × Assortment)) (last k : Nat) : List Candidate :=
  eligible.flatMap fun e =>
    e.2.lengths.reverse.filterMap fun nominal =>
      let next := k + nominal / 100
      let tops := grid.getD next []
      if next ≤ last ∧ (tops.all fun d => decide (e.2.minTop ≤ d)) ∧
          ((grid.getD k []).all fun d => decide (d ≤ e.2.maxButt)) then
        some ⟨e.1, nominal, next, (tops.map (e.2.memberValue nominal)).sum⟩
      else none

/-- One row of the table: for each grid index in 0..K the best value and the choice that gives it, none for stop (R113). -/
abbrev Row := List (Nat × Option Candidate)

/-- The best of stop and the candidates, given the row of the next lower count: a candidate replaces the best found so
far only when its value is strictly greater (R113, R114). -/
def bestChoice (below : Row) (candidates : List Candidate) : Nat × Option Candidate :=
  candidates.foldl
    (fun best c =>
      let v := c.value + (below.getD c.next (0, none)).1
      if best.1 < v then (v, some c) else best)
    (0, none)

/-- The rows for the remaining counts r, r - 1, ..., 0 (R113). -/
def tableRows (candidates : List (List Candidate)) : Nat → List Row
  | 0 => [candidates.map fun _ => (0, none)]
  | r + 1 =>
    let below := tableRows candidates r
    (candidates.map (bestChoice (below.headD []))) :: below

/-- The trace of the recorded choices, from a grid index down the rows (R118). -/
def traceRows : List Row → Nat → List Candidate
  | [], _ => []
  | row :: below, k =>
    match (row.getD k (0, none)).2 with
    | none => []
    | some c => c :: traceRows below c.next

/-- The optimizer's pieces from the origin (R113 to R115, R118): the first piece must also end at or beyond the earliest
first cut. -/
def optimizerTrace (candidates : List (List Candidate)) (origin earliest : Int) (allowance : Nat) : List Candidate :=
  match allowance with
  | 0 => []
  | r + 1 =>
    let rows := tableRows candidates r
    match (bestChoice (rows.headD []) ((candidates.headD []).filter fun c => decide (earliest ≤ origin + c.nominal))).2 with
    | none => []
    | some c => c :: traceRows rows c.next

/-! ### The result (R116 to R120) -/

/-- The conditions for placing the override (R116). -/
def Snapshot.placed (s : Snapshot) (o : Override) : Bool :=
  decide (1 ≤ s.allowance ∧ o.nominal ≤ 30000 ∧ s.origin + o.nominal ≤ 60000 ∧ s.earliest ≤ s.origin + o.nominal)

/-- The plan piece of a traced candidate (R118). -/
def Snapshot.optimizerPiece (s : Snapshot) (c : Candidate) : PlanPiece where
  assortment := c.assortment
  nominal := c.nominal
  cutPosition := s.origin + 100 * (c.next : Int)
  topDiameter := s.leadDiameter (s.origin + 100 * (c.next : Int))
  value := c.value
  status := .planned
  source := .optimizer

/-- The placed override's plan piece (R116, R118). -/
def Snapshot.overridePiece (s : Snapshot) (o : Override) : PlanPiece where
  assortment := o.assortment
  nominal := o.nominal
  cutPosition := s.origin + o.nominal
  topDiameter := s.leadDiameter (s.origin + o.nominal)
  value :=
    match Bank.entry? s.bank o.assortment with
    | some a => ((diametersAt s.tapered (s.origin + o.nominal)).map (a.memberValue o.nominal)).sum
    | none => 0
  status := .planned
  source := .override

/-- The candidates of every grid index 0..K; none where there is no usable end. -/
def Snapshot.candidates (s : Snapshot) : List (List Candidate) :=
  let grid := s.grid
  let eligible := s.eligible
  match (smallestTop eligible).bind (usableIndex grid) with
  | some last => (List.range (last + 1)).map (candidatesAt grid eligible last)
  | none => []

/-- The result of a pass (R119), a function of its snapshot and its number (R121). -/
def Snapshot.result (s : Snapshot) (number : Nat) : PassResult :=
  let candidates := s.candidates
  let free := (optimizerTrace candidates s.origin s.earliest s.allowance).map s.optimizerPiece
  let dropped := match s.override with
    | some o => !s.placed o
    | none => false
  { pieces :=
      match s.override with
      | some o =>
        if s.placed o then
          s.overridePiece o ::
            (traceRows (tableRows candidates (s.allowance - 1)) (o.nominal / 100)).map s.optimizerPiece
        else free
      | none => free
    passNumber := number
    origin := s.origin
    usableEnd := ((smallestTop s.eligible).bind (usableIndex s.grid)).map fun (k : Nat) => s.origin + 100 * (k : Int)
    taper := s.leadTaper
    flags :=
      { defaultTaper := s.defaultTaper
        overrideDropped := dropped
        noEligible := s.eligible.isEmpty
        noUsableEnd := !s.eligible.isEmpty && ((smallestTop s.eligible).bind (usableIndex s.grid)).isNone } }

end Sys2Proof.Machine
end

