-- ==== Sys2Proof/Machine/Passes.lean ====
section
/-! DEFINITION. Plan passes (file 07): requests, the pass in flight, the outcome at completion, installation, the pending
plan and its check at a stop state. -/

namespace Sys2Proof.Machine

/-! ### The snapshot and the start of a pass (R99, R125) -/

/-- A member as a snapshot holds it (R99, R100). -/
def State.snapshotMember (s : State) (r : StemRecord) : SnapMember where
  species := r.species
  order := r.fellingOrder
  isLead := r.role == some .lead
  profile := profilePoints r.profile
  taper := s.taperOf r.species

/-- The override a snapshot holds: none while the COMMITTED piece is the override's own placement (R104). -/
def StemRecord.snapshotOverride (r : StemRecord) : Option Override :=
  match r.committed? with
  | some p => if p.source = .override then none else r.override
  | none => r.override

/-- The snapshot of a pass started now for this lead (R99). -/
def State.snapshot (s : State) (lead : StemRecord) : Snapshot where
  length := s.lnu.length
  slowDistance := s.params.slowDistance
  leadMargin := s.params.leadMargin
  taperWindow := s.params.taperWindow
  members := s.members.map fun m => s.snapshotMember m.2
  pieceCount := lead.pieces.length
  lastCut := lead.lastCut?
  committed := lead.committed?
  override := lead.snapshotOverride
  bank := s.atb.active

/-- The start of a pass (R125). -/
def State.startPass (s : State) (lead : StemRecord) : State :=
  { s with
    bke.inFlight := some ⟨s.bke.counter, lead.handle, s.snapshot lead, false⟩
    bke.counter := (s.bke.counter + 1) % 256
    bke.flag := false }

/-! ### Requesting a pass (R123, R124) -/

/-- The lead for which a request is effective: the group is PROCESSING and its lead is not frozen (R123). -/
def State.plannable? (s : State) : Option StemRecord :=
  match s.lead? with
  | some (_, r) => if r.frozen then none else some r
  | none => none

/-- A pass is requested (R123, R124): without effect, started at once, or merged into the pass-pending flag. -/
def State.requestPass (s : State) : State :=
  match s.plannable? with
  | none => s
  | some lead => if s.bke.inFlight.isSome then { s with bke.flag := true } else s.startPass lead

/-- The void mark is set on a pass in flight, and the pass-pending flag is cleared (R126). -/
def State.voidPass (s : State) : State :=
  { s with
    bke.inFlight := s.bke.inFlight.map fun p => { p with void := true }
    bke.flag := false }

/-- The same at a freeze of a lead (R126): a pass in flight that was started for another lead, whose group has ended and which
is void already, is left with the flag as they are (log 20). -/
def State.voidPassOf (s : State) (lead : Nat) : State :=
  match s.bke.inFlight with
  | some p => if p.lead = lead then s.voidPass else s
  | none => s.voidPass

/-! ### The tests at a completion (R127 to R129) -/

/-- The STALE test (R128). -/
def StemRecord.stale (r : StemRecord) (res : PassResult) : Bool := r.origin != res.origin

/-- The LATE test (R129). -/
def State.late (s : State) (r : StemRecord) (res : PassResult) : Bool :=
  r.committed?.isNone &&
    match res.pieces with
    | p :: _ => decide (p.cutPosition < s.lnu.length + s.params.slowDistance)
    | [] => false

/-- The stop states (R130). -/
def SeqState.isStop : SeqState → Bool
  | .waiting | .settling | .atTarget | .paused => true
  | .idle | .felling | .holding | .feeding | .creeping | .reversing | .cutting | .sawReturn | .halted => false

/-- The outcome of a completing pass (R127 to R130). -/
def State.outcome (s : State) (void : Bool) (res : PassResult) : PassOutcome :=
  if void then .discarded
  else
    match s.lead? with
    | none => .discarded
    | some (_, r) =>
      if r.stale res then .stale
      else if s.late r res then .late
      else if r.updateMode = .immediate ∨ s.fcs.state.isStop then .installed
      else .held

/-! ### Installing (R131, R133, R136) -/

/-- The lead's record after an install: the COMMITTED first piece is kept, the result's pieces follow it, and no pending
plan is left (R131). -/
def StemRecord.installed (r : StemRecord) (res : PassResult) : StemRecord :=
  { r.setPlan (r.committed?.toList ++ res.pieces) with pendingPlan := none, lastPass := res.passNumber }

/-- The notice of an install (R136). -/
def StemRecord.installNotice (r : StemRecord) (occasion : InstallOccasion) (res : PassResult) : Notice :=
  .planInstalled r.handle occasion res.passNumber r.plan.length r.planValue res.usableEnd res.taper res.flags

/-- Records the last outcome (R122). -/
def State.recordOutcome (s : State) (o : PassOutcome) (number : Nat) : State :=
  { s with bke.lastOutcome := o, bke.lastOutcomePass := number }

/-- Installs a result into the plan of the record in a slot, with its notice (R131, R133). -/
def State.install (s : State) (slot : Nat) (r : StemRecord) (occasion : InstallOccasion) (res : PassResult) : State :=
  let r' := r.installed res
  (s.setSlot slot (some r')).offerNotice (r'.installNotice occasion res)

/-- The check of a pending plan at an entry into a stop state (R133). -/
def State.checkPending (s : State) : State :=
  match s.lead? with
  | none => s
  | some (slot, r) =>
    match r.pendingPlan with
    | none => s
    | some res =>
      if r.stale res || s.late r res then (s.setSlot slot (some { r with pendingPlan := none })).requestPass
      else (s.install slot r .fromPending res).recordOutcome .installed res.passNumber

/-! ### Completion (R127, R130 to R132, R134) -/

/-- The lead's record after the override clearing of an accepted result (R117, R130). -/
def StemRecord.afterDropped (r : StemRecord) (held : Option Override) (res : PassResult) : StemRecord :=
  if res.flags.overrideDropped && r.override.isSome && decide (r.override = held) then { r with override := none } else r

/-- What an outcome does (R127 to R132). -/
def State.actOn (s : State) (held : Option Override) (res : PassResult) (o : PassOutcome) : State :=
  let s := s.recordOutcome o res.passNumber
  match o with
  | .stale | .late => { s with bke.flag := true }
  | .installed =>
    match s.lead? with
    | some (slot, r) => s.install slot (r.afterDropped held res) .direct res
    | none => s
  | .held =>
    match s.lead? with
    | some (slot, r) => s.setSlot slot (some { r.afterDropped held res with pendingPlan := some res })
    | none => s
  | .none | .discarded => s

/-- Steps 1 and 2 after an outcome (R134): the pass ends, and the next one starts if the flag asks for it. -/
def State.nextPass (s : State) : State :=
  let asked := s.bke.flag
  let s := { s with bke.inFlight := none, bke.flag := false }
  match asked, s.plannable? with
  | true, some lead => s.startPass lead
  | _, _ => s

/-- The completion of a pass in flight, up to the report to the sequencer (R127 to R134). -/
def State.finishPass (s : State) (p : Pass) : State :=
  let res := p.snapshot.result p.number
  (s.actOn p.snapshot.override res (s.outcome p.void res)).nextPass

end Sys2Proof.Machine
end

