-- ==== Sys2Proof/Machine/Stems.lean ====
section
/-! DEFINITION. Opening, pushing and closing stem records (file 01, sections 1.1 to 1.3; file 02, section 2.2), the pieces
of a cut (section 1.7), and what the Length Unit tells the records (R12, R13). -/

namespace Sys2Proof.Machine

/-! ### Handles and opening (R1, R2, R5) -/

/-- The counter advanced by one, wrapping from 65535 to 1 (R2). -/
def nextHandleValue (h : Nat) : Nat := if h = 65535 then 1 else h + 1

/-- The counter advanced until it rests on a value no occupied slot holds, in at most the given number of steps (R2). -/
def State.restHandle (s : State) : Nat → Nat → Nat
  | 0, h => h
  | fuel + 1, h => if s.holdsHandle h then s.restHandle fuel (nextHandleValue h) else h

/-- A record at its opening values (R5). -/
def StemRecord.opening (handle species order step : Nat) : StemRecord where
  handle := handle
  state := .felling
  endReason := none
  species := species
  fellingOrder := order
  role := none
  butt := none
  profile := []
  profileStep := step
  plan := []
  pendingPlan := none
  pieces := []
  override := none
  frozen := false
  updateMode := .immediate
  topWatch := ⟨0, .fall, true, .default⟩
  missedSamples := 0
  disputedWindows := 0
  lengthSummary := .wheelOnly
  furthest := 0
  planValue := 0
  lastPass := 0

/-- Opens a record for a felling in a FREE slot (R1, R2, R6). -/
def State.openRecord (s : State) (slot species : Nat) : State :=
  let r := StemRecord.opening s.stb.nextHandle species (s.stb.group.length + 1) s.params.profileStep
  let opened := s.setSlot slot (some r)
  { opened with stb.nextHandle := opened.restHandle 9 (nextHandleValue s.stb.nextHandle) }

/-- The push at the SAW_END of a felling (R29). -/
def State.pushRecord (s : State) (slot : Nat) : State :=
  match s.record? slot with
  | none => s
  | some r =>
    let held := s.setSlot slot (some { r with state := .held })
    ({ held with stb.group := held.stb.group ++ [slot] }).offerNotice
      (.stemOpened r.handle slot r.species r.fellingOrder)

/-! ### Closing (R4) -/

/-- A record as it stands in CLOSED or ABANDONED (R4). -/
def StemRecord.closed (r : StemRecord) (st : StemState) (why : EndReason) : StemRecord :=
  { r with state := st, endReason := some why, plan := [], planValue := 0, pendingPlan := none, role := none }

/-- The five steps of a close (R4). -/
def State.closeRecord (s : State) (slot : Nat) (st : StemState) (why : EndReason) : State :=
  match s.record? slot with
  | none => s
  | some r =>
    let t := (({ s with stb.group := s.stb.group.filter fun i => i != slot }).setSlot slot
      (some (r.closed st why))).offerNotice (.stemClosed r.handle st why r.pieces.length r.plan.length)
    if r.state = .processing ∧ t.processingCount = 0 then t.safePoint else t

/-- Closes the records of several slots, in the order given (R4). -/
def State.closeAll (s : State) (slots : List Nat) (st : StemRecord → StemState) (why : EndReason) : State :=
  slots.foldl (fun s i => match s.record? i with
    | some r => s.closeRecord i (st r) why
    | none => s) s

/-- The state RELEASE gives a record: CLOSED with a piece, ABANDONED without (R31). -/
def StemRecord.releaseState (r : StemRecord) : StemState := if r.pieces.isEmpty then .abandoned else .closed

/-- RELEASE closes every record of the group, in ascending felling order (R31). -/
def State.releaseGroup (s : State) : State := s.closeAll s.stb.group StemRecord.releaseState .released

/-! ### What the Length Unit tells the records (R12, R13) -/

/-- A sample's SLIP_SUSPECT within the bounds of a disputed window (R12). -/
def Sample.flagWithin (lo hi : Int) (p : Sample) : Sample :=
  if lo ≤ p.position ∧ (p.position : Int) ≤ hi then { p with flags.slipSuspect := true } else p

/-- A disputed window report (R12). -/
def StemRecord.disputed (lo hi : Int) (r : StemRecord) : StemRecord :=
  { r with profile := r.profile.map (Sample.flagWithin lo hi), disputedWindows := saturate r.disputedWindows }

/-- A lost profile sample (R10, R12). -/
def StemRecord.missed (r : StemRecord) : StemRecord := { r with missedSamples := saturate r.missedSamples }

/-- The length source summary at a change of source state (R13). -/
def SourceSummary.follow (m : SourceSummary) (new : SourceState) : SourceSummary :=
  match m, new with
  | .wheelOnly, .roller => .mixed
  | .wheelOnly, .rejoin => .mixed
  | .rollerOnly, .wheel => .mixed
  | .rollerOnly, .disputed => .mixed
  | m, _ => m

/-- A record at a change of source state (R13). -/
def StemRecord.sourceChanged (new : SourceState) (r : StemRecord) : StemRecord :=
  { r with lengthSummary := r.lengthSummary.follow new }

/-- A record at a length update (R13). -/
def StemRecord.reached (length : Int) (r : StemRecord) : StemRecord :=
  if r.furthest < length then { r with furthest := length } else r

/-! ### Pieces (R16 to R18) -/

/-- What a record gains at the SAW_END of a cut: everything of R16 that is the same for a planned and an off-plan cut. -/
def State.basePiece (s : State) (r : StemRecord) (kind : PieceKind) (overshoot : Bool) : Piece where
  kind := kind
  assortment := none
  cutPosition := s.lnu.length
  actual := s.lnu.length - r.lastCut?.getD 0
  nominal := none
  lengthError := none
  topDiameter := s.recordDiameter r s.lnu.length
  value := none
  flags := ⟨overshoot, s.lnu.slipSuspect, s.lnu.rollerLen⟩

/-- The piece of a planned cut of a plan piece (R16). -/
def State.plannedPiece (s : State) (cut : PlanPiece) (r : StemRecord) : Piece :=
  let base := s.basePiece r (if cut.source = .override then .overrideCut else .plannedCut) s.fcs.overshoot
  { base with
    assortment := some cut.assortment
    nominal := some cut.nominal
    lengthError := some (base.actual - cut.nominal)
    value := (Bank.entry? s.atb.active cut.assortment).map fun a => a.memberValue cut.nominal base.topDiameter }

/-- The piece of an off-plan cut (R18): WASTE_CUT under 500 mm, else OPERATOR_CUT. -/
def State.offPlanPiece (s : State) (r : StemRecord) : Piece :=
  let base := s.basePiece r .operatorCut false
  if base.actual < 500 then { base with kind := .wasteCut } else base

/-- Appends one piece to every active member (R16). -/
def State.recordPieces (s : State) (piece : StemRecord → Piece) : State :=
  s.modifyActive fun r => { r with pieces := r.pieces ++ [piece r] }

/-- The lead after a planned cut (R17): the cut piece and the overtaken ones leave the plan, and a cut override is
cleared. -/
def StemRecord.advancePlan (cut : PlanPiece) (position : Int) (r : StemRecord) : StemRecord :=
  let r := r.setPlan ((r.plan.drop 1).filter fun p => decide (position < p.cutPosition))
  if cut.source = .override ∧ r.override = some ⟨cut.assortment, cut.nominal⟩ then { r with override := none } else r

/-- The lead after an off-plan cut (R18). -/
def StemRecord.dropPlan (r : StemRecord) : StemRecord := { r.setPlan [] with pendingPlan := none }

/-- Changes the lead of a PROCESSING group. -/
def State.modifyLead (s : State) (f : StemRecord → StemRecord) : State :=
  match s.lead? with
  | some (slot, r) => s.setSlot slot (some (f r))
  | none => s

/-- The PIECE_CUT notice of a member (R17). -/
def StemRecord.pieceNotice (r : StemRecord) : Option Notice :=
  (r.pieces.getLast?).map fun p =>
    .pieceCut r.handle (r.pieces.length - 1) p.kind p.cutPosition p.actual p.assortment p.value

/-- One PIECE_CUT per active member, in ascending felling order (R17). -/
def State.notifyPieces (s : State) : State :=
  (s.members.filterMap fun m => m.2.pieceNotice).foldl State.offerNotice s

/-- The Stem Table's part of the SAW_END of a planned cut (R16, R17). -/
def State.recordPlannedCut (s : State) : State :=
  match s.lead? with
  | none => s
  | some (_, lead) =>
    match lead.plan with
    | [] => s
    | cut :: _ =>
      ((s.recordPieces (s.plannedPiece cut)).modifyLead (StemRecord.advancePlan cut s.lnu.length)).notifyPieces

/-- The Stem Table's part of the SAW_END of an off-plan cut (R16, R18). -/
def State.recordOffPlanCut (s : State) : State :=
  ((s.recordPieces s.offPlanPiece).modifyLead StemRecord.dropPlan).notifyPieces

end Sys2Proof.Machine
end

