-- ==== Sys2Proof/Machine/Measure.lean ====
section
/-! DEFINITION. The Diameter Sequencer (file 04) and its calibration tables (file 09, section 9.1): requesters, arbitration,
conversion, the result of a sequence, and the requests CAB_MEASURE, LOAD_ARM_POINT and READ_ARM_TABLE. -/

namespace Sys2Proof.Machine

/-! ### Channels and tables (R63, R64) -/

/-- The channels a mask selects, in the order they are read (R63). -/
def Mask.channels : Mask → List Channel
  | .knives => [.ukl, .ukr]
  | .rollers => [.frl, .frr]
  | .both => [.ukl, .ukr, .frl, .frr]

/-- The calibration table of a channel (R64). -/
def DiameterSequencer.table (d : DiameterSequencer) : Channel → ArmTable
  | .ukl => d.ukl
  | .ukr => d.ukr
  | .frl => d.frl
  | .frr => d.frr

/-- Replaces the calibration table of a channel. -/
def DiameterSequencer.setTable (d : DiameterSequencer) (c : Channel) (t : ArmTable) : DiameterSequencer :=
  match c with
  | .ukl => { d with ukl := t }
  | .ukr => { d with ukr := t }
  | .frl => { d with frl := t }
  | .frr => { d with frr := t }

/-- A table is complete when all of its points are loaded (R64). -/
def armComplete (t : ArmTable) : Bool := t.toList.all fun o => o.isSome

/-! ### Requesters and arbitration (R66, R70 to R74) -/

/-- The FEED requester is busy (R70). -/
def DiameterSequencer.feedBusy (d : DiameterSequencer) : Bool :=
  d.feedPending.isSome || d.stateNumber == 1

/-- The TRIM requester is busy (R70). -/
def DiameterSequencer.trimBusy (d : DiameterSequencer) : Bool :=
  d.trimPending.isSome || d.stateNumber == 2

/-- The CAB requester is busy (R70). -/
def DiameterSequencer.cabBusy (d : DiameterSequencer) : Bool :=
  d.cabPending.isSome || d.stateNumber == 3

/-- A sequence as it starts, at the first channel of its mask (R63, R66). -/
def RunningSequence.starting (target : SequenceTarget) (mask : Mask) (averaging settle : Nat) : RunningSequence where
  target := target
  mask := mask
  averaging := averaging
  settle := settle
  channel := if mask = .rollers then .frl else .ukl
  sums := []
  averages := []

/-- Arbitration: an IDLE sequencer starts a sequence for a pending requester, FEED before TRIM before CAB, with the
settings as they stand (R66, R74). -/
def State.arbitrate (s : State) : State :=
  match s.dsq.running with
  | some _ => s
  | none =>
    match s.dsq.feedPending, s.dsq.trimPending, s.dsq.cabPending with
    | some f, _, _ =>
      { s with
        dsq.feedPending := none
        dsq.running := some (.starting (.feed f) s.params.feedMask s.params.feedAvg s.params.sensorSettle) }
    | none, some t, _ =>
      { s with
        dsq.trimPending := none
        dsq.running := some (.starting (.trim t) s.params.trimMask s.params.trimAvg s.params.sensorSettle) }
    | none, none, some c =>
      { s with
        dsq.cabPending := none
        dsq.running := some (.starting (.cab c) c.mask c.averaging s.params.sensorSettle) }
    | none, none, none => s

/-- A FEED request is raised: pending when the requester is free, else merged, with its sample lost (R12, R71). -/
def State.raiseFeed (s : State) (r : FeedRequest) : State :=
  if s.dsq.feedBusy then s.modifyActive StemRecord.missed
  else State.arbitrate { s with dsq.feedPending := some r }

/-- A TRIM request is raised for a free requester; for a busy one it is not raised (R70, R72). -/
def State.raiseTrim (s : State) (r : TrimRequest) : State :=
  if s.dsq.trimBusy then s else State.arbitrate { s with dsq.trimPending := some r }

/-- The FEED requester at a group end (R77). -/
def State.cancelFeed (s : State) : State :=
  let t := { s with dsq.feedPending := none }
  if s.dsq.stateNumber = 1 then State.arbitrate { t with dsq.running := none } else t

/-! ### Readings and contributions (R65, R67) -/

/-- The readings of a channel. -/
def channelReadings (r : Readings) : Channel → Vector (BitVec 12) 8
  | .ukl => r.ukl
  | .ukr => r.ukr
  | .frl => r.frl
  | .frr => r.frr

/-- The sum of the first n readings of a channel (R67). -/
def sumReadings (n : Nat) (v : Vector (BitVec 12) 8) : Nat := ((v.toList.take n).map BitVec.toNat).sum

/-- The average raw reading of a sum of n readings (R67). -/
def averageRaw (n sum : Nat) : Nat := (sum + n / 2) / n

/-- A running sequence after its last conversion: the sums and averages of the channels read, at the last of them
(R67). -/
def RunningSequence.readAll (q : RunningSequence) (r : Readings) : RunningSequence :=
  { q with
    channel := if q.mask = .knives then .ukr else .frr
    sums := q.mask.channels.map fun c => sumReadings q.averaging (channelReadings r c)
    averages := q.mask.channels.map fun c => averageRaw q.averaging (sumReadings q.averaging (channelReadings r c)) }

/-- The average raw reading of a channel in a sequence that has read it. -/
def RunningSequence.averageOf (q : RunningSequence) (c : Channel) : Nat :=
  ((q.mask.channels.zip q.averages).lookup c).getD 0

/-- The contribution at a reading from the first point on: between two points by interpolation, toward zero, and at or
beyond the last point its own (R65). -/
def interpolateArm : List CalPoint → Nat → Nat
  | [], _ => 0
  | [p], _ => p.contribution
  | p :: q :: rest, r =>
    if r < p.raw then p.contribution
    else if r ≤ q.raw then
      (p.contribution + towardZero (((q.contribution : Int) - p.contribution) * ((r : Int) - p.raw)) (q.raw - p.raw)).toNat
    else interpolateArm (q :: rest) r

/-- The contribution of an average raw reading by a table (R65). FREE VALUE, log 9, for a table that is not complete. -/
def armContribution (t : ArmTable) (r : Nat) : Nat :=
  if armComplete t then interpolateArm (t.toList.filterMap id) r
  else (Config.contributionUnstated (t.toList.map fun o => o.map fun p => (p.raw, p.contribution)) r).val

/-- Whether a reading lies above the last point of a table (R65). -/
def aboveLast (t : ArmTable) (r : Nat) : Bool :=
  match t[8] with
  | some p => decide (p.raw < r)
  | none => false

/-! ### The result of a sequence (R68, R80) -/

/-- A channel's average, contribution and ARM_LIMIT mark (R65, R67). -/
def State.channelReport (s : State) (q : RunningSequence) (c : Channel) : ChannelReport where
  average := q.averageOf c
  contribution := armContribution (s.dsq.table c) (q.averageOf c)
  armLimit := aboveLast (s.dsq.table c) (q.averageOf c)

/-- A pair diameter in tenths (R68). -/
def State.pairDiameter (s : State) (q : RunningSequence) (left right : Channel) : Nat :=
  (s.channelReport q left).contribution + (s.channelReport q right).contribution

/-- Whether the pairs of a sequence with mask BOTH disagree, by disagree_tol as it stands (R68). -/
def State.pairsDisagree (s : State) (q : RunningSequence) : Bool :=
  q.mask == .both &&
    decide (s.params.disagreeTol * 10 <
      ((s.pairDiameter q .ukl .ukr : Int) - (s.pairDiameter q .frl .frr : Int)).natAbs)

/-- The combined diameter in tenths (R68). -/
def State.combinedTenths (s : State) (q : RunningSequence) : Nat :=
  let k := s.pairDiameter q .ukl .ukr
  let r := s.pairDiameter q .frl .frr
  match q.mask with
  | .knives => k
  | .rollers => r
  | .both => if s.pairsDisagree q then k else (k + r + 1) / 2

/-- The channels that count for ARM_LIMIT of the result (R68). -/
def State.countedChannels (s : State) (q : RunningSequence) : List Channel :=
  if s.pairsDisagree q then Mask.knives.channels else q.mask.channels

/-- The result of a sequence that has read its channels (R68), with the items a COMPLETE notice adds (R80). -/
def State.measureReport (s : State) (q : RunningSequence) : MeasureReport where
  settle := q.settle
  channels := q.mask.channels.map (s.channelReport q)
  knifePair := if q.mask = .rollers then none else some (s.pairDiameter q .ukl .ukr)
  rollerPair := if q.mask = .knives then none else some (s.pairDiameter q .frl .frr)
  result := clampNat 0 999 ((s.combinedTenths q + 5) / 10)
  disagree := s.pairsDisagree q
  armLimit := (s.countedChannels q).any fun c => (s.channelReport q c).armLimit

/-- The MEASURE_RESULT notice of a CAB request (R80). -/
def CabRequest.notice (c : CabRequest) (report : Option MeasureReport) : Notice :=
  .measureResult c.tag c.mask c.averaging report

/-! ### CAB_MEASURE (R73) -/

/-- CAB_MEASURE (R73). -/
def answerCabMeasure (tag : Byte) (maskCode count : Nat) (s : State) : State × Answer :=
  match Mask.ofCode maskCode with
  | none => (s, .only .range)
  | some mask =>
    if !isAveraging count then (s, .only .range)
    else if !(mask.channels.all fun c => armComplete (s.dsq.table c)) then (s, .only .notConfigured)
    else if s.dsq.cabBusy then (s, .only .busy)
    else (State.arbitrate { s with dsq.cabPending := some ⟨mask, count, tag⟩ }, .only .accepted)

/-! ### Reinitialisation (R79) -/

/-- The CAB request that a reinitialisation aborts, pending or running. -/
def DiameterSequencer.cabOpen? (d : DiameterSequencer) : Option CabRequest :=
  match d.cabPending with
  | some c => some c
  | none =>
    match d.running with
    | some q =>
      match q.target with
      | .cab c => some c
      | .feed _ | .trim _ => none
    | none => none

/-- The Diameter Sequencer at either reinitialisation: every requester free, nothing running, and an ABORTED notice for a
CAB request (R79, steps 1 to 3). -/
def State.abortMeasurements (s : State) : State :=
  let t := { s with dsq.feedPending := none, dsq.trimPending := none, dsq.cabPending := none, dsq.running := none }
  match s.dsq.cabOpen? with
  | some c => t.offerNotice (c.notice none)
  | none => t

/-- Clears every point of the four tables (R64, R79 step 4). -/
def State.clearTables (s : State) : State :=
  { s with
    dsq.ukl := Vector.replicate 9 none, dsq.ukr := Vector.replicate 9 none
    dsq.frl := Vector.replicate 9 none, dsq.frr := Vector.replicate 9 none }

/-! ### Calibration requests (R166 to R168) -/

/-- The nearest loaded point below an index (R167). -/
def lowerNeighbour (t : ArmTable) (index : Nat) : Option CalPoint := ((t.toList.take index).filterMap id).getLast?

/-- The nearest loaded point above an index (R167). -/
def upperNeighbour (t : ArmTable) (index : Nat) : Option CalPoint := ((t.toList.drop (index + 1)).filterMap id).head?

/-- The order test of a new point (R167). -/
def keepsOrder (t : ArmTable) (index : Nat) (p : CalPoint) : Bool :=
  (match lowerNeighbour t index with
   | some j => decide (j.raw < p.raw ∧ j.contribution ≤ p.contribution)
   | none => true) &&
  (match upperNeighbour t index with
   | some k => decide (p.raw < k.raw ∧ p.contribution ≤ k.contribution)
   | none => true)

/-- LOAD_ARM_POINT (R166). -/
def answerLoadArmPoint (arm index raw contribution : Nat) (s : State) : State × Answer :=
  match Channel.ofNumber arm with
  | none => (s, .only .range)
  | some c =>
    if 8 < index ∨ 4095 < raw ∨ 5000 < contribution then (s, .only .range)
    else if s.dsq.running.isSome then (s, .only .busy)
    else if !keepsOrder (s.dsq.table c) index ⟨raw, contribution⟩ then (s, .only .order)
    else
      let t := (s.dsq.table c).setIfInBounds index (some ⟨raw, contribution⟩)
      ({ s with dsq := s.dsq.setTable c t }, .okWith (yesNo (armComplete t)))

/-- A point as READ_ARM_TABLE carries it: loaded, and its values or their absence (R168, R187, log 15). -/
def pointBytes (o : Option CalPoint) : List Byte :=
  yesNo o.isSome ++ optU16 (o.map fun p => p.raw) ++ optU16 (o.map fun p => p.contribution)

/-- READ_ARM_TABLE (R168). -/
def answerReadArmTable (arm : Nat) (s : State) : State × Answer :=
  match Channel.ofNumber arm with
  | none => (s, .only .range)
  | some c =>
    (s, .okWith (u8 arm ++ yesNo (armComplete (s.dsq.table c)) ++ (s.dsq.table c).toList.flatMap pointBytes))

end Sys2Proof.Machine
end

