-- ==== Sys2Proof/Machine/Length.lean ====
section
/-! DEFINITION. The Length Unit (file 03): length, rebase, source states, slip windows, faults, per-piece flags, datum and
resets. The pulse itself, with its consumers, is in Pulses.lean. -/

namespace Sys2Proof.Machine

/-! ### Conversion (R46, R48) -/

/-- Whether a source state takes the length from the wheel (R46). -/
def SourceState.usesWheel : SourceState → Bool
  | .wheel | .disputed => true
  | .roller | .rejoin => false

/-- Millimetres of a pulse count, toward zero, 0 for a constant of 0 (R46, R55). -/
def pulsesToMm (count : Int) (constant : Nat) : Int :=
  if constant = 0 then 0 else towardZero (count * 10000) constant

/-- U, the unclamped length (R46). -/
def State.unclamped (s : State) : Int :=
  s.lnu.base +
    if s.lnu.source.usesWheel then pulsesToMm s.lnu.wheelRun s.params.wheelConstant
    else pulsesToMm s.lnu.rollerRun s.params.rollerConstant

/-- The length value computed anew from the run counts, with LENGTH_LIMIT and the window's least and greatest length
(R46, R48, R55). -/
def State.recompute (s : State) : State :=
  let u := s.unclamped
  let len := clampInt (-2000) 60000 u
  { s with
    lnu.length := len
    lnu.limit := decide (u < -2000 ∨ 60000 < u)
    lnu.window.least := min s.lnu.window.least len
    lnu.window.greatest := max s.lnu.window.greatest len }

/-- The rebase onto an encoder (R47): the base takes the length, the run count restarts, and LENGTH_LIMIT clears. -/
def State.rebase (s : State) (toWheel : Bool) : State :=
  let s := { s with lnu.base := s.lnu.length, lnu.limit := false }
  if toWheel then { s with lnu.wheelRun := 0 } else { s with lnu.rollerRun := 0 }

/-! ### Windows (R55) -/

/-- A new slip window starts at the length as it stands; both fault counts restart (R55). -/
def State.newWindow (s : State) : State :=
  { s with
    lnu.window := ⟨s.lnu.length, s.lnu.length, s.lnu.length, 0, 0, s.params.slipWindow⟩
    lnu.wheelFaults := 0
    lnu.rollerFaults := 0 }

/-- The wheel delta of the window (R55). -/
def State.wheelDelta (s : State) : Int := pulsesToMm s.lnu.window.wheelCount s.params.wheelConstant

/-- The roller delta of the window (R55). -/
def State.rollerDelta (s : State) : Int := pulsesToMm s.lnu.window.rollerCount s.params.rollerConstant

/-! ### Source states (R47, R58 to R61) -/

/-- A change of source state: rebase, ROLLER_LEN, the records' summaries, the notice (R60). A change of n alone changes n
and nothing else. -/
def State.setSource (s : State) (new : SourceState) (n : Nat) (cause : SourceCause) : State :=
  let old := s.lnu.source
  if old = new then { s with lnu.n := n }
  else
    let s := if old.usesWheel = new.usesWheel then s else s.rebase new.usesWheel
    let s := { s with lnu.source := new, lnu.n := n, lnu.rollerLen := s.lnu.rollerLen || !new.usesWheel }
    (s.modifyActive (StemRecord.sourceChanged new)).offerNotice (.lengthSource old new cause s.lnu.length)

/-- The wheel gives the length up: from every state but ROLLER the state becomes ROLLER with n = 0 (R45, R59). -/
def State.forceRoller (s : State) (cause : SourceCause) : State :=
  if s.lnu.source = .roller then s else s.setSource .roller 0 cause

/-- The move of the source state at the end of a judged window (R58). -/
def State.judgedMove (s : State) (disputed : Bool) : State :=
  match s.lnu.source, disputed with
  | .wheel, true => s.setSource .disputed 1 .disputes
  | .wheel, false => s
  | .disputed, true =>
    if 3 ≤ s.lnu.n + 1 then s.setSource .roller 0 .disputes else s.setSource .disputed (s.lnu.n + 1) .disputes
  | .disputed, false => s.setSource .wheel 0 .agreements
  | .roller, true => s
  | .roller, false => s.setSource .rejoin 1 .agreements
  | .rejoin, true => s.setSource .roller 0 .disputes
  | .rejoin, false =>
    if 2 ≤ s.lnu.n + 1 then s.setSource .wheel 0 .agreements else s.setSource .rejoin (s.lnu.n + 1) .agreements

/-- Whether the window that ends is judged (R56). -/
def State.windowJudged (s : State) : Bool :=
  s.lines.wheelContact.accepted && !s.lnu.wheelFaulty && !s.lnu.rollerFaulty && !s.lnu.slipSuspended

/-- Whether the window that ends is disputed (R56). -/
def State.windowDisputed (s : State) : Bool :=
  decide ((s.params.slipTol : Int) * s.rollerDelta < (s.wheelDelta - s.rollerDelta).natAbs * 100)

/-- The report of a disputed window to the Stem Table (R12, R57). -/
def State.reportDisputed (s : State) : State :=
  let lo := s.lnu.window.least
  let hi := if s.lnu.window.least = s.lnu.window.greatest then lo + 1 else s.lnu.window.greatest
  s.modifyActive (StemRecord.disputed lo hi)

/-- The judgement of a window (R56, R58). -/
def State.judgeWindow (s : State) : State :=
  if s.windowDisputed then
    State.judgedMove { s.reportDisputed with lnu.slipSuspect := true } true
  else s.judgedMove false

/-- The end of a window: judged or not, and a new one starts at once (R55, R56). -/
def State.endWindow (s : State) : State := (if s.windowJudged then s.judgeWindow else s).newWindow

/-! ### Per-piece flags (R61) -/

/-- The per-piece flags are cleared, and ROLLER_LEN is set again when the roller is active (R61). -/
def State.clearPieceFlags (s : State) : State :=
  { s with lnu.slipSuspect := false, lnu.rollerLen := !s.lnu.source.usesWheel }

/-! ### Faults (R44, R45) -/

/-- A fault count after one more fault, holding at 8 (R44). -/
def countFault (n : Nat) : Nat := if n < 8 then n + 1 else 8

/-- The wheel becomes faulty (R45). -/
def State.wheelBecomesFaulty (s : State) : State :=
  State.forceRoller { s with lnu.wheelFaulty := true } .wheelFault

/-- The roller becomes faulty (R45). -/
def State.rollerBecomesFaulty (s : State) : State :=
  ({ s with lnu.rollerFaulty := true, lnu.slipSuspended := true }).offerNotice
    (.rollerFault s.lnu.length s.lnu.wheelFaulty)

/-- A quadrature fault of an encoder, on the counts (R44, R45). -/
def State.countQuadratureFault (s : State) (e : Encoder) : State :=
  match e with
  | .wheel =>
    let s := { s with lnu.wheelFaults := countFault s.lnu.wheelFaults }
    if s.lnu.wheelFaults = 8 ∧ s.lnu.wheelFaulty = false then s.wheelBecomesFaulty else s
  | .roller =>
    let s := { s with lnu.rollerFaults := countFault s.lnu.rollerFaults }
    if s.lnu.rollerFaults = 8 ∧ s.lnu.rollerFaulty = false then s.rollerBecomesFaulty else s

/-! ### Contact (R55, R59) -/

/-- A change of filtered WHEEL_CONTACT to a level: a deassertion takes the length from the wheel, and either change
abandons the window (R55, R59). -/
def State.contactChanged (s : State) (level : Bool) : State :=
  let s := { s with lines.wheelContact := .settled level }
  (if level then s else s.forceRoller .contactLost).newWindow

/-! ### Datum and resets (R51, R52) -/

/-- The source state that WHEEL_CONTACT gives at a datum or a reinitialisation (R51, R52). -/
def State.sourceByContact (s : State) : SourceState := if s.lines.wheelContact.accepted then .wheel else .roller

/-- What the datum and a reinitialisation set alike: length 0, source by contact, n 0, faults cleared, a new window, the
per-piece flags, and T (R51, R52). -/
def State.restartLength (s : State) (trigger : Int) : State :=
  let src := s.sourceByContact
  { s with
    lnu :=
      { wheelRun := 0
        rollerRun := 0
        base := 0
        length := 0
        limit := false
        source := src
        n := 0
        window := ⟨0, 0, 0, 0, 0, s.params.slipWindow⟩
        wheelFaults := 0
        rollerFaults := 0
        wheelFaulty := false
        rollerFaulty := false
        slipSuspended := false
        trigger := trigger
        slipSuspect := false
        rollerLen := !src.usesWheel } }

/-- The datum at group start (R51). -/
def State.datum (s : State) : State :=
  let old := s.lnu.source
  let t := s.restartLength s.params.profileStep
  if old = t.lnu.source then t else t.offerNotice (.lengthSource old t.lnu.source .datum 0)

/-! ### Constants (R50) -/

/-- A changed wheel_constant or roller_constant is stored: the active encoder is rebased with the old constant in force,
and the window is abandoned (R50). -/
def State.changeConstant (s : State) (e : Encoder) (value : Nat) : State :=
  match e with
  | .wheel =>
    let s := if s.lnu.source.usesWheel then s.rebase true else s
    State.newWindow { s with params.wheelConstant := value }
  | .roller =>
    let s := if s.lnu.source.usesWheel then s else s.rebase false
    State.newWindow { s with params.rollerConstant := value }

end Sys2Proof.Machine
end

