-- ==== Sys2Proof/Machine/Sequencer.lean ====
section
/-! DEFINITION. The Feed and Cut Sequencer (file 08): entries into its states with what each entry does at once, the tests
on the length, timer expiries, and the group end. -/

namespace Sys2Proof.Machine

/-! ### Changing state (R138, R140, R141) -/

/-- The sequencer moves to a state: timers are stopped on leaving and started on entry, the stall reference takes the
length where the feed starts, and the cut kind and the pause reason are present only where R138 has them. -/
def State.moveTo (s : State) (st : SeqState) (pause : Option PauseReason) : State :=
  let feeds := st == .feeding || st == .creeping || st == .reversing
  { s with
    fcs :=
      { s.fcs with
        state := st
        pause := if st = .paused then pause else none
        cutKind := if st = .cutting ∨ st = .sawReturn then s.fcs.cutKind else none
        settleTimer := if st = .settling then some 0 else none
        sawTimer := if st = .felling ∨ st = .cutting then some 0 else none
        homeTimer := if st = .sawReturn then some 0 else none
        stallTimer := if feeds then some 0 else none
        stallReference := if feeds then s.lnu.length else s.fcs.stallReference } }

/-- The FCS_STATE notice of a change from a state to the present one (R140). -/
def State.notifyState (s : State) (previous : SeqState) : State :=
  s.offerNotice (.fcsState previous s.fcs.state s.fcs.pause s.lnu.length s.target?)

/-- A change of state with its notice, where the entry does nothing else. -/
def State.enter (s : State) (st : SeqState) : State := (s.moveTo st none).notifyState s.fcs.state

/-- An entry into a stop state: the pending plan is checked, and the notice follows (R133, R140). -/
def State.enterStop (s : State) (st : SeqState) (pause : Option PauseReason) : State :=
  ((s.moveTo st pause).checkPending).notifyState s.fcs.state

/-- Entry into PAUSED with a reason. -/
def State.enterPaused (s : State) (why : PauseReason) : State := s.enterStop .paused (some why)

/-- Entry into SETTLING (R148, R149, R150). -/
def State.enterSettling (s : State) : State := s.enterStop .settling none

/-! ### Feeding to a target (R147 to R150) -/

/-- The arrival test: the length value is at least the target (R148). -/
def State.arrived (s : State) : Bool :=
  match s.target? with
  | some t => decide (t ≤ s.lnu.length)
  | none => false

/-- The arrival test is made in CREEPING (R148). -/
def State.arrivalTest (s : State) : State := if s.arrived then s.enterSettling else s

/-- Entry into CREEPING, where the arrival test is made at once (R148). -/
def State.enterCreeping (s : State) : State := (s.enter .creeping).arrivalTest

/-- The first plan piece becomes COMMITTED; a piece already COMMITTED keeps its status, count and mark (R147). -/
def State.commit (s : State) : State :=
  match s.lead? with
  | some (slot, r) =>
    match r.plan with
    | p :: rest =>
      if p.status = .planned then
        { s.setSlot slot (some { r with plan := { p with status := .committed } :: rest }) with
          fcs.reversals := 0, fcs.overshoot := false }
      else s
    | [] => s
  | none => s

/-- The approach test: the length value is at least the target less slow_distance (R147). -/
def State.approached (s : State) : Bool :=
  match s.target? with
  | some t => decide (t - s.params.slowDistance ≤ s.lnu.length)
  | none => false

/-- The approach test is made in FEEDING; when it holds the piece is committed and the feed creeps (R147). -/
def State.approachTest (s : State) : State := if s.approached then s.commit.enterCreeping else s

/-- Entry into FEEDING, where the approach test is made at once (R147). -/
def State.enterFeeding (s : State) : State := (s.enter .feeding).approachTest

/-- Entry into WAITING, a stop state; a plan filled by the entry's check sends the feed on at once (R146). -/
def State.enterWaiting (s : State) : State :=
  let s := s.enterStop .waiting none
  if s.planNonempty then s.enterFeeding else s

/-- Where an empty plan leaves the feed: WAITING while a pass is outstanding, else PAUSED with PLAN_DONE (R146, R147). -/
def State.awaitPlan (s : State) : State :=
  if s.passOutstanding then s.enterWaiting else s.enterPaused .planDone

/-- Entry into REVERSING, one more reversal (R149). -/
def State.enterReversing (s : State) : State :=
  State.enter { s with fcs.reversals := s.fcs.reversals + 1 } .reversing

/-! ### Cutting (R151, R152, R156) -/

/-- A cut starts (R152). -/
def State.startCut (s : State) (kind : CutKind) : State :=
  State.enter { s with fcs.cutKind := some kind, fcs.stopped := false } .cutting

/-- Entry into AT_TARGET: the pending plan, then the automatic cut (R151). -/
def State.enterAtTarget (s : State) : State :=
  let s := s.enterStop .atTarget none
  if s.params.autoCut then
    if s.lines.sawHome.accepted then s.startCut .planned else s.enterPaused .sawNotHome
  else s

/-- The end of the saw return at filtered SAW_HOME (R156). -/
def State.endSawReturn (s : State) : State :=
  if s.fcs.stopped then State.enterPaused { s with fcs.stopped := false } .stopRequest
  else if s.planNonempty then s.enterFeeding
  else s.awaitPlan

/-- Entry into SAW_RETURN; a saw that is home ends the return at once (R152, R156). -/
def State.enterSawReturn (s : State) : State :=
  let s := s.enter .sawReturn
  if s.lines.sawHome.accepted then s.endSawReturn else s

/-- SAW_END in CUTTING (R152). -/
def State.completeCut (s : State) : State :=
  let s := if s.fcs.cutKind = some .offPlan then s.recordOffPlanCut else s.recordPlannedCut
  let s := s.clearPieceFlags.requestPass
  State.enterSawReturn { s with fcs.reversals := 0, fcs.overshoot := false }

/-! ### Felling (R143, R144) -/

/-- SAW_END in FELLING (R143). -/
def State.completeFelling (s : State) : State :=
  (match s.fellingSlot? with
   | some slot => s.pushRecord slot
   | none => s).enter .holding

/-- The record of a felling that fails is abandoned (R3, R144). -/
def State.abandonFelling (s : State) : State :=
  match s.fellingSlot? with
  | some slot => s.closeRecord slot .abandoned .fellFailed
  | none => s

/-- Where a felling without a push leaves the sequencer: HOLDING with a record in the group, else IDLE (R144). -/
def State.leaveFelling (s : State) : State := s.enter (if s.stb.group.isEmpty then .idle else .holding)

/-- The handle of the record being felled. -/
def State.fellingHandle (s : State) : Nat :=
  match s.fellingSlot?.bind s.record? with
  | some r => r.handle
  | none => 0

/-- The handle of the lead. -/
def State.leadHandle? (s : State) : Option Nat := s.lead?.map fun m => m.2.handle

/-! ### The group end (R159, R160) -/

/-- Every item of the sequencer that belongs to a piece or a cut takes its reset value (R159, R160). -/
def State.clearCutItems (s : State) : State :=
  { s with fcs.cutKind := none, fcs.stopped := false, fcs.reversals := 0, fcs.overshoot := false }

/-- The processing states (R160). -/
def SeqState.isProcessing : SeqState → Bool
  | .waiting | .feeding | .creeping | .settling | .reversing | .atTarget | .cutting | .sawReturn | .paused => true
  | .idle | .felling | .holding | .halted => false

/-- The sequencer enters IDLE as the group becomes empty (R159, R160). -/
def State.enterIdle (s : State) : State := s.clearCutItems.enter .idle

/-- The sequencer at a group end (R160): IDLE from a processing state, and HALTED stays. -/
def State.sequencerGroupEnd (s : State) : State := if s.fcs.state.isProcessing then s.enterIdle else s

/-! ### The report of a completion (R134, R146, R147) -/

/-- The completion report in WAITING and FEEDING; in every other state it does nothing. -/
def State.completionReport (s : State) : State :=
  match s.fcs.state with
  | .waiting =>
    if s.planNonempty then s.enterFeeding
    else if s.passOutstanding then s
    else s.enterPaused .planDone
  | .feeding => if s.planNonempty then s else s.awaitPlan
  | .idle | .felling | .holding | .creeping | .settling | .reversing | .atTarget | .cutting | .sawReturn | .paused
  | .halted => s

/-! ### Length updates (R147 to R150, R158) -/

/-- Whether the length has moved 5 mm or more from the stall reference (R158). -/
def State.stallMoved (s : State) : Bool := decide (5 ≤ (s.lnu.length - s.fcs.stallReference).natAbs)

/-- The stall reference and timer at a length update (R158). -/
def State.trackMovement (s : State) : State :=
  match s.fcs.state with
  | .feeding | .creeping | .reversing =>
    if s.stallMoved then { s with fcs.stallReference := s.lnu.length, fcs.stallTimer := some 0 } else s
  | .idle | .felling | .holding | .waiting | .settling | .atTarget | .cutting | .sawReturn | .paused | .halted => s

/-- The reverse arrival: the length value is at most the target (R150). -/
def State.reverseArrived (s : State) : Bool :=
  match s.target? with
  | some t => decide (s.lnu.length ≤ t)
  | none => false

/-- The test of the target at a length update (R147, R148, R150). -/
def State.targetTest (s : State) (forward : Bool) : State :=
  match s.fcs.state with
  | .feeding => if forward then s.approachTest else s
  | .creeping => if forward then s.arrivalTest else s
  | .reversing => if !forward && s.reverseArrived then s.enterSettling else s
  | .idle | .felling | .holding | .waiting | .settling | .atTarget | .cutting | .sawReturn | .paused | .halted => s

/-- The sequencer at a length update (R49, step 2). -/
def State.sequencerUpdate (s : State) (forward : Bool) : State := (s.targetTest forward).trackMovement

/-! ### Timer expiries (R144, R149, R154, R156, R158) -/

/-- The settle timer expires (R149). -/
def State.settleExpires (s : State) : State :=
  match s.target? with
  | none => { s with fcs.settleTimer := none }
  | some t =>
    let tol : Int := s.params.overshootTol
    if (s.lnu.length - t).natAbs ≤ s.params.overshootTol then s.enterAtTarget
    else if t + tol < s.lnu.length then
      if s.fcs.reversals < 2 then s.enterReversing
      else State.enterAtTarget { s with fcs.overshoot := true }
    else s.enterCreeping

/-- The SAW_FAULT notice at an expiry (R164). -/
def State.notifySawFault (s : State) (cause : SawFaultCause) (handle : Nat) (kind : Option CutKind) : State :=
  s.offerNotice (.sawFault cause handle kind s.lnu.length s.lines.sawHome.accepted s.lines.sawEnd.accepted)

/-- The saw timer expires, in FELLING (R144) or in CUTTING (R154). -/
def State.sawExpires (s : State) : State :=
  match s.fcs.state with
  | .felling =>
    let handle := s.fellingHandle
    (s.abandonFelling.notifySawFault .fellTimeout handle none).leaveFelling
  | .cutting => (s.notifySawFault .cutTimeout (s.leadHandle?.getD 0) s.fcs.cutKind).enterPaused .sawTimeout
  | .idle | .holding | .waiting | .feeding | .creeping | .settling | .reversing | .atTarget | .sawReturn | .paused
  | .halted => { s with fcs.sawTimer := none }

/-- The home timer expires in SAW_RETURN (R156). -/
def State.homeExpires (s : State) : State :=
  State.enterPaused
    { s.notifySawFault .homeTimeout (s.leadHandle?.getD 0) s.fcs.cutKind with fcs.stopped := false } .sawNotHome

/-- The stall timer expires (R158). -/
def State.stallExpires (s : State) : State :=
  (s.offerNotice (.feedStall s.fcs.state s.lnu.length s.fcs.stallReference s.target?)).enterPaused .feedStall

end Sys2Proof.Machine
end

