-- ==== Sys2Proof/Machine/Profile.lean ====
section
/-! DEFINITION. Delivery of a measurement: the butt of a TRIM (R9), the profile samples of a FEED with split, thinning, top
watch, stem end and drop-out (file 01 sections 1.5 and 1.9, file 02 sections 2.4 to 2.6), and the end of a group. -/

namespace Sys2Proof.Machine

/-! ### The end of a group (R40) -/

/-- What a group end tells the Diameter Sequencer, the Bucking Engine and the sequencer; the safe point has been signalled
at the last close (R40, R77, R126, R160). -/
def State.groupEnd (s : State) : State := s.cancelFeed.voidPass.sequencerGroupEnd

/-! ### TRIM (R9, R78) -/

/-- A record after its TRIM result: the butt diameter and the BUTT sample (R9). -/
def StemRecord.withButt (r : StemRecord) (averaging : Nat) (m : MeasureReport) : StemRecord :=
  { r with
    butt := some m.result
    profile := r.profile ++ [⟨0, m.result, none, averaging, .ofTrim m.disagree m.armLimit⟩] }

/-- Delivery of a TRIM result: applied to the record it was raised for while that is FELLING or HELD, else discarded
(R9, R78). -/
def State.deliverTrim (s : State) (t : TrimRequest) (averaging : Nat) (m : MeasureReport) : State :=
  match s.record? t.slot with
  | some r =>
    if r.handle = t.handle ∧ (r.state = .felling ∨ r.state = .held) then
      s.setSlot t.slot (some (r.withButt averaging m))
    else s
  | none => s

/-! ### The envelope split (R35, R36) -/

/-- The split divisor Q of a group with these butt diameters (R35). -/
def splitDivisor (butts : List Nat) : Nat := floorRoot ((butts.map fun b => b * b).sum)

/-- The estimate of a member of a group of n with divisor q (R36). -/
def estimate (n q d b : Nat) : Nat :=
  if n < 2 then d
  else if q = 0 then d
  else clampNat 0 999 ((2 * d * b + q) / (2 * q))

/-- The butt diameters of the active members. -/
def State.memberButts (s : State) : List Nat := s.members.map fun m => m.2.butt.getD 0

/-! ### Thinning (R11) -/

/-- The samples at even indices (R11). -/
def evenSamples : List Sample → List Sample
  | [] => []
  | [x] => [x]
  | x :: _ :: rest => x :: evenSamples rest

/-- A record thinned: its even samples, and its profile step doubled up to 1600 (R11). -/
def StemRecord.thinned (r : StemRecord) : StemRecord :=
  { r with profile := evenSamples r.profile, profileStep := min 1600 (2 * r.profileStep) }

/-- Whether the members' profiles are full (R10, step 3). -/
def State.profilesFull (s : State) : Bool := s.members.any fun m => decide (64 ≤ m.2.profile.length)

/-- The lead's profile step. -/
def State.leadStep (s : State) : Nat :=
  match s.lead? with
  | some (_, r) => r.profileStep
  | none => 0

/-! ### Top watch (R23) -/

/-- The notice of a top watch on a sample (R23). -/
def StemRecord.watchNotice (r : StemRecord) (p : Sample) (dir : WatchDirection) : Notice :=
  .topWatch r.handle p.position p.diameter r.topWatch.threshold r.topWatch.mode dir

/-- A sample is below a member's threshold (R23). -/
def StemRecord.below (r : StemRecord) (p : Sample) : Bool := decide (p.diameter < r.topWatch.threshold)

/-- The notice a member's newest sample causes, given the sample before it (R23). -/
def StemRecord.watchTrip (r : StemRecord) (previous : Option Sample) (p : Sample) : Option Notice :=
  match r.topWatch.mode with
  | .fall => if r.topWatch.armed && r.below p then some (r.watchNotice p .falling) else none
  | .every =>
    match previous with
    | some old =>
      if r.below old = r.below p then none else some (r.watchNotice p (if r.below p then .falling else .rising))
    | none => none

/-- A record after its top watch has been evaluated on a sample: a FALL trip disarms it (R23). -/
def StemRecord.watched (r : StemRecord) (p : Sample) : StemRecord :=
  if r.topWatch.mode = .fall ∧ r.topWatch.armed ∧ r.below p then { r with topWatch.armed := false } else r

/-- Top watch on the newest sample of the record in a slot (R23). -/
def State.watchSlot (s : State) (slot : Nat) : State :=
  match s.record? slot with
  | none => s
  | some r =>
    match r.profile.getLast? with
    | none => s
    | some p =>
      let t := s.setSlot slot (some (r.watched p))
      match r.watchTrip (r.profile.dropLast.getLast?) p with
      | some n => t.offerNotice n
      | none => t

/-- Top watch on the newest sample of every active member, in ascending felling order (R10 step 5, R23). -/
def State.watchMembers (s : State) : State := s.stb.group.foldl State.watchSlot s

/-! ### FEED (R10, R37 to R39) -/

/-- The sample a FEED result appends to a member (R10, step 4). -/
def feedSample (q : FeedRequest) (averaging n divisor : Nat) (m : MeasureReport) (butt : Nat) : Sample where
  position := q.position.toNat
  diameter := estimate n divisor m.result butt
  envelope := if 2 ≤ n then some m.result else none
  averaging := averaging
  flags := .ofFeed m.disagree m.armLimit q.source n

/-- A record with one more sample. -/
def StemRecord.append (p : Sample) (r : StemRecord) : StemRecord := { r with profile := r.profile ++ [p] }

/-- Whether the captured position does not lie beyond the lead's last sample (R10, step 1). -/
def State.feedDiscarded (s : State) (q : FeedRequest) : Bool :=
  match s.lead?.bind fun m => m.2.profile.getLast? with
  | some p => decide (q.position ≤ p.position)
  | none => false

/-- Steps 2 to 4: the estimates, the thinning with the move of T, and the append (R10, R11, R35, R36). -/
def State.appendSamples (s : State) (q : FeedRequest) (averaging : Nat) (m : MeasureReport) : State :=
  let n := s.members.length
  let divisor := splitDivisor s.memberButts
  let thin := s.profilesFull
  let t := if thin then s.modifyMembers StemRecord.thinned else s
  let u := t.modifyMembers fun r => r.append (feedSample q averaging n divisor m (r.butt.getD 0))
  if thin then { u with lnu.trigger := q.position + u.leadStep } else u

/-- The slots of the members that fall out at a result: each but the lead whose newest estimate lies below end_diameter
(R38). -/
def State.dropOuts (s : State) : List Nat :=
  (s.members.filter fun m =>
    m.2.role != some .lead &&
      match m.2.profile.getLast? with
      | some p => decide (p.diameter < s.params.endDiameter)
      | none => false).map fun m => m.1

/-- Stem end: every active member closes TOPPED, and the group ends (R37). -/
def State.stemEnd (s : State) : State :=
  (s.closeAll s.stb.group (fun _ => .closed) .topped).groupEnd

/-- Delivery of a FEED result (R10), discarded where no group is PROCESSING. -/
def State.deliverFeed (s : State) (q : FeedRequest) (averaging : Nat) (m : MeasureReport) : State :=
  if s.groupState ≠ .processing then s
  else if s.feedDiscarded q then s.modifyActive StemRecord.missed
  else
    let t := (s.appendSamples q averaging m).watchMembers
    if m.result < t.params.endDiameter then t.stemEnd
    else (t.closeAll t.dropOuts (fun _ => .closed) .fellOut).requestPass

/-! ### Completion of a sequence (R67 to R69) -/

/-- Delivery to the requester's consumer (R69). -/
def State.deliver (s : State) (q : RunningSequence) (m : MeasureReport) : State :=
  match q.target with
  | .feed f => s.deliverFeed f q.averaging m
  | .trim t => s.deliverTrim t q.averaging m
  | .cab c => s.offerNotice (c.notice (some m))

/-- The completion of the running sequence: its result is formed and delivered, and the sequencer is free and arbitrates
(R67 to R69). -/
def State.finishSequence (s : State) (q : RunningSequence) (r : Readings) : State :=
  let done := q.readAll r
  (State.deliver { s with dsq.running := none } done (s.measureReport done)).arbitrate

end Sys2Proof.Machine
end

