-- ==== Sys2Proof/Machine/Operating.lean ====
section
/-! DEFINITION. Group start (file 02, section 2.3), the configured state (R173), and the operating requests FELL, FEED, STOP,
CUT, CUT_HERE, DROP and RELEASE (file 08). -/

namespace Sys2Proof.Machine

/-! ### The configured state (R173) -/

/-- Each of the seven items behind the configured state, in R173's order: the four tables, the two constants, the ACTIVE
bank. -/
def State.configuredItems (s : State) : List Bool :=
  [armComplete s.dsq.ukl, armComplete s.dsq.ukr, armComplete s.dsq.frl, armComplete s.dsq.frr,
    s.params.wheelConstant != 0, s.params.rollerConstant != 0, s.atb.active.toList.any fun o => o.isSome]

/-- The part is configured (R173). -/
def State.configured (s : State) : Bool := s.configuredItems.all id

/-! ### FELL (R142) -/

/-- The acceptance of a FELL into a FREE slot: the record, its TRIM request, and the entry into FELLING (R142). -/
def State.acceptFell (s : State) (slot species : Nat) : State :=
  ((s.openRecord slot species).raiseTrim ⟨slot, s.stb.nextHandle⟩).enter .felling

/-- FELL (R142). -/
def answerFell (species : Nat) (s : State) : State × Answer :=
  if ¬(s.fcs.state = .idle ∨ s.fcs.state = .holding) then (s, .only .wrongState)
  else if 15 < species then (s, .only .range)
  else if !s.configured then (s, .only .notConfigured)
  else
    match s.freeSlot? with
    | none => (s, .only .full)
    | some slot =>
      if 4 ≤ s.stb.group.length then (s, .only .full)
      else if s.dsq.trimBusy then (s, .only .busy)
      else if !s.lines.sawHome.accepted then (s, .only .sawNotHome)
      else (s.acceptFell slot species, .only .ok)

/-! ### Group start (R33, R34) -/

/-- The slot of the record with the largest butt diameter, the earliest felled of them (R33). -/
def State.chooseLead (s : State) : Option Nat :=
  (s.members.foldl
    (fun (best : Option (Nat × Nat)) m =>
      let b := m.2.butt.getD 0
      match best with
      | some (_, top) => if top < b then some (m.1, b) else best
      | none => some (m.1, b)) none).map fun p => p.1

/-- A member's fields at group start (R34, step 2). -/
def State.startMember (s : State) (lead : Option Nat) (slot : Nat) (r : StemRecord) : StemRecord :=
  { r with
    state := .processing
    role := some (if lead = some slot then .lead else .member)
    profileStep := s.params.profileStep
    furthest := 0
    topWatch.threshold :=
      if r.topWatch.origin = .default then s.defaultThreshold r.species else r.topWatch.threshold }

/-- Steps 1 and 2 of a group start for every member, in ascending felling order (R34). -/
def State.startMembers (s : State) : State :=
  let lead := s.chooseLead
  s.stb.group.foldl (fun t slot => t.modifySlot slot (s.startMember lead slot)) s

/-- The length source summary a datum starts (R13). -/
def SourceSummary.atDatum (src : SourceState) : SourceSummary := if src = .wheel then .wheelOnly else .rollerOnly

/-- Group start up to the pass request: members, datum, summaries, pass (R34, steps 1 to 6). -/
def State.startGroup (s : State) : State :=
  let t := s.startMembers.datum
  (t.modifyMembers fun r => { r with lengthSummary := .atDatum t.lnu.source }).requestPass

/-! ### FEED (R32, R145) -/

/-- FEED in HOLDING (R32, R34). -/
def feedInHolding (s : State) : State × Answer :=
  if !s.lines.sawHome.accepted then (s, .only .sawNotHome)
  else if s.members.any fun m => m.2.butt.isNone then (s, .only .notReady)
  else (s.startGroup.enterWaiting, .only .ok)

/-- FEED in PAUSED (R145). -/
def feedInPaused (s : State) : State × Answer :=
  if !s.lines.sawHome.accepted then (s, .only .sawNotHome)
  else if s.planNonempty then (s.enterFeeding, .only .ok)
  else if s.passOutstanding then (s.enterWaiting, .only .ok)
  else (s, .only .wrongState)

/-- FEED (R145). -/
def answerFeed (s : State) : State × Answer :=
  match s.fcs.state with
  | .holding => feedInHolding s
  | .paused => feedInPaused s
  | .idle | .felling | .waiting | .feeding | .creeping | .settling | .reversing | .atTarget | .cutting | .sawReturn
  | .halted => (s, .only .wrongState)

/-! ### STOP (R144, R157) -/

/-- STOP in CUTTING: the stopped mark and SAW_RETURN (R157). -/
def State.stopCut (s : State) : State := State.enterSawReturn { s with fcs.stopped := true }

/-- STOP in FELLING: the felling fails (R144). -/
def State.stopFelling (s : State) : State := s.abandonFelling.leaveFelling

/-- STOP (R157). -/
def answerStop (s : State) : State × Answer :=
  match s.fcs.state with
  | .feeding | .creeping | .reversing | .settling | .waiting => (s.enterPaused .stopRequest, .only .ok)
  | .cutting => (s.stopCut, .only .ok)
  | .felling => (s.stopFelling, .only .ok)
  | .idle | .holding | .atTarget | .sawReturn | .paused | .halted => (s, .only .wrongState)

/-! ### CUT and CUT_HERE (R153, R155) -/

/-- The state check of CUT (R153). -/
def State.cutReady (s : State) : Bool :=
  match s.fcs.state with
  | .atTarget => true
  | .paused =>
    match s.lead?.bind fun m => m.2.committed? with
    | some p => decide ((s.lnu.length - p.cutPosition).natAbs ≤ s.params.overshootTol)
    | none => false
  | .idle | .felling | .holding | .waiting | .feeding | .creeping | .settling | .reversing | .cutting | .sawReturn
  | .halted => false

/-- CUT (R153). -/
def answerCut (s : State) : State × Answer :=
  if !s.cutReady then (s, .only .wrongState)
  else if !s.lines.sawHome.accepted then (s, .only .sawNotHome)
  else (s.startCut .planned, .only .ok)

/-- CUT_HERE (R155). -/
def answerCutHere (s : State) : State × Answer :=
  if ¬(s.fcs.state = .paused ∨ s.fcs.state = .atTarget) then (s, .only .wrongState)
  else
    match s.lead? with
    | none => (s, .only .wrongState)
    | some (_, r) =>
      if 12 ≤ r.pieces.length then (s, .only .full)
      else if s.lnu.length ≤ r.lastCut?.getD 0 then (s, .only .range)
      else if !s.lines.sawHome.accepted then (s, .only .sawNotHome)
      else (s.startCut .offPlan, .only .ok)

/-! ### DROP and RELEASE (R30, R31, R159) -/

/-- The top record of a HELD group is abandoned, and an emptied group takes the sequencer to IDLE (R30, R159). -/
def State.dropTop (s : State) : State :=
  let t := match s.stb.group.getLast? with
    | some slot => s.closeRecord slot .abandoned .dropped
    | none => s
  if t.stb.group.isEmpty then t.enter .idle else t

/-- DROP (R159). -/
def answerDrop (s : State) : State × Answer :=
  if s.fcs.state = .holding then (s.dropTop, .only .ok) else (s, .only .wrongState)

/-- Every record of the group is closed; the end of a PROCESSING group is told to its neighbours; the sequencer enters IDLE
(R31, R40, R159). -/
def State.release (s : State) : State :=
  let t := s.releaseGroup
  (if s.groupState = .processing then t.cancelFeed.voidPass else t).enterIdle

/-- RELEASE (R159). -/
def answerRelease (s : State) : State × Answer :=
  match s.fcs.state with
  | .holding | .paused | .atTarget | .waiting => (s.release, .only .ok)
  | .idle | .felling | .feeding | .creeping | .settling | .reversing | .cutting | .sawReturn | .halted =>
    (s, .only .wrongState)

/-! ### The halt line (R161, R162) -/

/-- The sequencer at the assertion of filtered HALT_N (R161). -/
def State.haltAsserts (s : State) : State :=
  let t := if s.fcs.state = .felling then s.abandonFelling else s
  State.enter { t with fcs.stopped := false } .halted

/-- The sequencer at the deassertion of filtered HALT_N (R162). -/
def State.haltReleases (s : State) : State :=
  match s.groupState with
  | .processing => s.enterPaused .haltReleased
  | .held => s.enter .holding
  | .empty => s.enter .idle

/-! ### The saw switches (R61, R143, R152, R156) -/

/-- Filtered SAW_END asserts (R61, R143, R152). -/
def State.sawEndAsserts (s : State) : State :=
  match s.fcs.state with
  | .cutting => s.completeCut
  | .felling => s.completeFelling
  | .idle => s.clearPieceFlags
  | .holding | .waiting | .feeding | .creeping | .settling | .reversing | .atTarget | .sawReturn | .paused
  | .halted => s

/-- Filtered SAW_HOME asserts (R156). -/
def State.sawHomeAsserts (s : State) : State :=
  match s.fcs.state with
  | .sawReturn => s.endSawReturn
  | .idle | .felling | .holding | .waiting | .feeding | .creeping | .settling | .reversing | .atTarget | .cutting
  | .paused | .halted => s

end Sys2Proof.Machine
end

