-- ==== Sys2Proof/Machine/Parameters.lean ====
section
/-! DEFINITION. The operating parameters (file 09, section 9.2): numbers, ranges, defaults, locks, SET_PARAMETER and
READ_PARAMETER. -/

namespace Sys2Proof.Machine

/-- The range and the default of a parameter number, the constants' default 0 (R169, R172). -/
structure ParameterInfo where
  low : Nat
  high : Nat
  default : Nat
  deriving DecidableEq, Repr

/-- The table of R169, and none for a number outside 0..22. -/
def parameterInfo : Nat → Option ParameterInfo
  | 0 => some ⟨50, 400, 100⟩
  | 1 => some ⟨500, 5000, 2000⟩
  | 2 => some ⟨100, 1000, 300⟩
  | 3 => some ⟨5, 100, 20⟩
  | 4 => some ⟨0, 1000, 200⟩
  | 5 => some ⟨50, 1000, 150⟩
  | 6 => some ⟨500, 5000, 2500⟩
  | 7 => some ⟨300, 3000, 1500⟩
  | 8 => some ⟨300, 5000, 1500⟩
  | 9 => some ⟨10, 60, 25⟩
  | 10 => some ⟨5, 50, 15⟩
  | 11 => some ⟨100, 1000, 250⟩
  | 12 => some ⟨5, 40, 12⟩
  | 13 => some ⟨1000, 60000, 0⟩
  | 14 => some ⟨1000, 60000, 0⟩
  | 15 => some ⟨2, 8, 3⟩
  | 16 => some ⟨2, 20, 5⟩
  | 17 => some ⟨50, 2000, 200⟩
  | 18 => some ⟨1, 3, 3⟩
  | 19 => some ⟨1, 8, 2⟩
  | 20 => some ⟨1, 3, 3⟩
  | 21 => some ⟨1, 8, 8⟩
  | 22 => some ⟨0, 1, 1⟩
  | _ => none

/-- The value of a parameter, by the codes of R169. -/
def Parameters.get (p : Parameters) : Nat → Nat
  | 0 => p.profileStep
  | 1 => p.taperWindow
  | 2 => p.slowDistance
  | 3 => p.overshootTol
  | 4 => p.leadMargin
  | 5 => p.settleTime
  | 6 => p.sawTimeout
  | 7 => p.homeTimeout
  | 8 => p.stallTime
  | 9 => p.endDiameter
  | 10 => p.disagreeTol
  | 11 => p.slipWindow
  | 12 => p.slipTol
  | 13 => p.wheelConstant
  | 14 => p.rollerConstant
  | 15 => p.encFilter
  | 16 => p.switchFilter
  | 17 => p.sensorSettle
  | 18 => p.feedMask.code
  | 19 => p.feedAvg
  | 20 => p.trimMask.code
  | 21 => p.trimAvg
  | 22 => if p.autoCut then 1 else 0
  | _ => 0

/-- Stores a value, by the codes of R169. A code that names no mask stores nothing. -/
def Parameters.set (p : Parameters) (number v : Nat) : Parameters :=
  match number with
  | 0 => { p with profileStep := v }
  | 1 => { p with taperWindow := v }
  | 2 => { p with slowDistance := v }
  | 3 => { p with overshootTol := v }
  | 4 => { p with leadMargin := v }
  | 5 => { p with settleTime := v }
  | 6 => { p with sawTimeout := v }
  | 7 => { p with homeTimeout := v }
  | 8 => { p with stallTime := v }
  | 9 => { p with endDiameter := v }
  | 10 => { p with disagreeTol := v }
  | 11 => { p with slipWindow := v }
  | 12 => { p with slipTol := v }
  | 13 => { p with wheelConstant := v }
  | 14 => { p with rollerConstant := v }
  | 15 => { p with encFilter := v }
  | 16 => { p with switchFilter := v }
  | 17 => { p with sensorSettle := v }
  | 18 => { p with feedMask := (Mask.ofCode v).getD p.feedMask }
  | 19 => { p with feedAvg := v }
  | 20 => { p with trimMask := (Mask.ofCode v).getD p.trimMask }
  | 21 => { p with trimAvg := v }
  | 22 => { p with autoCut := v == 1 }
  | _ => p

/-- Whether a parameter is locked (R75, R76, R170). -/
def State.parameterLocked (s : State) (number : Nat) : Bool :=
  match number with
  | 13 | 14 => decide (0 < s.processingCount)
  | 17 => s.dsq.running.isSome
  | 18 | 19 => s.dsq.stateNumber == 1
  | 20 | 21 => s.dsq.stateNumber == 2
  | _ => false

/-- Whether a value names a choice its parameter offers (R170, check 3). -/
def codeOk (number v : Nat) : Bool :=
  match number with
  | 18 | 20 => (Mask.ofCode v).isSome
  | 22 => decide (v ≤ 1)
  | _ => true

/-- The largest averaging count not above a value, or 1 (R170). -/
def clampAveraging (v : Nat) : Nat := if v < 2 then 1 else if v < 4 then 2 else if v < 8 then 4 else 8

/-- The stored value for a given one (R170, check 4). -/
def clampParameter (number : Nat) (info : ParameterInfo) (v : Nat) : Nat :=
  match number with
  | 19 | 21 => clampAveraging v
  | _ => clampNat info.low info.high v

/-! ### Timers (R141) -/

/-- A running timer whose time has reached its period. -/
def timerDue (elapsed : Option Nat) (period : Nat) : Bool := elapsed.any fun t => decide (period ≤ t)

/-- A running timer whose elapsed time already reaches a changed period expires at the change (R141). -/
def State.timerAtChange (s : State) (number : Nat) : State :=
  match number with
  | 5 => if timerDue s.fcs.settleTimer s.params.settleTime then s.settleExpires else s
  | 6 => if timerDue s.fcs.sawTimer s.params.sawTimeout then s.sawExpires else s
  | 7 => if timerDue s.fcs.homeTimer s.params.homeTimeout then s.homeExpires else s
  | 8 => if timerDue s.fcs.stallTimer s.params.stallTime then s.stallExpires else s
  | _ => s

/-! ### The requests (R170, R171) -/

/-- A parameter takes a value: nothing happens for the value it holds, a constant rebases and restarts the window (R50),
and a timer's new period holds at once (R141). -/
def State.storeParameter (s : State) (number v : Nat) : State :=
  if s.params.get number = v then s
  else
    match number with
    | 13 => s.changeConstant .wheel v
    | 14 => s.changeConstant .roller v
    | _ => State.timerAtChange { s with params := s.params.set number v } number

/-- SET_PARAMETER (R170). -/
def answerSetParameter (number v : Nat) (s : State) : State × Answer :=
  match parameterInfo number with
  | none => (s, .only .range)
  | some info =>
    if s.parameterLocked number then (s, .only .busy)
    else if !codeOk number v then (s, .only .range)
    else
      let stored := clampParameter number info v
      (s.storeParameter number stored, ⟨if stored = v then .ok else .clamped, u16 stored⟩)

/-- READ_PARAMETER (R171). -/
def answerReadParameter (number : Nat) (s : State) : State × Answer :=
  match parameterInfo number with
  | none => (s, .only .range)
  | some info =>
    (s, .okWith (u8 number ++ u16 (s.params.get number) ++ u16 info.low ++ u16 info.high ++ u16 info.default))

end Sys2Proof.Machine
end

