-- ==== Sys2Proof/Machine/Records.lean ====
section
/-! DEFINITION. The requests on stem records (file 01, sections 1.4 and 1.8 to 1.10; R135), and the layouts of their
answers (R188). -/

namespace Sys2Proof.Machine

/-! ### Requests that change a record (R7) -/

/-- The first two checks of R7: the handle, then state and role. -/
def withRecord (handle : Nat) (accepts : StemRecord → Bool) (s : State)
    (act : Nat → StemRecord → State × Answer) : State × Answer :=
  match s.findRecord handle with
  | none => (s, .only .noStem)
  | some (slot, r) => if accepts r then act slot r else (s, .only .wrongState)

/-- HELD or PROCESSING (R7). -/
def StemRecord.inGroup (r : StemRecord) : Bool := r.state == .held || r.state == .processing

/-- PROCESSING with role LEAD (R7). -/
def StemRecord.leads (r : StemRecord) : Bool := r.state == .processing && r.role == some .lead

/-- CLOSED or ABANDONED (R7). -/
def StemRecord.finished (r : StemRecord) : Bool := r.state == .closed || r.state == .abandoned

/-- A record with a species, and with the default threshold recomputed where its origin asks for it (R8). -/
def State.withSpecies (s : State) (r : StemRecord) (species : Nat) : StemRecord :=
  if r.topWatch.origin = .default then
    { r with species := species, topWatch.threshold := s.defaultThreshold species }
  else { r with species := species }

/-- SET_SPECIES (R8). -/
def answerSetSpecies (handle species : Nat) (s : State) : State × Answer :=
  withRecord handle StemRecord.inGroup s fun slot r =>
    if 15 < species then (s, .only .range)
    else if species = r.species then (s, .only .ok)
    else if r.state = .held then (s.setSlot slot (some { r with species := species }), .only .ok)
    else ((s.setSlot slot (some (s.withSpecies r species))).requestPass, .only .ok)

/-- Whether an assortment number and a length may be an override (R19). -/
def State.overrideOk (s : State) (assortment nominal : Nat) : Bool :=
  (Bank.entry? s.atb.active assortment).any fun a => a.lengths.contains nominal

/-- SET_OVERRIDE (R19). -/
def answerSetOverride (handle assortment nominal : Nat) (s : State) : State × Answer :=
  withRecord handle StemRecord.leads s fun slot r =>
    if !s.overrideOk assortment nominal then (s, .only .range)
    else ((s.setSlot slot (some { r with override := some ⟨assortment, nominal⟩ })).requestPass, .only .ok)

/-- CLEAR_OVERRIDE (R19). -/
def answerClearOverride (handle : Nat) (s : State) : State × Answer :=
  withRecord handle StemRecord.leads s fun slot r =>
    if r.override.isNone then (s, .only .ok)
    else ((s.setSlot slot (some { r with override := none })).requestPass, .only .ok)

/-- FREEZE_PLAN (R20, R126). -/
def answerFreezePlan (handle : Nat) (s : State) : State × Answer :=
  withRecord handle StemRecord.leads s fun slot r =>
    if r.frozen then (s, .only .ok)
    else ((s.setSlot slot (some { r with frozen := true, pendingPlan := none })).voidPassOf r.handle, .only .ok)

/-- THAW_PLAN (R20). -/
def answerThawPlan (handle : Nat) (s : State) : State × Answer :=
  withRecord handle StemRecord.leads s fun slot r =>
    if !r.frozen then (s, .only .ok)
    else ((s.setSlot slot (some { r with frozen := false })).requestPass, .only .ok)

/-- SET_UPDATE_MODE (R21). -/
def answerSetUpdateMode (handle mode : Nat) (s : State) : State × Answer :=
  withRecord handle StemRecord.inGroup s fun slot r =>
    match UpdateMode.ofNumber mode with
    | none => (s, .only .range)
    | some .atStop => (s.setSlot slot (some { r with updateMode := .atStop }), .only .ok)
    | some .immediate =>
      if r.updateMode = .immediate then (s, .only .ok)
      else
        let t := s.setSlot slot (some { r with updateMode := .immediate, pendingPlan := none })
        (if r.leads then t.requestPass else t, .only .ok)

/-- REPLAN (R135). -/
def answerReplan (handle : Nat) (s : State) : State × Answer :=
  withRecord handle StemRecord.leads s fun _ r =>
    if r.frozen then (s, .only .frozen) else (s.requestPass, .only .ok)

/-- The threshold and its origin that a SET_TOP_WATCH asks for, 65535 for DEFAULT, and none for a value out of range
(R22, R187). -/
def State.watchThreshold (s : State) (r : StemRecord) (threshold : Nat) : Option (Nat × WatchOrigin) :=
  if threshold = 65535 then some (s.defaultThreshold r.species, .default)
  else if threshold ≤ 999 then some (threshold, .set)
  else none

/-- SET_TOP_WATCH (R22). -/
def answerSetTopWatch (handle threshold mode : Nat) (s : State) : State × Answer :=
  withRecord handle StemRecord.inGroup s fun slot r =>
    match s.watchThreshold r threshold, WatchMode.ofNumber mode with
    | some (th, origin), some m => (s.setSlot slot (some { r with topWatch := ⟨th, m, true, origin⟩ }), .only .ok)
    | none, _ => (s, .only .range)
    | some _, none => (s, .only .range)

/-- RETIRE_STEM (R27). -/
def answerRetireStem (handle : Nat) (s : State) : State × Answer :=
  withRecord handle StemRecord.finished s fun slot _ => (s.setSlot slot none, .only .ok)

/-! ### Layouts (R188) -/

/-- A profile sample, 7 bytes. -/
def Sample.bytes (p : Sample) : List Byte :=
  u16 p.position ++ u16 p.diameter ++ optU16 p.envelope ++ u8 (p.flags.bits + 64 * averagingCode p.averaging)

/-- A plan piece, 12 bytes. -/
def PlanPiece.bytes (p : PlanPiece) : List Byte :=
  u8 p.assortment ++ u16 p.nominal ++ posU16 p.cutPosition ++ u16 p.topDiameter ++ u32 p.value ++
    u8 (flagBits [p.status == .committed, p.source == .override])

/-- A piece, 19 bytes. -/
def Piece.bytes (p : Piece) : List Byte :=
  u8 p.kind.number ++ optU8 p.assortment ++ posU16 p.cutPosition ++ posU16 p.actual ++ optU16 p.nominal ++
    optI32 p.lengthError ++ u16 p.topDiameter ++ optU32 p.value ++ u8 p.flags.bits

/-! ### Reads (R24 to R26) -/

/-- The handle check of a read (section 1.10). -/
def readRecord (handle : Nat) (s : State) (answer : StemRecord → Answer) : State × Answer :=
  match s.findRecord handle with
  | none => (s, .only .noStem)
  | some (_, r) => (s, answer r)

/-- An entry of LIST_STEMS (R24). -/
def StemRecord.listEntry (slot : Nat) (r : StemRecord) : List Byte :=
  u8 slot ++ u16 r.handle ++ u8 r.state.number ++ optU8 (r.endReason.map EndReason.number) ++ u8 r.fellingOrder ++
    optU8 (r.role.map Role.number) ++ u8 r.pieces.length

/-- The occupied slots with their records, ascending. -/
def State.occupied (s : State) : List (Nat × StemRecord) :=
  s.stb.slots.toList.zipIdx.filterMap fun p => p.1.map fun r => (p.2, r)

/-- LIST_STEMS (R24). -/
def answerListStems (s : State) : State × Answer :=
  (s, .okWith (u8 s.freeSlots ++ listBytes (s.occupied.map fun p => p.2.listEntry p.1)))

/-- The fields of a record that are no lists, in the order of R5, and the counts of its lists (R24; log 15). -/
def StemRecord.fieldBytes (r : StemRecord) : List Byte :=
  u16 r.handle ++ u8 r.state.number ++ optU8 (r.endReason.map EndReason.number) ++ u8 r.species ++
    u8 r.fellingOrder ++ optU8 (r.role.map Role.number) ++ optU16 r.butt ++ u16 r.profileStep ++
    optU8 (r.override.map fun o => o.assortment) ++ optU16 (r.override.map fun o => o.nominal) ++ yesNo r.frozen ++
    u8 r.updateMode.number ++ u16 r.topWatch.threshold ++ u8 r.topWatch.mode.number ++ yesNo r.topWatch.armed ++
    u8 r.topWatch.origin.number ++ u8 r.missedSamples ++ u8 r.disputedWindows ++ u8 r.lengthSummary.number ++
    i32 r.furthest ++ u32 r.planValue ++ u8 r.lastPass ++ u8 r.profile.length ++ u8 r.plan.length ++
    (match r.pendingPlan with
     | some p => u8 1 ++ u8 p.pieces.length
     | none => u8 0) ++
    u8 r.pieces.length

/-- READ_STEM (R24). -/
def answerReadStem (handle : Nat) (s : State) : State × Answer :=
  readRecord handle s fun r => .okWith r.fieldBytes

/-- READ_PROFILE (R25). -/
def answerReadProfile (handle first count : Nat) (s : State) : State × Answer :=
  readRecord handle s fun r =>
    if count < 1 ∨ 32 < count ∨ r.profile.length < first then .only .range
    else
      .okWith (u16 r.handle ++ u8 r.profile.length ++ u16 r.profileStep ++ u8 first ++
        listBytes (((r.profile.drop first).take count).map Sample.bytes))

/-- READ_PLAN (R26). -/
def answerReadPlan (handle which : Nat) (s : State) : State × Answer :=
  readRecord handle s fun r =>
    match which with
    | 0 => .okWith (u16 r.handle ++ u32 r.planValue ++ u8 r.lastPass ++ listBytes (r.plan.map PlanPiece.bytes))
    | 1 =>
      .okWith (u16 r.handle ++ optListBytes (r.pendingPlan.map fun p => p.pieces.map PlanPiece.bytes))
    | _ => .only .range

/-- READ_PIECES (R26). -/
def answerReadPieces (handle : Nat) (s : State) : State × Answer :=
  readRecord handle s fun r => .okWith (u16 r.handle ++ listBytes (r.pieces.map Piece.bytes))

end Sys2Proof.Machine
end

