-- ==== Sys2Proof/Machine/Reinitialise.lean ====
section
/-! DEFINITION. REINITIALISE STEMS and REINITIALISE ALL (file 09, section 9.4): one event on every block, in the order that
R174 gives its notices. -/

namespace Sys2Proof.Machine

/-- What REINITIALISE ALL does beside REINITIALISE STEMS: tables, parameters, banks, lock, pending swap and taper table
take their power-on values (R64, R92, R94, R172, R174). -/
def State.clearConfiguration (s : State) : State :=
  { s.clearTables with params := .default, atb := .powerOn }

/-- The Stem Table at a reinitialisation: slots FREE, group empty, the counter kept, and the safe point when a record was
PROCESSING (R1, R2, R4, R174). -/
def State.clearStems (s : State) : State :=
  let t := { s with stb.slots := Vector.replicate 8 none, stb.group := [] }
  if s.processingCount = 0 then t else t.safePoint

/-- The sequencer at a reinitialisation (R163). -/
def State.resetSequencer (s : State) : State :=
  { s with fcs := .reset (if s.lines.halt.accepted then .halted else .idle) }

/-- REINITIALISE STEMS (R174). -/
def State.reinitialiseStems (s : State) : State :=
  (((s.abortMeasurements.clearStems).restartLength 0).voidPass).resetSequencer

/-- REINITIALISE ALL: the configuration is cleared before the rest reads it (R174, log 23). -/
def State.reinitialiseAll (s : State) : State :=
  ((((s.abortMeasurements.clearConfiguration).clearStems).restartLength 0).voidPass).resetSequencer

/-- REINITIALISE (R174): scope 0 is STEMS and scope 1 is ALL (R187). -/
def answerReinitialise (scope : Nat) (s : State) : State × Answer :=
  match scope with
  | 0 => (s.reinitialiseStems, .only .ok)
  | 1 => (s.reinitialiseAll, .only .ok)
  | _ => (s, .only .range)

end Sys2Proof.Machine
end

