-- ==== Sys2Proof/Machine/Status.lean ====
section
/-! DEFINITION. READ_STATUS (R185): what each block contributes, and the clearing of the lost counts. -/

namespace Sys2Proof.Machine

/-- The Head Bus Port's items (R185). -/
def HeadBus.statusBytes (h : HeadBus) : List Byte :=
  u8 h.node.toNat ++ u8 h.requests.length ++ u8 h.notices.length ++ u8 h.requestsLost ++ u8 h.noticesLost

/-- The Stem Table's items (R185). -/
def State.stemStatus (s : State) : List Byte :=
  u8 s.freeSlots ++ u8 s.groupState.number ++ u8 s.stb.group.length ++ u8 s.processingCount ++
    optU16 s.leadHandle? ++ u16 s.stb.nextHandle

/-- The Length Unit's items (R62). -/
def LengthUnit.statusBytes (l : LengthUnit) : List Byte :=
  i32 l.length ++ yesNo l.limit ++ u8 l.source.number ++ u8 l.n ++ yesNo l.wheelFaulty ++ yesNo l.rollerFaulty ++
    yesNo l.slipSuspended ++ posU16 l.trigger ++ u8 (flagBits [l.slipSuspect, l.rollerLen])

/-- The Diameter Sequencer's items (R81). -/
def DiameterSequencer.statusBytes (d : DiameterSequencer) : List Byte :=
  u8 d.stateNumber ++ yesNo d.feedPending.isSome ++ yesNo d.trimPending.isSome ++ yesNo d.cabPending.isSome ++
    yesNo (armComplete d.ukl) ++ yesNo (armComplete d.ukr) ++ yesNo (armComplete d.frl) ++ yesNo (armComplete d.frr)

/-- The Assortment Table's items (R98). -/
def AssortmentTable.statusBytes (a : AssortmentTable) : List Byte :=
  u8 a.lockSize ++ yesNo a.swapPending ++ u8 (Bank.defined a.active) ++ u8 (Bank.defined a.edit) ++
    yesNo (decide (0 < Bank.defined a.active))

/-- The Bucking Engine's items (R137). -/
def BuckingEngine.statusBytes (b : BuckingEngine) : List Byte :=
  yesNo b.inFlight.isSome ++ optU8 (b.inFlight.map fun p => p.number) ++ yesNo b.flag ++ u8 b.counter ++
    u8 b.lastOutcome.number ++ u8 b.lastOutcomePass

/-- Whether the lead's first plan piece is COMMITTED (R165). -/
def State.targetCommitted (s : State) : Bool := (s.lead?.bind fun m => m.2.committed?).isSome

/-- The levels of the six demand lines (R165), in the order of the table of R139. DESIGN CHOICE, log 24: R165 gives no
order. -/
def DemandLines.statusBytes (d : DemandLines) : List Byte :=
  yesNo d.feedFwd ++ yesNo d.feedFast ++ yesNo d.feedRev ++ yesNo d.sawRun ++ yesNo d.knifeGrip ++ yesNo d.accumClose

/-- The sequencer's items (R165). -/
def State.sequencerStatus (s : State) : List Byte :=
  u8 s.fcs.state.number ++ optU8 (s.fcs.pause.map PauseReason.number) ++ optPosU16 s.target? ++
    yesNo s.targetCommitted ++ u8 s.fcs.reversals ++ yesNo s.fcs.overshoot ++
    optU8 (s.fcs.cutKind.map CutKind.number) ++ yesNo s.fcs.stopped ++ s.demand.statusBytes ++
    yesNo s.lines.sawHome.accepted ++ yesNo s.lines.sawEnd.accepted ++ yesNo s.lines.halt.accepted

/-- The configured state and its seven items (R173). -/
def State.configuredStatus (s : State) : List Byte :=
  yesNo s.configured ++ s.configuredItems.flatMap yesNo

/-- The content of the READ_STATUS answer, block by block in R185's order. -/
def State.statusBytes (s : State) : List Byte :=
  s.hbp.statusBytes ++ s.stemStatus ++ s.lnu.statusBytes ++ s.dsq.statusBytes ++ s.atb.statusBytes ++
    s.bke.statusBytes ++ s.sequencerStatus ++ s.configuredStatus

/-- READ_STATUS (R185). -/
def answerReadStatus (s : State) : State × Answer :=
  ({ s with hbp.requestsLost := 0, hbp.noticesLost := 0 }, .okWith s.statusBytes)

end Sys2Proof.Machine
end

