-- ==== Sys2Proof/Machine/Service.lean ====
section
/-! DEFINITION. The request queue, the service of a request, and the transmitter's choice (file 10, sections 10.3, 10.4). -/

namespace Sys2Proof.Machine

/-! ### Handling a request (R181) -/

/-- A request is handed to its owner, which acts and answers (R181). -/
def handleRequest (tag : Byte) (r : Request) (s : State) : State × Answer :=
  match r with
  | .setParameter n v => answerSetParameter n.toNat v.toNat s
  | .readParameter n => answerReadParameter n.toNat s
  | .loadArmPoint a i raw c => answerLoadArmPoint a.toNat i.toNat raw.toNat c.toNat s
  | .readArmTable a => answerReadArmTable a.toNat s
  | .setSpeciesTaper sp lo d hi => answerSetSpeciesTaper sp.toNat lo.toNat d.toNat hi.toNat s
  | .readSpeciesTaper sp => answerReadSpeciesTaper sp.toNat s
  | .writeAssortment n e => answerWriteAssortment n.toNat e s
  | .retireAssortment n => answerRetireAssortment n.toNat s
  | .readAssortment b n => answerReadAssortment b.toNat n.toNat s
  | .swapBanks => answerSwapBanks s
  | .setLockSize n => answerSetLockSize n.toNat s
  | .listStems => answerListStems s
  | .readStem h => answerReadStem h.toNat s
  | .readProfile h f c => answerReadProfile h.toNat f.toNat c.toNat s
  | .readPlan h w => answerReadPlan h.toNat w.toNat s
  | .readPieces h => answerReadPieces h.toNat s
  | .setSpecies h sp => answerSetSpecies h.toNat sp.toNat s
  | .setOverride h a l => answerSetOverride h.toNat a.toNat l.toNat s
  | .clearOverride h => answerClearOverride h.toNat s
  | .freezePlan h => answerFreezePlan h.toNat s
  | .thawPlan h => answerThawPlan h.toNat s
  | .setUpdateMode h m => answerSetUpdateMode h.toNat m.toNat s
  | .replan h => answerReplan h.toNat s
  | .setTopWatch h th m => answerSetTopWatch h.toNat th.toNat m.toNat s
  | .retireStem h => answerRetireStem h.toNat s
  | .fell sp => answerFell sp.toNat s
  | .feed => answerFeed s
  | .stop => answerStop s
  | .cut => answerCut s
  | .cutHere => answerCutHere s
  | .drop => answerDrop s
  | .release => answerRelease s
  | .cabMeasure m n => answerCabMeasure tag m.toNat n.toNat s
  | .readStatus => answerReadStatus s
  | .reinitialise scope => answerReinitialise scope.toNat s

/-- The code of a queue entry. -/
def QueueEntry.code : QueueEntry → Byte
  | .request c _ _ => c
  | .error c _ => c

/-- The tag of a queue entry. -/
def QueueEntry.tag : QueueEntry → Byte
  | .request _ t _ => t
  | .error _ t => t

/-- An entry taken into service is handled: the Head Bus Port's three checks, then the owner (R181). -/
def handleEntry (e : QueueEntry) (s : State) : State × Answer :=
  match e with
  | .error _ _ => (s, .only .segmentError)
  | .request code tag payload =>
    match decodeRequest code payload with
    | .unknownCode => (s, .only .unknownRequest)
    | .wrongLength => (s, .only .range)
    | .request r => handleRequest tag r s

/-! ### The queue (R180, R181) -/

/-- An entry is offered to the request queue (R180). -/
def State.offerRequest (s : State) (e : QueueEntry) : State :=
  if s.hbp.requests.length < 8 then { s with hbp.requests := s.hbp.requests ++ [e] }
  else
    let t := { s with hbp.requestsLost := saturate s.hbp.requestsLost }
    t.offerNotice (.requestsLost t.hbp.requestsLost e.code e.tag)

/-- An entry is handled and stays in service with its answer (R181). -/
def State.serveEntry (s : State) (e : QueueEntry) : State :=
  let p := handleEntry e s
  { p.1 with hbp.inService := some ⟨e.code, e.tag, p.2⟩ }

/-- When no request is in service, the first entry of the queue is taken into service (R181). -/
def State.serve (s : State) : State :=
  match s.hbp.inService, s.hbp.requests with
  | none, e :: rest => State.serveEntry { s with hbp.requests := rest } e
  | some _, _ => s
  | none, [] => s

/-! ### The transmitter (R182, R184) -/

/-- The message of an answer: its status and content (R182). -/
def InService.message (r : InService) : Transmission :=
  ⟨.answer, r.code, r.tag, u8 r.answer.status.code ++ r.answer.content, 0⟩

/-- The message of a notice, with tag 0 (R176). -/
def Notice.message (n : Notice) : Transmission := ⟨.notice, n.code, 0, n.payload, 0⟩

/-- The transmitter takes the answer in service. -/
def State.sendAnswer (s : State) (r : InService) : State :=
  { s with hbp.transmitter := some r.message, hbp.lastKind := .answer }

/-- The transmitter takes the first notice of the queue. -/
def State.sendNotice (s : State) (n : Notice) (rest : List Notice) : State :=
  { s with hbp.transmitter := some n.message, hbp.lastKind := .notice, hbp.notices := rest }

/-- A free transmitter chooses the next message: the one that waits, and of two the kind that was not sent last (R184).
DESIGN CHOICE, log 7: it chooses once all that the step raises stands in the queues. -/
def State.transmit (s : State) : State :=
  match s.hbp.transmitter with
  | some _ => s
  | none =>
    match s.hbp.inService, s.hbp.notices with
    | some r, n :: rest => if s.hbp.lastKind = .notice then s.sendAnswer r else s.sendNotice n rest
    | some r, [] => s.sendAnswer r
    | none, n :: rest => s.sendNotice n rest
    | none, [] => s

/-- An entry is offered, service goes on where it can, and a free transmitter chooses (R180, R181, R184). -/
def State.offer (s : State) (e : QueueEntry) : State := (s.offerRequest e).serve.transmit

/-- A complete request arrives (R179, R180). -/
def State.submit (s : State) (tag : Byte) (r : Request) : State := s.offer (.request r.code tag r.payload)

end Sys2Proof.Machine
end

