-- ==== Sys2Proof/Machine/HeadBus.lean ====
section
/-! DEFINITION. Frames of the head bus (file 10, sections 10.1, 10.2, 10.4): acceptance, joining a request, the gap timer,
sending a message frame by frame, and the frame on the bus. -/

namespace Sys2Proof.Machine

/-! ### Fields of a frame (R176, R177) -/

/-- The code field, bits 23..16. -/
def frameCode (f : Frame) : Byte := f.ident.extractLsb' 16 8

/-- The tag field, bits 7..0. -/
def frameTag (f : Frame) : Byte := f.ident.extractLsb' 0 8

/-- The conditions of R177 that do not look at the class. -/
def State.accepts (s : State) (f : Frame) : Bool :=
  f.extended && !f.remote && f.ident.extractLsb' 11 5 == 0 && f.ident.extractLsb' 8 3 == s.hbp.node

/-! ### Joining (R178, R179) -/

/-- The number of continuation frames of a payload length (R178). -/
def continuations (n : Nat) : Nat := if n < 8 then 0 else divUp (n - 7) 7

/-- What a class 0 frame's data says: malformed, a whole request with its payload, or the start of a longer one with its
length and first seven bytes (R178, R179). -/
inductive FirstData where
  | malformed
  | whole (payload : List Byte)
  | start (size : Nat) (bytes : List Byte)
  deriving DecidableEq, Repr

/-- The data of a class 0 frame (R179). -/
def firstData : List Byte → FirstData
  | [] => .malformed
  | l :: bytes =>
    if l.toNat < 8 then (if bytes.length = l.toNat then .whole bytes else .malformed)
    else if bytes.length = 7 then .start l.toNat bytes else .malformed

/-- A partial request is discarded, and an error entry stands in its place (R179). -/
def State.discardPartial (s : State) : State :=
  match s.hbp.partialRequest with
  | some p => State.offerRequest { s with hbp.partialRequest := none } (.error p.code p.tag)
  | none => s

/-- A received class 0 frame (R179). -/
def State.joinFirst (s : State) (f : Frame) : State :=
  let t := s.discardPartial
  match firstData f.data with
  | .malformed => t.offerRequest (.error (frameCode f) (frameTag f))
  | .whole payload => t.offerRequest (.request (frameCode f) (frameTag f) payload)
  | .start size bytes => { t with hbp.partialRequest := some ⟨frameCode f, frameTag f, size, bytes, 1, 0⟩ }

/-- Whether a class 3 frame is the one a partial request expects (R179). -/
def PartialRequest.expects (p : PartialRequest) (f : Frame) : Bool :=
  frameCode f == p.code && frameTag f == p.tag && decide (f.data.length = 8) &&
    decide (f.data.head?.map BitVec.toNat = some p.nextNumber)

/-- A partial request with the bytes of an expected continuation frame (R179). -/
def PartialRequest.extend (p : PartialRequest) (f : Frame) : PartialRequest :=
  { p with received := p.received ++ f.data.drop 1, nextNumber := p.nextNumber + 1, gap := 0 }

/-- A received class 3 frame (R179). -/
def State.joinContinuation (s : State) (f : Frame) : State :=
  match s.hbp.partialRequest with
  | none => s
  | some p =>
    if p.expects f then
      if p.nextNumber = continuations p.size then
        State.offerRequest { s with hbp.partialRequest := none }
          (.request p.code p.tag ((p.extend f).received.take p.size))
      else { s with hbp.partialRequest := some (p.extend f) }
    else s.discardPartial

/-- Service and the transmitter's choice after frames and line events (R181, R184). -/
def State.goOn (s : State) : State := s.serve.transmit

/-! ### Sending (R178, R184) -/

/-- A frame of the message has been sent: the next frame follows, and after the last the transmitter is free and an answered
request leaves service (R181, R184). -/
def State.completeFrame (s : State) : State :=
  match s.hbp.transmitter with
  | none => s
  | some t =>
    if t.index < continuations t.payload.length then
      { s with hbp.transmitter := some { t with index := t.index + 1 } }
    else
      match t.kind with
      | .answer => { s with hbp.transmitter := none, hbp.inService := none }
      | .notice => { s with hbp.transmitter := none }

/-- The identifier of a frame the SH20 sends (R176, R177). -/
def sentIdent (t : Transmission) (node : BitVec 3) : BitVec 29 :=
  let priority : BitVec 3 := match t.kind with
    | .answer => 3
    | .notice => 4
  let cls : BitVec 2 :=
    if 0 < t.index then 3
    else match t.kind with
      | .answer => 1
      | .notice => 2
  priority ++ cls ++ t.code ++ (0 : BitVec 5) ++ node ++ t.tag

/-- The data of frame number j of a message, 0 for the first (R178): the length and up to seven bytes, or the number and
seven bytes, padded with 0. -/
def frameData (payload : List Byte) (j : Nat) : List Byte :=
  if j = 0 then BitVec.ofNat 8 payload.length :: payload.take 7
  else
    BitVec.ofNat 8 j :: ((payload.drop (7 * j)).take 7 ++ List.replicate (7 - (payload.drop (7 * j)).length) 0)

/-- The frame now on the bus (R176 to R178). -/
def Transmission.busFrame (t : Transmission) (node : BitVec 3) : Frame where
  extended := true
  remote := false
  ident := sentIdent t node
  data := frameData t.payload t.index

/-- The frame on the bus, none while the transmitter is free. -/
def State.busFrame? (s : State) : Option Frame := s.hbp.transmitter.map fun t => t.busFrame s.hbp.node

end Sys2Proof.Machine
end

