-- ==== Sys2Proof/Machine/Pulses.lean ====
section
/-! DEFINITION. A pulse of an encoder and a quadrature fault (file 03, sections 3.2, 3.3, 3.5, 3.6): counts, length update
with its consumers, profile trigger and window accounting. -/

namespace Sys2Proof.Machine

/-! ### The lines of an encoder (R44) -/

/-- The lines of an encoder after a step along the cycle (low, low), (high, low), (high, high), (low, high), forward or
backward (R44). -/
def stepLines (d : Direction) (a b : LineFilter) : LineFilter × LineFilter :=
  let moveA : Bool := match d with
    | .forward => a.accepted == b.accepted
    | .reverse => a.accepted != b.accepted
  if moveA then (.settled (!a.accepted), b) else (a, .settled (!b.accepted))

/-- The accepted levels of an encoder's lines after a counted pulse (R44). -/
def State.stepEncoder (s : State) (e : Encoder) (d : Direction) : State :=
  match e with
  | .wheel =>
    let p := stepLines d s.lines.wheelA s.lines.wheelB
    { s with lines.wheelA := p.1, lines.wheelB := p.2 }
  | .roller =>
    let p := stepLines d s.lines.rollerA s.lines.rollerB
    { s with lines.rollerA := p.1, lines.rollerB := p.2 }

/-- The accepted levels of an encoder's lines after a sample that changes both (R44). -/
def State.flipEncoder (s : State) (e : Encoder) : State :=
  match e with
  | .wheel =>
    { s with
      lines.wheelA := .settled (!s.lines.wheelA.accepted)
      lines.wheelB := .settled (!s.lines.wheelB.accepted) }
  | .roller =>
    { s with
      lines.rollerA := .settled (!s.lines.rollerA.accepted)
      lines.rollerB := .settled (!s.lines.rollerB.accepted) }

/-! ### Counting (R44) -/

/-- A run or window count after a pulse, saturating (R44). -/
def countPulse (d : Direction) (n : Int) : Int :=
  clampInt (-8000000) 8000000 (match d with
    | .forward => n + 1
    | .reverse => n - 1)

/-- The counts after a pulse (R44). -/
def State.addPulse (s : State) (e : Encoder) (d : Direction) : State :=
  match e with
  | .wheel =>
    { s with
      lnu.wheelRun := countPulse d s.lnu.wheelRun
      lnu.window.wheelCount := countPulse d s.lnu.window.wheelCount }
  | .roller =>
    { s with
      lnu.rollerRun := countPulse d s.lnu.rollerRun
      lnu.window.rollerCount := countPulse d s.lnu.window.rollerCount }

/-- Whether an encoder is the active one (R46). -/
def State.isActive (s : State) (e : Encoder) : Bool :=
  match e with
  | .wheel => s.lnu.source.usesWheel
  | .roller => !s.lnu.source.usesWheel

/-! ### The length update (R49, R53) -/

/-- The trigger check at a forward update (R53). -/
def State.triggerCheck (s : State) : State :=
  if s.groupState = .processing ∧ s.lnu.trigger ≤ s.lnu.length then
    let t := s.raiseFeed ⟨s.lnu.length, s.lnu.source⟩
    { t with lnu.trigger := t.lnu.trigger + t.leadStep }
  else s

/-- A length update handed to its consumers: Stem Table, sequencer, and the trigger check of a forward one (R49). -/
def State.lengthUpdate (s : State) (forward : Bool) : State :=
  let t := (s.modifyActive (StemRecord.reached s.lnu.length)).sequencerUpdate forward
  if forward then t.triggerCheck else t

/-- The length value after a pulse of the active encoder, with the length update if it changed (R46, R48, R49). -/
def State.updateLength (s : State) : State :=
  let t := s.recompute
  if t.lnu.length = s.lnu.length then t else t.lengthUpdate (decide (s.lnu.length < t.lnu.length))

/-! ### Window accounting (R55) -/

/-- The window at a pulse: a reverse roller pulse abandons it, and a forward one that brings the roller delta to the
window size ends it (R55). -/
def State.accountWindow (s : State) (e : Encoder) (d : Direction) : State :=
  match e, d with
  | .wheel, _ => s
  | .roller, .reverse => s.newWindow
  | .roller, .forward => if (s.lnu.window.size : Int) ≤ s.rollerDelta then s.endWindow else s

/-- A counted pulse, taken whole: counts, length update, trigger check, window accounting (R44). -/
def State.pulse (s : State) (e : Encoder) (d : Direction) : State :=
  let t := s.addPulse e d
  (if t.isActive e then t.updateLength else t).accountWindow e d

end Sys2Proof.Machine
end

