-- ==== Sys2Proof/Machine/Requests.lean ====
section
/-! DEFINITION. The meanings of the request commands: each is the arrival of the complete request at the Head Bus Port, which
serves it at once when none is in service, and else lets it wait in the request queue (R180, R181; log 2). What the request
then does is its owner's `answer…` definition, through `handleRequest`. -/

namespace Sys2Proof.Machine

/-- The outcome of every command of the SH20: the part goes on. -/
abbrev Result := Host.Outcome State Fault Refusal

/-- SET_PARAMETER (R170). -/
def execSetParameter (tag number : Byte) (value : Half) (s : State) : Result := .next (s.submit tag (.setParameter number value))

/-- READ_PARAMETER (R171). -/
def execReadParameter (tag number : Byte) (s : State) : Result := .next (s.submit tag (.readParameter number))

/-- LOAD_ARM_POINT (R166). -/
def execLoadArmPoint (tag arm index : Byte) (raw contribution : Half) (s : State) : Result := .next (s.submit tag (.loadArmPoint arm index raw contribution))

/-- READ_ARM_TABLE (R168). -/
def execReadArmTable (tag arm : Byte) (s : State) : Result := .next (s.submit tag (.readArmTable arm))

/-- SET_SPECIES_TAPER (R95). -/
def execSetSpeciesTaper (tag species tmin tdefault tmax : Byte) (s : State) : Result := .next (s.submit tag (.setSpeciesTaper species tmin tdefault tmax))

/-- READ_SPECIES_TAPER (R96). -/
def execReadSpeciesTaper (tag species : Byte) (s : State) : Result := .next (s.submit tag (.readSpeciesTaper species))

/-- WRITE_ASSORTMENT (R84). -/
def execWriteAssortment (tag number : Byte) (image : EntryImage) (s : State) : Result := .next (s.submit tag (.writeAssortment number image))

/-- RETIRE_ASSORTMENT (R85). -/
def execRetireAssortment (tag number : Byte) (s : State) : Result := .next (s.submit tag (.retireAssortment number))

/-- READ_ASSORTMENT (R86). -/
def execReadAssortment (tag bank number : Byte) (s : State) : Result := .next (s.submit tag (.readAssortment bank number))

/-- SWAP_BANKS (R87). -/
def execSwapBanks (tag : Byte) (s : State) : Result := .next (s.submit tag .swapBanks)

/-- SET_LOCK_SIZE (R90). -/
def execSetLockSize (tag size : Byte) (s : State) : Result := .next (s.submit tag (.setLockSize size))

/-- LIST_STEMS (R24). -/
def execListStems (tag : Byte) (s : State) : Result := .next (s.submit tag .listStems)

/-- READ_STEM (R24). -/
def execReadStem (tag : Byte) (handle : Half) (s : State) : Result := .next (s.submit tag (.readStem handle))

/-- READ_PROFILE (R25). -/
def execReadProfile (tag : Byte) (handle : Half) (first count : Byte) (s : State) : Result := .next (s.submit tag (.readProfile handle first count))

/-- READ_PLAN (R26). -/
def execReadPlan (tag : Byte) (handle : Half) (which : Byte) (s : State) : Result := .next (s.submit tag (.readPlan handle which))

/-- READ_PIECES (R26). -/
def execReadPieces (tag : Byte) (handle : Half) (s : State) : Result := .next (s.submit tag (.readPieces handle))

/-- SET_SPECIES (R8). -/
def execSetSpecies (tag : Byte) (handle : Half) (species : Byte) (s : State) : Result := .next (s.submit tag (.setSpecies handle species))

/-- SET_OVERRIDE (R19). -/
def execSetOverride (tag : Byte) (handle : Half) (assortment : Byte) (length : Half) (s : State) : Result := .next (s.submit tag (.setOverride handle assortment length))

/-- CLEAR_OVERRIDE (R19). -/
def execClearOverride (tag : Byte) (handle : Half) (s : State) : Result := .next (s.submit tag (.clearOverride handle))

/-- FREEZE_PLAN (R20). -/
def execFreezePlan (tag : Byte) (handle : Half) (s : State) : Result := .next (s.submit tag (.freezePlan handle))

/-- THAW_PLAN (R20). -/
def execThawPlan (tag : Byte) (handle : Half) (s : State) : Result := .next (s.submit tag (.thawPlan handle))

/-- SET_UPDATE_MODE (R21). -/
def execSetUpdateMode (tag : Byte) (handle : Half) (mode : Byte) (s : State) : Result := .next (s.submit tag (.setUpdateMode handle mode))

/-- REPLAN (R135). -/
def execReplan (tag : Byte) (handle : Half) (s : State) : Result := .next (s.submit tag (.replan handle))

/-- SET_TOP_WATCH (R22). -/
def execSetTopWatch (tag : Byte) (handle : Half) (threshold : Half) (mode : Byte) (s : State) : Result := .next (s.submit tag (.setTopWatch handle threshold mode))

/-- RETIRE_STEM (R27). -/
def execRetireStem (tag : Byte) (handle : Half) (s : State) : Result := .next (s.submit tag (.retireStem handle))

/-- FELL (R142). -/
def execFell (tag species : Byte) (s : State) : Result := .next (s.submit tag (.fell species))

/-- FEED (R145). -/
def execFeed (tag : Byte) (s : State) : Result := .next (s.submit tag .feed)

/-- STOP (R157). -/
def execStop (tag : Byte) (s : State) : Result := .next (s.submit tag .stop)

/-- CUT (R153). -/
def execCut (tag : Byte) (s : State) : Result := .next (s.submit tag .cut)

/-- CUT_HERE (R155). -/
def execCutHere (tag : Byte) (s : State) : Result := .next (s.submit tag .cutHere)

/-- DROP (R159). -/
def execDrop (tag : Byte) (s : State) : Result := .next (s.submit tag .drop)

/-- RELEASE (R159). -/
def execRelease (tag : Byte) (s : State) : Result := .next (s.submit tag .release)

/-- CAB_MEASURE (R73). -/
def execCabMeasure (tag mask count : Byte) (s : State) : Result := .next (s.submit tag (.cabMeasure mask count))

/-- READ_STATUS (R185). -/
def execReadStatus (tag : Byte) (s : State) : Result := .next (s.submit tag .readStatus)

/-- REINITIALISE with scope STEMS (R174). -/
def execReinitialiseStems (tag : Byte) (s : State) : Result := .next (s.submit tag (.reinitialise 0))

/-- REINITIALISE with scope ALL (R174). -/
def execReinitialiseAll (tag : Byte) (s : State) : Result := .next (s.submit tag (.reinitialise 1))

end Sys2Proof.Machine
end

