-- ==== Sys2Proof/Machine/Events.lean ====
section
/-! DEFINITION. The meanings of the commands that are no requests: power-on, frames, the gap timer, line events, timer expiries
and completions. After each, a free transmitter chooses (R184). -/

namespace Sys2Proof.Machine

/-! ### Power-on and the head bus -/

/-- POWER_ON (R175). -/
def execPowerOn (node : BitVec 3) (pins : PinLevels) (s : State) : Result := .next (.powerOn node pins s.pending)

/-- FIRST_FRAME (R177, R179): a frame of class 0 that is received; any other frame is ignored. -/
def execFirstFrame (f : Frame) (s : State) : Result :=
  if s.accepts f && f.ident.extractLsb' 24 2 == 0 then .next (s.joinFirst f).goOn else .next s

/-- CONTINUATION_FRAME (R177, R179): a frame of class 3 that is received; any other frame is ignored. -/
def execContinuationFrame (f : Frame) (s : State) : Result :=
  if s.accepts f && f.ident.extractLsb' 24 2 == 3 then .next (s.joinContinuation f).goOn else .next s

/-- GAP_TIMER_EXPIRY (R179): without a partial request no gap timer runs and nothing happens (log 4). -/
def execGapTimerExpiry (s : State) : Result := .next s.discardPartial.goOn

/-- FRAME_SENT (R184): with no message being sent nothing happens (log 6). -/
def execFrameSent (s : State) : Result := .next s.completeFrame.goOn

/-- SEGMENT_ERROR_ANSWER (R181): an error entry is offered, and answered SEGMENT_ERROR when its turn comes. -/
def execSegmentErrorAnswer (code tag : Byte) (s : State) : Result := .next (s.offer (.error code tag))

/-- UNKNOWN_REQUEST (R181): a request with a code outside the catalogue is offered. -/
def execUnknownRequest (code tag : Byte) (payload : List Byte) (s : State) : Result :=
  .next (s.offer (.request code tag payload))

/-! ### Encoders and switches -/

/-- ENCODER_PULSE (R44): the accepted levels make one step, and the pulse is taken whole. -/
def execEncoderPulse (e : Encoder) (d : Direction) (s : State) : Result := .next ((s.stepEncoder e d).pulse e d).transmit

/-- QUADRATURE_FAULT (R44, R45): both accepted levels change, and the fault is counted. -/
def execQuadratureFault (e : Encoder) (s : State) : Result :=
  .next ((s.flipEncoder e).countQuadratureFault e).transmit

/-- WHEEL_CONTACT_CHANGE (R55, R59): a level that the line already has is no change (log 6). -/
def execWheelContactChange (level : Bool) (s : State) : Result :=
  if s.lines.wheelContact.accepted = level then .next s else .next (s.contactChanged level).transmit

/-- SAW_END_ASSERTED (R61, R143, R152); a deassertion changes the level alone (log 5). -/
def execSawEndAsserted (edge : Edge) (s : State) : Result :=
  match edge with
  | .asserted => .next (State.sawEndAsserts { s with lines.sawEnd := .settled true }).transmit
  | .deasserted => .next { s with lines.sawEnd := .settled false }

/-- SAW_HOME_ASSERTED (R156); a deassertion changes the level alone (log 5). -/
def execSawHomeAsserted (edge : Edge) (s : State) : Result :=
  match edge with
  | .asserted => .next (State.sawHomeAsserts { s with lines.sawHome := .settled true }).transmit
  | .deasserted => .next { s with lines.sawHome := .settled false }

/-- HALT_ASSERTED (R161); an asserted line does not assert again (log 6). -/
def execHaltAsserted (s : State) : Result :=
  if s.lines.halt.accepted then .next s
  else .next (State.haltAsserts { s with lines.halt := .settled true }).transmit

/-- HALT_RELEASED (R162); a released line is not released again (log 6). -/
def execHaltReleased (s : State) : Result :=
  if s.lines.halt.accepted then .next (State.haltReleases { s with lines.halt := .settled false }).transmit
  else .next s

/-! ### Timer expiries: a timer that is stopped does not expire (R141) -/

/-- SETTLE_TIMER_EXPIRY (R149). -/
def execSettleTimerExpiry (s : State) : Result :=
  if s.fcs.settleTimer.isSome then .next s.settleExpires.transmit else .next s

/-- SAW_TIMER_EXPIRY (R144, R154). -/
def execSawTimerExpiry (s : State) : Result :=
  if s.fcs.sawTimer.isSome then .next s.sawExpires.transmit else .next s

/-- HOME_TIMER_EXPIRY (R156). -/
def execHomeTimerExpiry (s : State) : Result :=
  if s.fcs.homeTimer.isSome then .next s.homeExpires.transmit else .next s

/-- STALL_TIMER_EXPIRY (R158). -/
def execStallTimerExpiry (s : State) : Result :=
  if s.fcs.stallTimer.isSome then .next s.stallExpires.transmit else .next s

/-! ### Completions -/

/-- SEQUENCE_COMPLETE (R67 to R69): with no sequence running nothing happens (log 6). -/
def execSequenceComplete (readings : Readings) (s : State) : Result :=
  match s.dsq.running with
  | some q => .next (s.finishSequence q readings).transmit
  | none => .next s

/-- PASS_COMPLETE (R127 to R134), with the report to the sequencer (R146): with no pass in flight nothing happens
(log 6). -/
def execPassComplete (s : State) : Result :=
  match s.bke.inFlight with
  | some p => .next (s.finishPass p).completionReport.transmit
  | none => .next s

end Sys2Proof.Machine
end

