-- ==== Sys2Proof/Machine/Idle.lean ====
section
/-! DEFINITION. What the part does by its own clock while no command waits: one millisecond (DESIGN CHOICE, log 3). Timers
count, the encoder and switch lines are sampled, and what that brings about takes place. -/

namespace Sys2Proof.Machine

/-! ### Timers (R141, R179) -/

/-- Every running timer counts one millisecond. -/
def State.countTimers (s : State) : State :=
  { s with
    fcs.settleTimer := s.fcs.settleTimer.map (· + 1)
    fcs.sawTimer := s.fcs.sawTimer.map (· + 1)
    fcs.homeTimer := s.fcs.homeTimer.map (· + 1)
    fcs.stallTimer := s.fcs.stallTimer.map (· + 1)
    hbp.partialRequest := s.hbp.partialRequest.map fun p => { p with gap := p.gap + 1 } }

/-- The sequencer's timer whose period is over expires (R141); at most one timer of the sequencer runs. -/
def State.expireTimer (s : State) : State :=
  if timerDue s.fcs.settleTimer s.params.settleTime then s.settleExpires
  else if timerDue s.fcs.sawTimer s.params.sawTimeout then s.sawExpires
  else if timerDue s.fcs.homeTimer s.params.homeTimeout then s.homeExpires
  else if timerDue s.fcs.stallTimer s.params.stallTime then s.stallExpires
  else s

/-- The gap timer expires 100 ms after the latest frame (R179). -/
def State.expireGap (s : State) : State :=
  match s.hbp.partialRequest with
  | some p => if 100 ≤ p.gap then s.discardPartial else s
  | none => s

/-! ### Lines (R42 to R44) -/

/-- The step from one quadrature position to another: a pulse, a fault (none), or no change. -/
inductive QuadratureStep where
  | same
  | pulse (d : Direction)
  | fault
  deriving DecidableEq, Repr

/-- The step between two positions (A, B) of the cycle (R44). -/
def quadratureStep (a b a' b' : Bool) : QuadratureStep :=
  match a != a', b != b' with
  | false, false => .same
  | true, true => .fault
  | true, false => .pulse (if a = b then .forward else .reverse)
  | false, true => .pulse (if a = b then .reverse else .forward)

/-- A pulse or a fault that a sample shows (R44). -/
def State.takeStep (s : State) (e : Encoder) (q : QuadratureStep) : State :=
  match q with
  | .same => s
  | .pulse d => s.pulse e d
  | .fault => s.countQuadratureFault e

/-- One sample of the four encoder lines; the wheel's step is taken before the roller's (R42, R44). -/
def State.sampleEncoders (s : State) : State :=
  let n := s.params.encFilter
  let l := s.lines
  let t := { s with
    lines.wheelA := l.wheelA.sample n, lines.wheelB := l.wheelB.sample n
    lines.rollerA := l.rollerA.sample n, lines.rollerB := l.rollerB.sample n }
  let wheel := quadratureStep l.wheelA.accepted l.wheelB.accepted t.lines.wheelA.accepted t.lines.wheelB.accepted
  let roller := quadratureStep l.rollerA.accepted l.rollerB.accepted t.lines.rollerA.accepted t.lines.rollerB.accepted
  (t.takeStep .wheel wheel).takeStep .roller roller

/-- Several samples of the encoder lines. -/
def State.sampleEncodersTimes : Nat → State → State
  | 0, s => s
  | k + 1, s => State.sampleEncodersTimes k s.sampleEncoders

/-- One sample of the four switch lines, and what each accepted change does (R43). -/
def State.sampleSwitches (s : State) : State :=
  let n := s.params.switchFilter
  let l := s.lines
  let s := { s with
    lines.wheelContact := l.wheelContact.sample n, lines.sawHome := l.sawHome.sample n
    lines.sawEnd := l.sawEnd.sample n, lines.halt := l.halt.sample n }
  let m := s.lines
  let s := if l.wheelContact.accepted = m.wheelContact.accepted then s else s.contactChanged m.wheelContact.accepted
  let s := if !l.sawHome.accepted && m.sawHome.accepted then s.sawHomeAsserts else s
  let s := if !l.sawEnd.accepted && m.sawEnd.accepted then s.sawEndAsserts else s
  if l.halt.accepted = m.halt.accepted then s
  else if m.halt.accepted then s.haltAsserts
  else s.haltReleases

/-- One millisecond without a command (log 3). The pins keep their levels, so eight samples of the encoder lines settle
every filter (R42) and stand for all that the millisecond holds. -/
def State.idle (s : State) : State :=
  (State.sampleEncodersTimes 8 s.countTimers.expireTimer.expireGap).sampleSwitches.goOn

end Sys2Proof.Machine
end

