-- ==== Sys2Proof/Machine/Dispatch.lean ====
section
/-! DEFINITION. The meaning of every command, one direct call per constructor of `Instr`. -/

namespace Sys2Proof.Machine

open Sys2Proof

/-- The effect of a command on everything but the queue of waiting commands. -/
def exec (i : Instr) (s : State) : Host.Outcome State Fault Refusal :=
  match i with
  | .powerOn node pins => Sys2Proof.Machine.execPowerOn node pins s
  | .firstFrame frame => Sys2Proof.Machine.execFirstFrame frame s
  | .continuationFrame frame => Sys2Proof.Machine.execContinuationFrame frame s
  | .gapTimerExpiry => Sys2Proof.Machine.execGapTimerExpiry s
  | .frameSent => Sys2Proof.Machine.execFrameSent s
  | .segmentErrorAnswer code tag => Sys2Proof.Machine.execSegmentErrorAnswer code tag s
  | .unknownRequest code tag payload => Sys2Proof.Machine.execUnknownRequest code tag payload s
  | .setParameter tag number value => Sys2Proof.Machine.execSetParameter tag number value s
  | .readParameter tag number => Sys2Proof.Machine.execReadParameter tag number s
  | .loadArmPoint tag arm index raw contribution => Sys2Proof.Machine.execLoadArmPoint tag arm index raw contribution s
  | .readArmTable tag arm => Sys2Proof.Machine.execReadArmTable tag arm s
  | .setSpeciesTaper tag species tmin tdefault tmax => Sys2Proof.Machine.execSetSpeciesTaper tag species tmin tdefault tmax s
  | .readSpeciesTaper tag species => Sys2Proof.Machine.execReadSpeciesTaper tag species s
  | .writeAssortment tag number image => Sys2Proof.Machine.execWriteAssortment tag number image s
  | .retireAssortment tag number => Sys2Proof.Machine.execRetireAssortment tag number s
  | .readAssortment tag bank number => Sys2Proof.Machine.execReadAssortment tag bank number s
  | .swapBanks tag => Sys2Proof.Machine.execSwapBanks tag s
  | .setLockSize tag size => Sys2Proof.Machine.execSetLockSize tag size s
  | .listStems tag => Sys2Proof.Machine.execListStems tag s
  | .readStem tag handle => Sys2Proof.Machine.execReadStem tag handle s
  | .readProfile tag handle first count => Sys2Proof.Machine.execReadProfile tag handle first count s
  | .readPlan tag handle which => Sys2Proof.Machine.execReadPlan tag handle which s
  | .readPieces tag handle => Sys2Proof.Machine.execReadPieces tag handle s
  | .setSpecies tag handle species => Sys2Proof.Machine.execSetSpecies tag handle species s
  | .setOverride tag handle assortment length => Sys2Proof.Machine.execSetOverride tag handle assortment length s
  | .clearOverride tag handle => Sys2Proof.Machine.execClearOverride tag handle s
  | .freezePlan tag handle => Sys2Proof.Machine.execFreezePlan tag handle s
  | .thawPlan tag handle => Sys2Proof.Machine.execThawPlan tag handle s
  | .setUpdateMode tag handle mode => Sys2Proof.Machine.execSetUpdateMode tag handle mode s
  | .replan tag handle => Sys2Proof.Machine.execReplan tag handle s
  | .setTopWatch tag handle threshold mode => Sys2Proof.Machine.execSetTopWatch tag handle threshold mode s
  | .retireStem tag handle => Sys2Proof.Machine.execRetireStem tag handle s
  | .fell tag species => Sys2Proof.Machine.execFell tag species s
  | .feed tag => Sys2Proof.Machine.execFeed tag s
  | .stop tag => Sys2Proof.Machine.execStop tag s
  | .cut tag => Sys2Proof.Machine.execCut tag s
  | .cutHere tag => Sys2Proof.Machine.execCutHere tag s
  | .drop tag => Sys2Proof.Machine.execDrop tag s
  | .release tag => Sys2Proof.Machine.execRelease tag s
  | .cabMeasure tag mask count => Sys2Proof.Machine.execCabMeasure tag mask count s
  | .readStatus tag => Sys2Proof.Machine.execReadStatus tag s
  | .reinitialiseStems tag => Sys2Proof.Machine.execReinitialiseStems tag s
  | .reinitialiseAll tag => Sys2Proof.Machine.execReinitialiseAll tag s
  | .encoderPulse encoder direction => Sys2Proof.Machine.execEncoderPulse encoder direction s
  | .quadratureFault encoder => Sys2Proof.Machine.execQuadratureFault encoder s
  | .wheelContactChange asserted => Sys2Proof.Machine.execWheelContactChange asserted s
  | .sawEndAsserted edge => Sys2Proof.Machine.execSawEndAsserted edge s
  | .sawHomeAsserted edge => Sys2Proof.Machine.execSawHomeAsserted edge s
  | .haltAsserted => Sys2Proof.Machine.execHaltAsserted s
  | .haltReleased => Sys2Proof.Machine.execHaltReleased s
  | .settleTimerExpiry => Sys2Proof.Machine.execSettleTimerExpiry s
  | .sawTimerExpiry => Sys2Proof.Machine.execSawTimerExpiry s
  | .homeTimerExpiry => Sys2Proof.Machine.execHomeTimerExpiry s
  | .stallTimerExpiry => Sys2Proof.Machine.execStallTimerExpiry s
  | .sequenceComplete readings => Sys2Proof.Machine.execSequenceComplete readings s
  | .passComplete => Sys2Proof.Machine.execPassComplete s

end Sys2Proof.Machine
end

