-- ==== Sys2Proof/Safety.lean ====
section
/-! DEFINITION. What counts as safe at the head, in the terms claims use: the law of the demand lines (R139), the invariants
the spec's laws state, runs of the machine, and the words in which a claim says what a command leaves behind. -/

namespace Sys2Proof.Machine

open Sys2Proof

/-! ### Runs -/

/-- A state that some number of steps reaches from another. -/
inductive Reaches : State → State → Prop where
  | refl (s : State) : Reaches s s
  | next {s t u : State} : Reaches s t → step t = .next u → Reaches s u

/-- Commands one after another, stopping at a fault or a refusal. -/
def execAll : List Instr → State → Host.Outcome State Fault Refusal
  | [], s => .next s
  | c :: rest, s =>
    match exec c s with
    | .next t => execAll rest t
    | .fault f => .fault f
    | .refused r => .refused r

/-- A property that every step keeps. -/
def Kept (inv : State → Prop) : Prop := ∀ s t : State, inv s → step s = .next t → inv t

/-! ### Answers and the bus -/

/-- No request is in service and none waits, so that the next one is served at once (R181). -/
def State.busIdle (s : State) : Prop := s.hbp.inService = none ∧ s.hbp.requests = []

/-- The state that an answered request leaves: its answer in service, and the transmitter's choice made (R181, R184). -/
def State.answered (s : State) (code tag : Byte) (a : Answer) : State :=
  State.transmit { s with hbp.inService := some ⟨code, tag, a⟩ }

/-- Nothing waits for service, and nothing for the transmitter that it could take. -/
def State.busSettled (s : State) : Prop :=
  (s.hbp.inService = none → s.hbp.requests = []) ∧
    (s.hbp.transmitter = none → s.hbp.inService = none ∧ s.hbp.notices = [])

/-- A line that stands at its accepted level, so that a sample changes nothing (R42). -/
def LineFilter.quiet (f : LineFilter) : Prop := f = ⟨f.accepted, f.accepted, 0⟩

/-- The four encoder lines stand at their accepted levels (R42). -/
def State.encodersQuiet (s : State) : Prop :=
  s.lines.wheelA.quiet ∧ s.lines.wheelB.quiet ∧ s.lines.rollerA.quiet ∧ s.lines.rollerB.quiet

/-- The four switch lines stand at their accepted levels (R43). -/
def State.switchesQuiet (s : State) : Prop :=
  s.lines.wheelContact.quiet ∧ s.lines.sawHome.quiet ∧ s.lines.sawEnd.quiet ∧ s.lines.halt.quiet

/-- Whether the next sample of a line makes n successive ones that show the other level (R42). -/
def LineFilter.ripe (n : Nat) (f : LineFilter) : Prop := f.pin ≠ f.accepted ∧ n ≤ f.run + 1

/-- A line after a sample that does not change its accepted level: the run of the other level grows or is broken (R42). -/
def LineFilter.heard (f : LineFilter) : LineFilter := { f with run := if f.pin = f.accepted then 0 else f.run + 1 }

/-- No timer of the sequencer has reached its period (R141). -/
def State.nothingDue (s : State) : Prop :=
  timerDue s.fcs.settleTimer s.params.settleTime = false ∧ timerDue s.fcs.sawTimer s.params.sawTimeout = false ∧
    timerDue s.fcs.homeTimer s.params.homeTimeout = false ∧ timerDue s.fcs.stallTimer s.params.stallTime = false

/-- Notices raised one after another, each appended to the notice queue or lost there and counted (R183). -/
def State.told (s : State) (notices : List Notice) : State := notices.foldl State.offerNotice s

/-- The entry that a command offers to the request queue (R180), none for the commands that are no request. -/
def queueEntry? (c : Instr) : Option QueueEntry :=
  match c with
  | .segmentErrorAnswer code tag => some (.error code tag)
  | .unknownRequest code tag payload => some (.request code tag payload)
  | c => c.request?.map fun p => .request p.2.code p.1 p.2.payload

/-- Frame j of a request that the cab computer sends with a priority (R176, R178). -/
def requestFrame (priority : BitVec 3) (node : BitVec 3) (code tag : Byte) (payload : List Byte) (j : Nat) : Frame where
  extended := true
  remote := false
  ident := priority ++ (if j = 0 then (0 : BitVec 2) else 3) ++ code ++ (0 : BitVec 5) ++ node ++ tag
  data := frameData payload j

/-- A class 3 frame that the cab computer sends: a sequence number and seven bytes (R178). -/
def continuation (priority node : BitVec 3) (code tag number : Byte) (bytes : List Byte) : Frame where
  extended := true
  remote := false
  ident := priority ++ (3 : BitVec 2) ++ code ++ (0 : BitVec 5) ++ node ++ tag
  data := number :: bytes

/-- The commands that the frames of a request are: one FIRST_FRAME and the CONTINUATION_FRAMEs 1..n (R178). -/
def requestFrames (priority : BitVec 3) (node : BitVec 3) (code tag : Byte) (payload : List Byte) : List Instr :=
  .firstFrame (requestFrame priority node code tag payload 0) ::
    (List.range (continuations payload.length)).map fun k =>
      .continuationFrame (requestFrame priority node code tag payload (k + 1))

/-! ### Requests on stem records -/

/-- The handle of a request on a stem record, and the records that it is accepted on by the tables of R7 and R135; a read is
accepted on every record (section 1.10). -/
def onRecord? : Request → Option (Half × (StemRecord → Bool))
  | .setSpecies h _ => some (h, StemRecord.inGroup)
  | .setOverride h _ _ => some (h, StemRecord.leads)
  | .clearOverride h => some (h, StemRecord.leads)
  | .freezePlan h => some (h, StemRecord.leads)
  | .thawPlan h => some (h, StemRecord.leads)
  | .setUpdateMode h _ => some (h, StemRecord.inGroup)
  | .replan h => some (h, StemRecord.leads)
  | .setTopWatch h _ _ => some (h, StemRecord.inGroup)
  | .retireStem h => some (h, StemRecord.finished)
  | .readStem h => some (h, fun _ => true)
  | .readProfile h _ _ => some (h, fun _ => true)
  | .readPlan h _ => some (h, fun _ => true)
  | .readPieces h => some (h, fun _ => true)
  | _ => none

/-! ### The sequencer's items in its states (R138, R141) -/

/-- In a state with no timer and no pause reason and no cut kind; what belongs to the piece stays. -/
def Sequencer.resting (f : Sequencer) (st : SeqState) : Sequencer :=
  { f with
    state := st, pause := none, cutKind := none, settleTimer := none, sawTimer := none, homeTimer := none,
    stallTimer := none }

/-- In PAUSED with a reason. -/
def Sequencer.pausedBy (f : Sequencer) (why : PauseReason) : Sequencer := { f.resting .paused with pause := some why }

/-- In FEEDING, CREEPING or REVERSING, entered at a length. -/
def Sequencer.feedingFrom (f : Sequencer) (st : SeqState) (length : Int) : Sequencer :=
  { f.resting st with stallTimer := some 0, stallReference := length }

/-- In SETTLING, just entered. -/
def Sequencer.settles (f : Sequencer) : Sequencer := { f.resting .settling with settleTimer := some 0 }

/-- In CUTTING, just entered for a cut of a kind (R152). -/
def Sequencer.cuts (f : Sequencer) (kind : CutKind) : Sequencer :=
  { f.resting .cutting with cutKind := some kind, stopped := false, sawTimer := some 0 }

/-- In SAW_RETURN, just entered: the cut kind stays (R152). -/
def Sequencer.returns (f : Sequencer) : Sequencer :=
  { f.resting .sawReturn with cutKind := f.cutKind, homeTimer := some 0 }

/-- A record as it stands closed or abandoned (R4). -/
def StemRecord.ended (r : StemRecord) (st : StemState) (why : EndReason) : StemRecord :=
  { r with state := st, endReason := some why, plan := [], planValue := 0, pendingPlan := none, role := none }

/-- No pending plan awaits the lead's next stop state (R133). -/
def State.noPending (s : State) : Prop := ∀ k r, s.lead? = some (k, r) → r.pendingPlan = none

/-! ### Measurements (R65, R67, R68, R74) -/

/-- The average raw reading of a channel: the sum of the first n readings, over n, rounded half up (R67). -/
def averageReading (r : Readings) (n : Nat) (c : Channel) : Nat :=
  (2 * (((channelReadings r c).toList.take n).map BitVec.toNat).sum + n) / (2 * n)

/-- The contribution of a channel by its table (R65). -/
def State.contribution (s : State) (n : Nat) (r : Readings) (c : Channel) : Nat :=
  armContribution (s.dsq.table c) (averageReading r n c)

/-- Whether a sequence with both pairs shows them more than disagree_tol apart (R68). -/
def State.disagrees (s : State) (mask : Mask) (n : Nat) (r : Readings) : Bool :=
  decide (mask = .both ∧ (s.params.disagreeTol * 10 : Int) <
    |((s.contribution n r .ukl + s.contribution n r .ukr : Nat) : Int) -
      (s.contribution n r .frl + s.contribution n r .frr : Nat)|)

/-- The channels a result comes from: the knives alone where the pairs disagree (R68). -/
def State.counted (s : State) (mask : Mask) (n : Nat) (r : Readings) : List Channel :=
  if s.disagrees mask n r then [.ukl, .ukr] else mask.channels

/-- The result of a sequence in millimetres (R68): the pair diameter, or the mean of two pairs half up, in tenths, rounded half
up and held to 0..999. -/
def State.measured (s : State) (mask : Mask) (n : Nat) (r : Readings) : Nat :=
  let sum := ((s.counted mask n r).map (s.contribution n r)).sum
  min 999 (((if (s.counted mask n r).length = 4 then (sum + 1) / 2 else sum) + 5) / 10)

/-- Whether a counted channel reads above the last point of its table (R65, R68). -/
def State.overArm (s : State) (mask : Mask) (n : Nat) (r : Readings) : Bool :=
  (s.counted mask n r).any fun c => aboveLast (s.dsq.table c) (averageReading r n c)

/-- A sequence just started (R63, R66). -/
def RunningSequence.fresh (target : SequenceTarget) (mask : Mask) (n settle : Nat) : RunningSequence :=
  ⟨target, mask, n, settle, if mask = .rollers then .frl else .ukl, [], []⟩

/-- The Diameter Sequencer once a sequence is over: the next requester's starts, FEED before TRIM before CAB (R74). -/
def DiameterSequencer.freed (d : DiameterSequencer) (p : Parameters) : DiameterSequencer :=
  match d.feedPending, d.trimPending, d.cabPending with
  | some f, _, _ =>
    { d with feedPending := none, running := some (.fresh (.feed f) p.feedMask p.feedAvg p.sensorSettle) }
  | none, some t, _ =>
    { d with trimPending := none, running := some (.fresh (.trim t) p.trimMask p.trimAvg p.sensorSettle) }
  | none, none, some c =>
    { d with cabPending := none, running := some (.fresh (.cab c) c.mask c.averaging p.sensorSettle) }
  | none, none, none => { d with running := none }

/-- The Diameter Sequencer once a FEED request is raised: merged for a busy requester, else pending behind a running sequence,
or started (R71, R74). -/
def DiameterSequencer.fed (d : DiameterSequencer) (p : Parameters) (f : FeedRequest) : DiameterSequencer :=
  if d.feedPending ≠ none ∨ d.stateNumber = 1 then d
  else if d.running.isSome then { d with feedPending := some f }
  else { d with running := some (.fresh (.feed f) p.feedMask p.feedAvg p.sensorSettle) }

/-- The notice that a top watch gives for a sample after an earlier one (R23). -/
def StemRecord.watchNotices (r : StemRecord) (previous : Option Sample) (p : Sample) : List Notice :=
  let th := r.topWatch.threshold
  let notice (dir : WatchDirection) : List Notice :=
    [.topWatch r.handle p.position p.diameter th r.topWatch.mode dir]
  match r.topWatch.mode, previous with
  | .fall, _ => if r.topWatch.armed = true ∧ p.diameter < th then notice .falling else []
  | .every, some old =>
    if p.diameter < th ∧ th ≤ old.diameter then notice .falling
    else if th ≤ p.diameter ∧ old.diameter < th then notice .rising
    else []
  | .every, none => []

/-! ### Length (R44, R46, R48, R55, R60) -/

/-- The accepted levels (A, B) of an encoder after a pulse, by the cycle of R44. -/
def turned : Direction → Bool × Bool → Bool × Bool
  | .forward, (false, false) => (true, false)
  | .forward, (true, false) => (true, true)
  | .forward, (true, true) => (false, true)
  | .forward, (false, true) => (false, false)
  | .reverse, (true, false) => (false, false)
  | .reverse, (true, true) => (true, false)
  | .reverse, (false, true) => (true, true)
  | .reverse, (false, false) => (false, true)

/-- A line at a level: as it stands, or newly accepted there. -/
def LineFilter.atLevel (f : LineFilter) (level : Bool) : LineFilter :=
  if f.accepted = level then f else ⟨level, level, 0⟩

/-- The lines after a pulse of an encoder (R44). -/
def InputLines.turn (l : InputLines) (e : Encoder) (d : Direction) : InputLines :=
  match e with
  | .wheel =>
    let p := turned d (l.wheelA.accepted, l.wheelB.accepted)
    { l with wheelA := l.wheelA.atLevel p.1, wheelB := l.wheelB.atLevel p.2 }
  | .roller =>
    let p := turned d (l.rollerA.accepted, l.rollerB.accepted)
    { l with rollerA := l.rollerA.atLevel p.1, rollerB := l.rollerB.atLevel p.2 }

/-- A count one up or down, held to 8000000 either way (R44). -/
def tally (d : Direction) (n : Int) : Int :=
  max (-8000000) (min 8000000 (if d = .forward then n + 1 else n - 1))

/-- The run count and the window count of an encoder after a pulse (R44). -/
def LengthUnit.counted (l : LengthUnit) (e : Encoder) (d : Direction) : LengthUnit :=
  match e with
  | .wheel => { l with wheelRun := tally d l.wheelRun, window.wheelCount := tally d l.window.wheelCount }
  | .roller => { l with rollerRun := tally d l.rollerRun, window.rollerCount := tally d l.window.rollerCount }

/-- The wheel gives the length: WHEEL or DISPUTED (R46). -/
def LengthUnit.onWheel (l : LengthUnit) : Bool := l.source == .wheel || l.source == .disputed

/-- The length as the active encoder's run gives it, held to -2000..60000, with LENGTH_LIMIT and the window's bounds (R46,
R48, R55). -/
def LengthUnit.converted (l : LengthUnit) (p : Parameters) : LengthUnit :=
  let u := l.base + if l.onWheel then (l.wheelRun * 10000).tdiv p.wheelConstant
    else (l.rollerRun * 10000).tdiv p.rollerConstant
  let len := max (-2000) (min 60000 u)
  { l with
    length := len
    limit := decide (u ≠ len)
    window.least := min l.window.least len
    window.greatest := max l.window.greatest len }

/-- A new window at the length as it stands (R55). -/
def LengthUnit.reopened (l : LengthUnit) (p : Parameters) : LengthUnit :=
  { l with window := ⟨l.length, l.length, l.length, 0, 0, p.slipWindow⟩, wheelFaults := 0, rollerFaults := 0 }

/-- A source state and its n (R47, R58, R60, R61): a change rebases where the encoder changes, and marks ROLLER_LEN on the
roller. -/
def LengthUnit.resourced (l : LengthUnit) (new : SourceState) (n : Nat) : LengthUnit :=
  let wheel : Bool := new == .wheel || new == .disputed
  if l.source = new then { l with n := n }
  else
    { l with
      source := new
      n := n
      rollerLen := l.rollerLen || !wheel
      base := if l.onWheel = wheel then l.base else l.length
      limit := if l.onWheel = wheel then l.limit else false
      wheelRun := if wheel && !l.onWheel then 0 else l.wheelRun
      rollerRun := if !wheel && l.onWheel then 0 else l.rollerRun }

/-- A record's length source summary as the source state moves (R13). -/
def StemRecord.hears (old new : SourceState) (r : StemRecord) : StemRecord :=
  if old = new then r
  else if (new = .roller ∨ new = .rejoin) ∧ r.lengthSummary = .wheelOnly then { r with lengthSummary := .mixed }
  else if (new = .wheel ∨ new = .disputed) ∧ r.lengthSummary = .rollerOnly then { r with lengthSummary := .mixed }
  else r

/-- A forward update of the length to a value raises a FEED request (R53). -/
abbrev State.Fires (s : State) (length : Int) : Prop :=
  s.groupState = .processing ∧ s.lnu.length < length ∧ s.lnu.trigger ≤ length

/-- A record once the length has come to a value, with its sample lost where a FEED request was merged (R12, R13, R71). -/
def StemRecord.travelled (length : Int) (lost : Bool) (r : StemRecord) : StemRecord :=
  { r with
    furthest := max r.furthest length
    missedSamples := if lost then min 255 (r.missedSamples + 1) else r.missedSamples }

/-! ### Passes -/

/-- What a pass request that reaches the Bucking Engine does: the flag while a pass is in flight, else a new pass under the
counter's number (R124, R125). -/
def BuckingEngine.Asked (b b' : BuckingEngine) : Prop :=
  if b.inFlight.isSome then b' = { b with flag := true }
  else
    ∃ p : Pass, p.number = b.counter ∧ p.void = false ∧
      b' = { b with inFlight := some p, counter := (b.counter + 1) % 256, flag := false }

/-- What a request for a pass does to the Bucking Engine at a state (R123, R124): it reaches it exactly when the group is
PROCESSING with a lead that is not frozen. -/
def State.Asks (s : State) (b : BuckingEngine) : Prop :=
  if s.plannable?.isSome then BuckingEngine.Asked s.bke b else b = s.bke

/-- What the end of a pass with an outcome leaves in the Bucking Engine: the outcome, and either the next pass, where the flag or
the outcome asks for it and the lead can be planned for, or none (R122, R128, R129, R134). -/
def State.PassEnds (s : State) (number : Nat) (o : PassOutcome) (b : BuckingEngine) : Prop :=
  b.lastOutcome = o ∧ b.lastOutcomePass = number ∧ b.flag = false ∧
  if (s.bke.flag = true ∨ o = .stale ∨ o = .late) ∧ s.plannable?.isSome then
    b.counter = (s.bke.counter + 1) % 256 ∧ ∃ q, b.inFlight = some q ∧ q.number = s.bke.counter ∧ q.void = false
  else b.counter = s.bke.counter ∧ b.inFlight = none

/-- The lead's COMMITTED first piece, as a list (R131). -/
def StemRecord.held (r : StemRecord) : List PlanPiece :=
  match r.plan with
  | x :: _ => if x.status = .committed then [x] else []
  | [] => []

/-- The position a pass for the lead plans from (R101). -/
def StemRecord.plansFrom (r : StemRecord) : Int :=
  (r.held.head?.map (·.cutPosition)).getD ((r.pieces.getLast?.map (·.cutPosition)).getD 0)

/-- A result's first piece can no longer be reached, with nothing COMMITTED before it (R129). -/
def State.TooLate (s : State) (r : StemRecord) (res : PassResult) : Prop :=
  r.held = [] ∧ ∃ x rest, res.pieces = x :: rest ∧ x.cutPosition < s.lnu.length + s.params.slowDistance

/-- The lead's record with a result as its plan (R131, R133). -/
def StemRecord.takes (r : StemRecord) (res : PassResult) : StemRecord :=
  { r with
    plan := r.held ++ res.pieces
    planValue := ((r.held ++ res.pieces).map (·.value)).sum
    pendingPlan := none
    lastPass := res.passNumber }

/-- The notice of an install (R136). -/
def StemRecord.tells (r : StemRecord) (occasion : InstallOccasion) (res : PassResult) : Notice :=
  .planInstalled r.handle occasion res.passNumber (r.held ++ res.pieces).length
    ((r.held ++ res.pieces).map (·.value)).sum res.usableEnd res.taper res.flags

/-- What the check of the lead's pending plan at an entry into a stop state leaves (R133): the plan installed, with its notice,
or discarded, with a request for a pass. -/
def State.PendingChecked (s : State) (k : Nat) (r : StemRecord) (res : PassResult) (u : State) : Prop :=
  (res.origin = r.plansFrom → ¬s.TooLate r res →
    u = State.told
      { s.setSlot k (some (r.takes res)) with
        bke := { s.bke with lastOutcome := .installed, lastOutcomePass := res.passNumber } }
      [r.tells .fromPending res]) ∧
  (res.origin ≠ r.plansFrom ∨ s.TooLate r res → ∃ b, s.Asks b ∧
    u = { s.setSlot k (some { r with pendingPlan := none }) with bke := b })

/-- A chain of candidates from a grid index, each starting where the one before ends (R113). -/
def IsChain (candidates : List (List Candidate)) : Nat → List Candidate → Prop
  | _, [] => True
  | k, c :: rest => c ∈ candidates.getD k [] ∧ IsChain candidates c.next rest

/-- The summed value of a chain (R113). -/
def chainValue (chain : List Candidate) : Nat := (chain.map fun c => c.value).sum

/-! ### Invariants -/

/-- A feed demand is on (R139). -/
def DemandLines.feed (d : DemandLines) : Bool := d.feedFwd || d.feedRev || d.feedFast

/-- The law of R139: no feed or saw demand while filtered HALT_N is asserted, the saw and the feed never together, and never
forward and reverse together. -/
def State.demandsSafe (s : State) : Bool :=
  !(s.lines.halt.accepted && (s.demand.feed || s.demand.sawRun)) && !(s.demand.feed && s.demand.sawRun) &&
    !(s.demand.feedFwd && s.demand.feedRev)

/-- The sequencer's law: HALTED exactly while filtered HALT_N is asserted (R139, R161), each timer, the pause reason and the
cut kind only where R138 and R141 have them, at most two reversals, and safe demands. -/
def State.SequencerLaw (s : State) : Prop :=
  (s.fcs.state = .halted ↔ s.lines.halt.accepted = true) ∧
  (s.fcs.pause.isSome ↔ s.fcs.state = .paused) ∧
  (s.fcs.cutKind.isSome ↔ s.fcs.state = .cutting ∨ s.fcs.state = .sawReturn) ∧
  (s.fcs.settleTimer.isSome → s.fcs.state = .settling) ∧
  (s.fcs.sawTimer.isSome → s.fcs.state = .felling ∨ s.fcs.state = .cutting) ∧
  (s.fcs.homeTimer.isSome → s.fcs.state = .sawReturn) ∧
  (s.fcs.stallTimer.isSome → s.fcs.state = .feeding ∨ s.fcs.state = .creeping ∨ s.fcs.state = .reversing) ∧
  s.fcs.reversals ≤ 2 ∧
  s.demandsSafe = true

/-- The law of one record: a role exactly in PROCESSING, an end reason exactly once finished, a plan or a pending plan only on
a lead, the plan value its sum, and no piece and no freeze before PROCESSING (R3, R6, R14, R20). -/
def StemRecord.Law (r : StemRecord) : Prop :=
  (r.role.isSome ↔ r.state = .processing) ∧
  (r.endReason.isSome ↔ r.state = .closed ∨ r.state = .abandoned) ∧
  (r.role ≠ some .lead → r.plan = [] ∧ r.pendingPlan = none) ∧
  r.planValue = (r.plan.map fun p => p.value).sum ∧
  (r.state = .felling ∨ r.state = .held → r.frozen = false ∧ r.pieces = [])

/-- Every record of the feed group is in a state. -/
def State.groupAll (s : State) (st : StemState) : Prop := ∀ i ∈ s.stb.group, ∀ r, s.record? i = some r → r.state = st

/-- The law of the feed group: its list holds each HELD or PROCESSING record once and no other, at most four, all in one
state, with one lead while PROCESSING; and the sequencer's state follows it (R28, R33; note to R28). -/
def State.StemLaw (s : State) : Prop :=
  (∀ i r, s.record? i = some r → r.Law) ∧
  s.stb.group.Nodup ∧ s.stb.group.length ≤ 4 ∧
  (∀ i, i ∈ s.stb.group ↔ ∃ r, s.record? i = some r ∧ (r.state = .held ∨ r.state = .processing)) ∧
  (s.groupState = .processing → ∃ k r, s.lead? = some (k, r) ∧
    ∀ j q, s.record? j = some q → q.role = some .lead → j = k) ∧
  (s.fcs.state ≠ .felling → ∀ i r, s.record? i = some r → r.state ≠ .felling) ∧
  match s.fcs.state with
  | .idle => s.stb.group = []
  | .felling => s.groupAll .held ∧ s.stb.group.length ≤ 3 ∧ ∃ k r, s.record? k = some r ∧ r.state = .felling ∧
      ∀ j q, s.record? j = some q → q.state = .felling → j = k
  | .holding => s.stb.group ≠ [] ∧ s.groupAll .held
  | .waiting | .feeding | .creeping | .settling | .reversing | .atTarget | .cutting | .sawReturn | .paused =>
    s.stb.group ≠ [] ∧ s.groupAll .processing
  | .halted => s.groupAll .held ∨ s.groupAll .processing

/-- The Head Bus Port's law: the bounds of queues and counts (R180, R183), a request waits only behind one in service
(R181), nothing waits while the transmitter is free, and an answer is sent only while its request is in service (R184). -/
def State.BusLaw (s : State) : Prop :=
  s.hbp.requests.length ≤ 8 ∧ s.hbp.notices.length ≤ 16 ∧ s.hbp.requestsLost ≤ 255 ∧ s.hbp.noticesLost ≤ 255 ∧
  s.busSettled ∧
  (∀ t, s.hbp.transmitter = some t → t.kind = .answer → s.hbp.inService.isSome)

/-- The loaded points of a table in order: raw values strictly ascend with the index and contributions do not decrease
(R64). -/
def armOrdered (t : ArmTable) : Prop :=
  ∀ (i j : Fin 9) (p q : CalPoint), i < j → t[i] = some p → t[j] = some q → p.raw < q.raw ∧ p.contribution ≤ q.contribution

/-- The points of a table in range (R64). -/
def armInRange (t : ArmTable) : Prop :=
  ∀ (i : Fin 9) (p : CalPoint), t[i] = some p → p.raw ≤ 4095 ∧ p.contribution ≤ 5000

/-- The laws of the four calibration tables and of the species taper table (R64, R94). -/
def State.CalibrationLaw (s : State) : Prop :=
  (∀ c : Channel, armOrdered (s.dsq.table c) ∧ armInRange (s.dsq.table c)) ∧
  ∀ i : Fin 16, s.atb.taper[i].tmin ≤ s.atb.taper[i].tdefault ∧ s.atb.taper[i].tdefault ≤ s.atb.taper[i].tmax ∧
    s.atb.taper[i].tmax ≤ 40

/-- The law of the lock: entries numbered below the lock size are identical in the two banks (R90). -/
def State.LockLaw (s : State) : Prop :=
  (s.atb.lockSize = 0 ∨ s.atb.lockSize = 4 ∨ s.atb.lockSize = 8 ∨ s.atb.lockSize = 16) ∧
  ∀ i : Fin 32, i.val < s.atb.lockSize → s.atb.active[i] = s.atb.edit[i]

/-- The law of the requesters: each has at most one sequence pending or running, and an IDLE sequencer has none pending
(R70, R74); and a pass request waits only behind a pass in flight (R124, R134). -/
def State.RequesterLaw (s : State) : Prop :=
  (s.dsq.stateNumber = 1 → s.dsq.feedPending = none) ∧
  (s.dsq.stateNumber = 2 → s.dsq.trimPending = none) ∧
  (s.dsq.stateNumber = 3 → s.dsq.cabPending = none) ∧
  (s.dsq.running = none → s.dsq.feedPending = none ∧ s.dsq.trimPending = none ∧ s.dsq.cabPending = none) ∧
  (s.bke.flag = true → s.bke.inFlight.isSome) ∧
  s.bke.counter ≤ 255 ∧
  (∀ p, s.bke.inFlight = some p → p.number ≤ 255)

/-- The ranges of the Length Unit (file 03, state table) and how n follows the source state (section 3.7). -/
def State.LengthLaw (s : State) : Prop :=
  (-2000 ≤ s.lnu.length ∧ s.lnu.length ≤ 60000) ∧ (-2000 ≤ s.lnu.base ∧ s.lnu.base ≤ 60000) ∧
  s.lnu.wheelRun.natAbs ≤ 8000000 ∧ s.lnu.rollerRun.natAbs ≤ 8000000 ∧
  s.lnu.window.wheelCount.natAbs ≤ 8000000 ∧ s.lnu.window.rollerCount.natAbs ≤ 8000000 ∧
  (s.lnu.window.least ≤ s.lnu.length ∧ s.lnu.length ≤ s.lnu.window.greatest) ∧
  s.lnu.wheelFaults ≤ 8 ∧ s.lnu.rollerFaults ≤ 8 ∧
  (match s.lnu.source with
   | .wheel | .roller => s.lnu.n = 0
   | .disputed => s.lnu.n = 1 ∨ s.lnu.n = 2
   | .rejoin => s.lnu.n = 1) ∧
  (s.lnu.source.usesWheel = false → s.lnu.rollerLen = true)

/-- The law of handles: a record's handle is in 1..65535, no two occupied slots share one, and the next-handle counter rests
on a value in 1..65535 that no occupied slot holds (R2). -/
def State.HandleLaw (s : State) : Prop :=
  (1 ≤ s.stb.nextHandle ∧ s.stb.nextHandle ≤ 65535 ∧ s.holdsHandle s.stb.nextHandle = false) ∧
  (∀ i r, s.record? i = some r → 1 ≤ r.handle ∧ r.handle ≤ 65535) ∧
  ∀ i j r q, s.record? i = some r → s.record? j = some q → r.handle = q.handle → i = j

end Sys2Proof.Machine
end

