-- ==== Sys2Proof/WellFormed.lean ====
section
/-! DEFINITION. Which commands can arrive: the operands' types hold every range of the wire, and what is left is checked
here (file 10, R176, R178, R181). -/

namespace Sys2Proof

/-- The class field of a frame, identifier bits 25..24 (R176). -/
def Frame.classField (f : Frame) : BitVec 2 := f.ident.extractLsb' 24 2

/-- A CAN data field holds at most 8 bytes (CAN 2.0B, R178). -/
def Frame.fits (f : Frame) : Bool := f.data.length ≤ 8

/-- A command that can arrive: a FIRST_FRAME is a frame of class 0, a CONTINUATION_FRAME one of class 3, and an
UNKNOWN_REQUEST has a code that is not in the catalogue and a payload a message can carry. -/
def Instr.wf : Instr → Bool
  | .firstFrame f => f.fits && f.classField == 0
  | .continuationFrame f => f.fits && f.classField == 3
  | .unknownRequest code _ payload => catalogueLength code == none && payload.length ≤ 255
  | .powerOn _ _ | .gapTimerExpiry | .frameSent | .segmentErrorAnswer _ _ => true
  | .setParameter _ _ _ | .readParameter _ _ | .loadArmPoint _ _ _ _ _ | .readArmTable _ _ => true
  | .setSpeciesTaper _ _ _ _ _ | .readSpeciesTaper _ _ | .writeAssortment _ _ _ | .retireAssortment _ _ => true
  | .readAssortment _ _ _ | .swapBanks _ | .setLockSize _ _ | .listStems _ | .readStem _ _ => true
  | .readProfile _ _ _ _ | .readPlan _ _ _ | .readPieces _ _ | .setSpecies _ _ _ | .setOverride _ _ _ _ => true
  | .clearOverride _ _ | .freezePlan _ _ | .thawPlan _ _ | .setUpdateMode _ _ _ | .replan _ _ => true
  | .setTopWatch _ _ _ _ | .retireStem _ _ | .fell _ _ | .feed _ | .stop _ | .cut _ | .cutHere _ => true
  | .drop _ | .release _ | .cabMeasure _ _ _ | .readStatus _ | .reinitialiseStems _ | .reinitialiseAll _ => true
  | .encoderPulse _ _ | .quadratureFault _ | .wheelContactChange _ | .sawEndAsserted _ | .sawHomeAsserted _ => true
  | .haltAsserted | .haltReleased | .settleTimerExpiry | .sawTimerExpiry | .homeTimerExpiry => true
  | .stallTimerExpiry | .sequenceComplete _ | .passComplete => true

end Sys2Proof
end

