-- ==== Sys2Proof/Certificates/Slice0/Obligations.lean ====
section
/-! DEFINITION. The statements for the provers, group by group: the head bus, settings, assortments, stem records, the
operating requests, measurement, length, the sequencer, plan passes, and the invariants that every step keeps. -/

open Sys2Proof Sys2Proof.Machine

/-! ### Steps and the clock -/

/-- The command at the front of the queue is what the step runs, with the queue's rest. -/
def Obligations.StepRunsFrontCommand : Prop :=
  ∀ (s : State) (c : Instr) (rest : List Instr), s.pending = c :: rest → step s = exec c { s with pending := rest }

/-- The idle millisecond (the model's own, log 3). Running timers count, and a timer of the sequencer that reaches its period
(R141), or the gap timer at 100 ms (R179), does what its expiry command does. Each switch line takes one sample and each
encoder line settles, by the filters of R42 and R43: a run of the other level grows or is broken, and the sample that
completes it does what the line's command does. Two things that fall into one millisecond are log 3's and not stated. -/
def Obligations.MillisecondCountsTimers : Prop :=
  ∀ s : State, s.pending = [] → s.busSettled →
    let t := s.countTimers
    let l := s.lines
    let patient := ∀ p, s.hbp.partialRequest = some p → p.gap + 1 < 100
    (s.encodersQuiet → s.switchesQuiet → patient →
      (t.nothingDue → step s = .next t) ∧
      (∀ e, t.fcs.settleTimer = some e → s.params.settleTime ≤ e → step s = exec .settleTimerExpiry t) ∧
      (∀ e, t.fcs.settleTimer = none → t.fcs.sawTimer = some e → s.params.sawTimeout ≤ e →
        step s = exec .sawTimerExpiry t) ∧
      (∀ e, t.fcs.settleTimer = none → t.fcs.sawTimer = none → t.fcs.homeTimer = some e → s.params.homeTimeout ≤ e →
        step s = exec .homeTimerExpiry t) ∧
      (∀ e, t.fcs.settleTimer = none → t.fcs.sawTimer = none → t.fcs.homeTimer = none → t.fcs.stallTimer = some e →
        s.params.stallTime ≤ e → step s = exec .stallTimerExpiry t)) ∧
    (∀ p, s.hbp.partialRequest = some p → t.hbp.partialRequest = some { p with gap := p.gap + 1 } ∧
      (s.encodersQuiet → s.switchesQuiet → t.nothingDue → 100 ≤ p.gap + 1 → step s = exec .gapTimerExpiry t)) ∧
    (s.encodersQuiet → t.nothingDue → patient →
      let n := s.params.switchFilter
      let heard : InputLines := { l with
        wheelContact := l.wheelContact.heard, sawHome := l.sawHome.heard, sawEnd := l.sawEnd.heard, halt := l.halt.heard }
      let edge (f : LineFilter) : Edge := if f.pin then .asserted else .deasserted
      (¬l.wheelContact.ripe n → ¬l.sawHome.ripe n → ¬l.sawEnd.ripe n → ¬l.halt.ripe n →
        step s = .next { t with lines := heard }) ∧
      (l.wheelContact.ripe n → ¬l.sawHome.ripe n → ¬l.sawEnd.ripe n → ¬l.halt.ripe n →
        step s = exec (.wheelContactChange l.wheelContact.pin)
          { t with lines := { heard with wheelContact := l.wheelContact } }) ∧
      (¬l.wheelContact.ripe n → l.sawHome.ripe n → ¬l.sawEnd.ripe n → ¬l.halt.ripe n →
        step s = exec (.sawHomeAsserted (edge l.sawHome)) { t with lines := { heard with sawHome := l.sawHome } }) ∧
      (¬l.wheelContact.ripe n → ¬l.sawHome.ripe n → l.sawEnd.ripe n → ¬l.halt.ripe n →
        step s = exec (.sawEndAsserted (edge l.sawEnd)) { t with lines := { heard with sawEnd := l.sawEnd } }) ∧
      (¬l.wheelContact.ripe n → ¬l.sawHome.ripe n → ¬l.sawEnd.ripe n → l.halt.ripe n →
        step s = exec (if l.halt.pin then .haltAsserted else .haltReleased)
          { t with lines := { heard with halt := l.halt } })) ∧
    (s.switchesQuiet → t.nothingDue → patient → s.params.encFilter ≤ 8 →
      let one (a b : LineFilter) := (a.quiet ∧ b.pin ≠ b.accepted) ∨ (b.quiet ∧ a.pin ≠ a.accepted)
      let both (a b : LineFilter) := a.pin ≠ a.accepted ∧ b.pin ≠ b.accepted ∧ a.run = b.run
      (l.rollerA.quiet → l.rollerB.quiet → one l.wheelA l.wheelB → ∀ d,
        turned d (l.wheelA.accepted, l.wheelB.accepted) = (l.wheelA.pin, l.wheelB.pin) →
        step s = exec (.encoderPulse .wheel d) t) ∧
      (l.wheelA.quiet → l.wheelB.quiet → one l.rollerA l.rollerB → ∀ d,
        turned d (l.rollerA.accepted, l.rollerB.accepted) = (l.rollerA.pin, l.rollerB.pin) →
        step s = exec (.encoderPulse .roller d) t) ∧
      (l.rollerA.quiet → l.rollerB.quiet → both l.wheelA l.wheelB → step s = exec (.quadratureFault .wheel) t) ∧
      (l.wheelA.quiet → l.wheelB.quiet → both l.rollerA l.rollerB → step s = exec (.quadratureFault .roller) t))

/-- POWER_ON leaves the state that R175 and the chapters' power-on columns give, whatever stood before, and a FELL of a
species in range is then refused NOT_CONFIGURED (R175). -/
def Obligations.PowerOnState : Prop :=
  ∀ (s : State) (node : BitVec 3) (pins : PinLevels), ∃ t : State,
    exec (.powerOn node pins) s = .next t ∧ t.pending = s.pending ∧
    t.hbp = ⟨node, none, [], none, [], none, .notice, 0, 0⟩ ∧
    (∀ i, t.record? i = none) ∧ t.stb.nextHandle = 1 ∧ t.stb.group = [] ∧
    (t.lnu.length = 0 ∧ t.lnu.base = 0 ∧ t.lnu.wheelRun = 0 ∧ t.lnu.rollerRun = 0 ∧ t.lnu.limit = false) ∧
    (t.lnu.source = .roller ∧ t.lnu.n = 0 ∧ t.lnu.window = ⟨0, 0, 0, 0, 0, 250⟩ ∧ t.lnu.trigger = 0) ∧
    (t.lnu.wheelFaults = 0 ∧ t.lnu.rollerFaults = 0 ∧ t.lnu.wheelFaulty = false ∧ t.lnu.rollerFaulty = false) ∧
    (t.lnu.slipSuspended = false ∧ t.lnu.slipSuspect = false ∧ t.lnu.rollerLen = true) ∧
    (t.lines.wheelContact.accepted = false ∧ t.lines.sawHome.accepted = false ∧ t.lines.sawEnd.accepted = false ∧
      t.lines.halt.accepted = false) ∧
    (t.lines.wheelA.accepted = pins.wheelA ∧ t.lines.wheelB.accepted = pins.wheelB ∧
      t.lines.rollerA.accepted = pins.rollerA ∧ t.lines.rollerB.accepted = pins.rollerB) ∧
    (t.dsq.running = none ∧ t.dsq.feedPending = none ∧ t.dsq.trimPending = none ∧ t.dsq.cabPending = none) ∧
    (∀ (c : Channel) (i : Fin 9), (t.dsq.table c)[i] = none) ∧
    (∀ i : Fin 32, t.atb.active[i] = none ∧ t.atb.edit[i] = none) ∧ t.atb.lockSize = 0 ∧ t.atb.swapPending = false ∧
    (∀ i : Fin 16, t.atb.taper[i] = ⟨4, 10, 20⟩) ∧
    t.bke = ⟨none, false, 0, .none, 0⟩ ∧ t.fcs = Sequencer.reset .idle ∧
    (∀ (n : Nat) (info : ParameterInfo), parameterInfo n = some info → t.params.get n = info.default) ∧
    ∀ (tag species : Byte), species.toNat ≤ 15 →
      exec (.fell tag species) t = .next (t.answered 48 tag ⟨.notConfigured, []⟩)

/-! ### The request queue and its service -/

/-- With no request in service and none waiting, a request is served at the command itself (R180, R181): one of the
catalogue by its owner, whose effect stays and whose answer stands in service under the request's code and tag; and the
Head Bus Port's own checks change nothing else: an error entry is answered SEGMENT_ERROR, a code outside the catalogue
UNKNOWN_REQUEST, and a payload of another length than the catalogue's RANGE. What a request command stands for is log 2, and
which of the answer and a notice a free transmitter sends first log 7. -/
def Obligations.RequestServedAtOnce : Prop :=
  (∀ (s : State) (i : Instr) (tag : Byte) (r : Request), i.request? = some (tag, r) → s.busIdle →
    exec i s = .next ((handleRequest tag r s).1.answered r.code tag (handleRequest tag r s).2)) ∧
  ∀ (s : State) (code tag : Byte) (payload : List Byte), s.busIdle →
    exec (.segmentErrorAnswer code tag) s = .next (s.answered code tag ⟨.segmentError, []⟩) ∧
    (catalogueLength code = none →
      exec (.unknownRequest code tag payload) s = .next (s.answered code tag ⟨.unknownRequest, []⟩)) ∧
    (∀ (n : Nat) (priority : BitVec 3), catalogueLength code = some n → payload.length ≠ n → payload.length ≤ 7 →
      s.hbp.partialRequest = none →
      exec (.firstFrame (requestFrame priority s.hbp.node code tag payload 0)) s =
        .next (s.answered code tag ⟨.range, []⟩))

/-- While a request is in service and the transmitter is busy, a request or an error entry waits last in the queue, up to
eight of them; a ninth is lost: counted, up to 255, and told by REQUESTS_LOST with the new count, the code and the tag, where
the notice queue has room (R180, R183). -/
def Obligations.RequestWaitsOrIsLost : Prop :=
  ∀ (s : State) (i : Instr) (e : QueueEntry), queueEntry? i = some e → s.hbp.inService.isSome → s.hbp.transmitter.isSome →
    (s.hbp.requests.length < 8 → exec i s = .next { s with hbp.requests := s.hbp.requests ++ [e] }) ∧
    (8 ≤ s.hbp.requests.length → s.hbp.notices.length < 16 →
      exec i s = .next
        { s with
          hbp.requestsLost := min 255 (s.hbp.requestsLost + 1)
          hbp.notices := s.hbp.notices ++ [.requestsLost (min 255 (s.hbp.requestsLost + 1)) e.code e.tag] }) ∧
    (8 ≤ s.hbp.requests.length → 16 ≤ s.hbp.notices.length →
      exec i s = .next
        { s with
          hbp.requestsLost := min 255 (s.hbp.requestsLost + 1)
          hbp.noticesLost := min 255 (s.hbp.noticesLost + 1) })

/-! ### Frames -/

/-- The frames of a request of up to 255 bytes, sent one after another to a bus at rest, do what the complete request
does, for every code, tag, payload and priority (R178, R179). What a request command stands for is log 2. -/
def Obligations.RequestFramesArrive : Prop :=
  ∀ (s : State) (priority : BitVec 3) (code tag : Byte) (payload : List Byte), payload.length ≤ 255 →
    s.hbp.partialRequest = none → s.busSettled →
    execAll (requestFrames priority s.hbp.node code tag payload) s = .next (s.offer (.request code tag payload))

/-- Frames that R177 does not receive change nothing, and what R179 does with the others. A class 0 frame discards a partial
request, whose error entry is offered first; then it is a whole request, starts a partial one, or is malformed and offers
its own error entry. The expected class 3 frame extends the partial request or completes it; any other, like the gap
timer, discards it; without a partial request both do nothing. The gap timer without a partial request is log 4. -/
def Obligations.FramesJoinOrDiscard : Prop :=
  ∀ s : State,
    (∀ f : Frame, (f.extended = false ∨ f.remote = true ∨ f.ident.extractLsb' 11 5 ≠ 0 ∨
        f.ident.extractLsb' 8 3 ≠ s.hbp.node ∨ (f.ident.extractLsb' 24 2 ≠ 0 ∧ f.ident.extractLsb' 24 2 ≠ 3)) →
      exec (.firstFrame f) s = .next s ∧ exec (.continuationFrame f) s = .next s) ∧
    (s.busSettled →
      let rid : State := { s with hbp.partialRequest := none }
      let offered (entries : List QueueEntry) : State := entries.foldl State.offerRequest rid
      let discarded : List QueueEntry := (s.hbp.partialRequest.map fun p => QueueEntry.error p.code p.tag).toList
      (∀ f : Frame, f.extended = true → f.remote = false → f.ident.extractLsb' 11 5 = 0 →
        f.ident.extractLsb' 8 3 = s.hbp.node →
        let code := f.ident.extractLsb' 16 8
        let tag := f.ident.extractLsb' 0 8
        (f.ident.extractLsb' 24 2 = 0 →
          (f.data = [] → exec (.firstFrame f) s = .next (offered (discarded ++ [.error code tag])).goOn) ∧
          ∀ size bytes, f.data = size :: bytes →
            (size.toNat < 8 → bytes.length = size.toNat →
              exec (.firstFrame f) s = .next (offered (discarded ++ [.request code tag bytes])).goOn) ∧
            (8 ≤ size.toNat → bytes.length = 7 → exec (.firstFrame f) s = .next (State.goOn { offered discarded with
              hbp.partialRequest := some ⟨code, tag, size.toNat, bytes, 1, 0⟩ })) ∧
            (bytes.length ≠ (if size.toNat < 8 then size.toNat else 7) →
              exec (.firstFrame f) s = .next (offered (discarded ++ [.error code tag])).goOn)) ∧
        (f.ident.extractLsb' 24 2 = 3 →
          (s.hbp.partialRequest = none → exec (.continuationFrame f) s = .next s) ∧
          ∀ p, s.hbp.partialRequest = some p →
            (∀ number bytes, f.data = number :: bytes → bytes.length = 7 → code = p.code → tag = p.tag →
              number.toNat = p.nextNumber →
              (p.nextNumber ≠ continuations p.size → exec (.continuationFrame f) s =
                .next { s with hbp.partialRequest := some { p with
                  received := p.received ++ bytes, nextNumber := p.nextNumber + 1, gap := 0 } }) ∧
              (p.nextNumber = continuations p.size → exec (.continuationFrame f) s =
                .next (offered [.request p.code p.tag ((p.received ++ bytes).take p.size)]).goOn)) ∧
            (¬(code = p.code ∧ tag = p.tag ∧ f.data.length = 8 ∧ (byteAt f.data 0).toNat = p.nextNumber) →
              exec (.continuationFrame f) s = .next (offered discarded).goOn))) ∧
      exec .gapTimerExpiry s = .next (if s.hbp.partialRequest = none then s else (offered discarded).goOn))

/-- FRAME_SENT (R181, R184): the message goes on with its next frame; after its last frame the transmitter chooses again, and
after the last frame of an answer the request leaves service and the next entry, if any, is taken and handled. After a notice
an answer that waits is sent, else the next notice; after an answer the next notice, if any, goes first. Where the next
entry's handling raises a notice for a free transmitter, the choice is the model's (log 7). -/
def Obligations.FrameSentGoesOn : Prop :=
  ∀ (s : State) (t : Transmission), s.hbp.transmitter = some t → s.busSettled →
    (t.index < continuations t.payload.length →
      exec .frameSent s = .next { s with hbp.transmitter := some { t with index := t.index + 1 } }) ∧
    (continuations t.payload.length ≤ t.index → t.kind = .notice → s.hbp.lastKind = .notice →
      (∀ r, s.hbp.inService = some r →
        exec .frameSent s =
          .next { s with
            hbp.transmitter := some ⟨.answer, r.code, r.tag, u8 r.answer.status.code ++ r.answer.content, 0⟩
            hbp.lastKind := .answer }) ∧
      (∀ n rest, s.hbp.inService = none → s.hbp.notices = n :: rest →
        exec .frameSent s =
          .next { s with hbp.transmitter := some ⟨.notice, n.code, 0, n.payload, 0⟩, hbp.notices := rest }) ∧
      (s.hbp.inService = none → s.hbp.notices = [] → exec .frameSent s = .next { s with hbp.transmitter := none })) ∧
    (continuations t.payload.length ≤ t.index → t.kind = .answer → s.hbp.lastKind = .answer →
      (∀ n rest, s.hbp.requests = [] → s.hbp.notices = n :: rest →
        exec .frameSent s =
          .next { s with
            hbp.inService := none, hbp.transmitter := some ⟨.notice, n.code, 0, n.payload, 0⟩
            hbp.lastKind := .notice, hbp.notices := rest }) ∧
      (s.hbp.requests = [] → s.hbp.notices = [] →
        exec .frameSent s = .next { s with hbp.inService := none, hbp.transmitter := none }) ∧
      ∀ e rest, s.hbp.requests = e :: rest →
        ∃ u : State, exec .frameSent s = .next u ∧
          u = State.answered
            (handleEntry e { s with hbp.inService := none, hbp.transmitter := none, hbp.requests := rest }).1 e.code e.tag
            (handleEntry e { s with hbp.inService := none, hbp.transmitter := none, hbp.requests := rest }).2 ∧
          (s.hbp.notices ≠ [] → ∃ m, u.hbp.transmitter = some m ∧ m.kind = .notice))

/-- Every step keeps the Head Bus Port's law: queues and counts within their bounds (R180, R183), a request waiting only
behind one in service (R181), and nothing waiting for a free transmitter (R184). -/
def Obligations.BusLawKept : Prop := Kept State.BusLaw

/-! ### The wire -/

/-- The catalogue's encoding and the decoder agree in both directions: every request is read back from its code and payload
with every item, and a payload that decodes is the one that its request encodes to. -/
def Obligations.RequestCodesAgree : Prop :=
  (∀ r : Request, decodeRequest r.code r.payload = .request r) ∧
    ∀ (code : Byte) (payload : List Byte) (r : Request), decodeRequest code payload = .request r →
      r.code = code ∧ r.payload = payload

/-- What the SH20 sends (R176 to R178): the fields of each frame's identifier, and frames whose data, joined by the
receiver, give the payload back, the length in the first frame, the number in each later one, the padding 0. -/
def Obligations.SentFramesCarryMessage : Prop :=
  (∀ (t : Transmission) (node : BitVec 3),
    let id := sentIdent t node
    id.extractLsb' 26 3 = (if t.kind = .answer then (3 : BitVec 3) else 4) ∧
    id.extractLsb' 24 2 = (if 0 < t.index then (3 : BitVec 2) else if t.kind = .answer then 1 else 2) ∧
    id.extractLsb' 16 8 = t.code ∧ id.extractLsb' 11 5 = (0 : BitVec 5) ∧ id.extractLsb' 8 3 = node ∧
    id.extractLsb' 0 8 = t.tag) ∧
  ∀ payload : List Byte, payload.length ≤ 255 →
    (frameData payload 0).head? = some (BitVec.ofNat 8 payload.length) ∧
    (payload.length ≤ 7 → frameData payload 0 = BitVec.ofNat 8 payload.length :: payload) ∧
    (8 ≤ payload.length → (frameData payload 0).length = 8) ∧
    (∀ j, 1 ≤ j → j ≤ continuations payload.length →
      (frameData payload j).length = 8 ∧ (frameData payload j).head? = some (BitVec.ofNat 8 j)) ∧
    (8 ≤ payload.length →
      (frameData payload 0).drop 1 ++
          (List.range (continuations payload.length)).flatMap (fun k => (frameData payload (k + 1)).drop 1) =
        payload ++ List.replicate (7 * continuations payload.length + 7 - payload.length) 0)
/-! ### Operating parameters and calibration (chapters 5 and 9) -/

/-- SET_PARAMETER of the parameters without a rule of their own for a change (R170; the constants have one in R50). The given
value, or the nearest one the parameter takes, is stored and answered OK or CLAMPED with the stored value; no other parameter
changes. A running timer whose new period it already reaches expires at the change (R141). Every check that fails answers
in R170's order and changes nothing: the number, the locks of R75, R76 and R170, and the codes of masks and auto_cut. The
stored value's u16 is log 16's, and which of the answer and an expiry's notices a free transmitter sends first log 7's. -/
def Obligations.SetParameterStoresOrRefuses : Prop :=
  ∀ (s : State) (tag number : Byte) (value : Half), s.busIdle →
    let n := number.toNat
    let locked := ((n = 13 ∨ n = 14) ∧ s.processingCount ≠ 0) ∨ (n = 17 ∧ s.dsq.running.isSome) ∨
      ((n = 18 ∨ n = 19) ∧ ∃ q f, s.dsq.running = some q ∧ q.target = .feed f) ∨
      ((n = 20 ∨ n = 21) ∧ ∃ q t, s.dsq.running = some q ∧ q.target = .trim t)
    let badCode := ((n = 18 ∨ n = 20) ∧ (value.toNat = 0 ∨ 3 < value.toNat)) ∨ (n = 22 ∧ 1 < value.toNat)
    (22 < n → exec (.setParameter tag number value) s = .next (s.answered 1 tag ⟨.range, []⟩)) ∧
    (locked → exec (.setParameter tag number value) s = .next (s.answered 1 tag ⟨.busy, []⟩)) ∧
    (¬locked → badCode → exec (.setParameter tag number value) s = .next (s.answered 1 tag ⟨.range, []⟩)) ∧
    ∀ info, parameterInfo n = some info → n ≠ 13 → n ≠ 14 → ¬locked → ¬badCode →
      let v := if n = 19 ∨ n = 21 then
          (if 8 ≤ value.toNat then 8 else if 4 ≤ value.toNat then 4 else if 2 ≤ value.toNat then 2 else 1)
        else max info.low (min info.high value.toNat)
      let a : Answer := ⟨if v = value.toNat then .ok else .clamped, u16 v⟩
      (s.params.get n = v → exec (.setParameter tag number value) s = .next (s.answered 1 tag a)) ∧
      (s.params.get n ≠ v → ∃ p : Parameters,
        (∀ m, p.get m = if m = n then v else s.params.get m) ∧
        ((n = 5 → timerDue s.fcs.settleTimer v = false) → (n = 6 → timerDue s.fcs.sawTimer v = false) →
          (n = 7 → timerDue s.fcs.homeTimer v = false) → (n = 8 → timerDue s.fcs.stallTimer v = false) →
          exec (.setParameter tag number value) s = .next (State.answered { s with params := p } 1 tag a)) ∧
        (n = 5 → timerDue s.fcs.settleTimer v → exec (.setParameter tag number value) s =
          .next ((State.settleExpires { s with params := p }).answered 1 tag a)) ∧
        (n = 6 → timerDue s.fcs.sawTimer v → exec (.setParameter tag number value) s =
          .next ((State.sawExpires { s with params := p }).answered 1 tag a)) ∧
        (n = 7 → timerDue s.fcs.homeTimer v → exec (.setParameter tag number value) s =
          .next ((State.homeExpires { s with params := p }).answered 1 tag a)) ∧
        (n = 8 → timerDue s.fcs.stallTimer v → exec (.setParameter tag number value) s =
          .next ((State.stallExpires { s with params := p }).answered 1 tag a)))

/-- A changed encoder constant (R50, R170), while no record is PROCESSING: the active encoder is rebased first, so that the
length stays, and a new window starts; the value is clamped to 1000..60000; an equal value changes nothing. -/
def Obligations.ConstantChangeRebases : Prop :=
  ∀ (s : State) (tag : Byte) (value : Half), s.busIdle → s.processingCount = 0 →
    let v := max 1000 (min 60000 value.toNat)
    let a : Answer := ⟨if v = value.toNat then .ok else .clamped, u16 v⟩
    let window : SlipWindow := ⟨s.lnu.length, s.lnu.length, s.lnu.length, 0, 0, s.params.slipWindow⟩
    let onWheel := s.lnu.source = .wheel ∨ s.lnu.source = .disputed
    (s.params.wheelConstant = v → exec (.setParameter tag 13 value) s = .next (s.answered 1 tag a)) ∧
    (s.params.rollerConstant = v → exec (.setParameter tag 14 value) s = .next (s.answered 1 tag a)) ∧
    (s.params.wheelConstant ≠ v → onWheel →
      exec (.setParameter tag 13 value) s = .next (State.answered { s with
        params.wheelConstant := v
        lnu := { s.lnu with
          base := s.lnu.length, wheelRun := 0, limit := false, window := window, wheelFaults := 0, rollerFaults := 0 } }
        1 tag a)) ∧
    (s.params.wheelConstant ≠ v → ¬onWheel →
      exec (.setParameter tag 13 value) s = .next (State.answered { s with
        params.wheelConstant := v
        lnu := { s.lnu with window := window, wheelFaults := 0, rollerFaults := 0 } } 1 tag a)) ∧
    (s.params.rollerConstant ≠ v → ¬onWheel →
      exec (.setParameter tag 14 value) s = .next (State.answered { s with
        params.rollerConstant := v
        lnu := { s.lnu with
          base := s.lnu.length, rollerRun := 0, limit := false, window := window, wheelFaults := 0, rollerFaults := 0 } }
        1 tag a)) ∧
    (s.params.rollerConstant ≠ v → onWheel →
      exec (.setParameter tag 14 value) s = .next (State.answered { s with
        params.rollerConstant := v
        lnu := { s.lnu with window := window, wheelFaults := 0, rollerFaults := 0 } } 1 tag a))

/-- The reads of settings change nothing, whatever the part is doing, and answer with what stands (R86, R168, R171): a
parameter with its range and default, a calibration table, an entry of a bank. An operand out of range is answered RANGE.
The bytes follow the model's choices of log 15 and log 16 where R187 leaves one. -/
def Obligations.SettingReadsAnswer : Prop :=
  ∀ (s : State) (tag a b : Byte), s.busIdle →
    (∀ info, parameterInfo a.toNat = some info →
      exec (.readParameter tag a) s = .next (s.answered 2 tag ⟨.ok,
        [a] ++ u16 (s.params.get a.toNat) ++ u16 info.low ++ u16 info.high ++ u16 info.default⟩)) ∧
    (22 < a.toNat → exec (.readParameter tag a) s = .next (s.answered 2 tag ⟨.range, []⟩)) ∧
    (∀ c, Channel.ofNumber a.toNat = some c →
      exec (.readArmTable tag a) s = .next (s.answered 4 tag ⟨.ok,
        [a] ++ yesNo (armComplete (s.dsq.table c)) ++ (s.dsq.table c).toList.flatMap fun o => match o with
          | some p => [1] ++ u16 p.raw ++ u16 p.contribution
          | none => [0, 255, 255, 255, 255]⟩)) ∧
    (3 < a.toNat → exec (.readArmTable tag a) s = .next (s.answered 4 tag ⟨.range, []⟩)) ∧
    (1 < a.toNat ∨ 31 < b.toNat → exec (.readAssortment tag a b) s = .next (s.answered 18 tag ⟨.range, []⟩)) ∧
    (a.toNat ≤ 1 → ∀ i : Fin 32, b.toNat = i.val →
      let bank := if a = 0 then s.atb.active else s.atb.edit
      let lock : List Byte := if i.val < s.atb.lockSize then [1] else [0]
      (bank[i] = none → exec (.readAssortment tag a b) s = .next (s.answered 18 tag ⟨.ok, [a, b, 0] ++ lock⟩)) ∧
      ∀ e, bank[i] = some e →
        exec (.readAssortment tag a b) s = .next (s.answered 18 tag ⟨.ok, [a, b, 1] ++ lock ++ e.bytes⟩))

/-- LOAD_ARM_POINT (R166, R167). A point in range, at an idle sequencer, that keeps the order with its nearest loaded
neighbours is loaded at its index, and nothing else changes; the answer says whether the table is now complete. The checks
that fail answer RANGE, BUSY and ORDER in this order and change nothing. -/
def Obligations.ArmPointLoadsInOrder : Prop :=
  ∀ (s : State) (tag arm index : Byte) (raw contribution : Half), s.busIdle →
    let bad := 3 < arm.toNat ∨ 8 < index.toNat ∨ 4095 < raw.toNat ∨ 5000 < contribution.toNat
    (bad → exec (.loadArmPoint tag arm index raw contribution) s = .next (s.answered 3 tag ⟨.range, []⟩)) ∧
    (¬bad → s.dsq.running.isSome →
      exec (.loadArmPoint tag arm index raw contribution) s = .next (s.answered 3 tag ⟨.busy, []⟩)) ∧
    ∀ c : Channel, Channel.ofNumber arm.toNat = some c → ¬bad → s.dsq.running = none →
      let ordered :=
        (∀ (j : Fin 9) (p : CalPoint), j.val < index.toNat → (s.dsq.table c)[j] = some p →
          (∀ k : Fin 9, j < k → k.val < index.toNat → (s.dsq.table c)[k] = none) →
          p.raw < raw.toNat ∧ p.contribution ≤ contribution.toNat) ∧
        (∀ (j : Fin 9) (p : CalPoint), index.toNat < j.val → (s.dsq.table c)[j] = some p →
          (∀ k : Fin 9, index.toNat < k.val → k < j → (s.dsq.table c)[k] = none) →
          raw.toNat < p.raw ∧ contribution.toNat ≤ p.contribution)
      (¬ordered → exec (.loadArmPoint tag arm index raw contribution) s = .next (s.answered 3 tag ⟨.order, []⟩)) ∧
      (ordered → ∃ d : DiameterSequencer,
        exec (.loadArmPoint tag arm index raw contribution) s =
          .next (State.answered { s with dsq := d } 3 tag
            ⟨.ok, if ∀ i : Fin 9, (d.table c)[i].isSome then [1] else [0]⟩) ∧
        d.running = s.dsq.running ∧ d.feedPending = s.dsq.feedPending ∧ d.trimPending = s.dsq.trimPending ∧
        d.cabPending = s.dsq.cabPending ∧ (∀ c', c' ≠ c → d.table c' = s.dsq.table c') ∧
        ∀ i : Fin 9, (d.table c)[i] =
          if i.val = index.toNat then some ⟨raw.toNat, contribution.toNat⟩ else (s.dsq.table c)[i])

/-- The contribution of an average raw reading by a complete table in order and in range (R64, R65): the first point's below
the table, interpolation toward zero between two points, the last point's above it, marked ARM_LIMIT there and only there; it
does not fall as the reading rises, and lies in 0..5000. -/
def Obligations.ContributionInterpolates : Prop :=
  ∀ (t : ArmTable) (p : Fin 9 → CalPoint), (∀ i, t[i] = some (p i)) → armOrdered t → armInRange t → ∀ r : Nat,
    (r < (p 0).raw → armContribution t r = (p 0).contribution) ∧
    (∀ i : Fin 8, (p i.castSucc).raw ≤ r → r ≤ (p i.succ).raw →
      (armContribution t r : Int) = (p i.castSucc).contribution +
        (((p i.succ).contribution - (p i.castSucc).contribution : Int) * (r - (p i.castSucc).raw)).tdiv
          ((p i.succ).raw - (p i.castSucc).raw)) ∧
    ((p 8).raw < r → armContribution t r = (p 8).contribution) ∧
    aboveLast t r = decide ((p 8).raw < r) ∧
    (∀ r', r ≤ r' → armContribution t r ≤ armContribution t r') ∧ armContribution t r ≤ 5000

/-- Every step keeps the calibration tables in order and in range, every taper entry in order and in range (R64, R94), and the
law of the lock: entries numbered below the lock size are identical in ACTIVE and EDIT (R90). -/
def Obligations.SettingsLawsKept : Prop := Kept State.CalibrationLaw ∧ Kept State.LockLaw

/-- SET_SPECIES_TAPER and READ_SPECIES_TAPER (R95, R96): a write in range and in order replaces the three values of the entry
and nothing else, in whatever state the part is; a refused write and a read change nothing. -/
def Obligations.SpeciesTaperWritesAndReads : Prop :=
  ∀ (s : State) (tag species lo default hi : Byte), s.busIdle →
    let badRange := 15 < species.toNat ∨ 40 < lo.toNat ∨ 40 < default.toNat ∨ 40 < hi.toNat
    let badOrder := ¬(lo.toNat ≤ default.toNat ∧ default.toNat ≤ hi.toNat)
    (badRange → exec (.setSpeciesTaper tag species lo default hi) s = .next (s.answered 5 tag ⟨.range, []⟩)) ∧
    (¬badRange → badOrder →
      exec (.setSpeciesTaper tag species lo default hi) s = .next (s.answered 5 tag ⟨.order, []⟩)) ∧
    (¬badRange → ¬badOrder → ∃ table : Vector TaperEntry 16,
      exec (.setSpeciesTaper tag species lo default hi) s =
        .next (State.answered { s with atb.taper := table } 5 tag ⟨.ok, []⟩) ∧
      ∀ i : Fin 16, table[i] =
        if i.val = species.toNat then ⟨lo.toNat, default.toNat, hi.toNat⟩ else s.atb.taper[i]) ∧
    (15 < species.toNat → exec (.readSpeciesTaper tag species) s = .next (s.answered 6 tag ⟨.range, []⟩)) ∧
    ∀ i : Fin 16, i.val = species.toNat →
      exec (.readSpeciesTaper tag species) s = .next (s.answered 6 tag
        ⟨.ok, [species] ++ u8 s.atb.taper[i].tmin ++ u8 s.atb.taper[i].tdefault ++ u8 s.atb.taper[i].tmax⟩)


/-! ### Assortments (chapter 5) -/

/-- WRITE_ASSORTMENT and RETIRE_ASSORTMENT (R83 to R85): the checks of number, lock and pending swap come first, then the
content's ranges, then its order, and a refusal changes nothing. An accepted request changes that one EDIT entry and nothing
else: EMPTY by a retirement, DEFINED with the written content by a write. -/
def Obligations.EntryEdits : Prop :=
  ∀ (s : State) (tag number : Byte) (e : EntryImage), s.busIdle →
    let n := number.toNat
    let write := exec (.writeAssortment tag number e) s
    let retire := exec (.retireAssortment tag number) s
    let count := e.lengthCount.toNat
    let ranges := e.speciesMask ≠ 0 ∧ (30 ≤ e.minTop.toNat ∧ e.minTop.toNat ≤ 600) ∧
      (50 ≤ e.maxButt.toNat ∧ e.maxButt.toNat ≤ 999) ∧ (1 ≤ count ∧ count ≤ 6) ∧
      (∀ i : Fin 6, i.val < count → 500 ≤ e.lengthSlots[i].toNat ∧ e.lengthSlots[i].toNat ≤ 9900 ∧
        e.lengthSlots[i].toNat % 100 = 0) ∧
      (10 ≤ e.classWidth.toNat ∧ e.classWidth.toNat ≤ 100) ∧ (e.groupAllowed = 0 ∨ e.groupAllowed = 1)
    let ordered := e.minTop.toNat < e.maxButt.toNat ∧
      ∀ i j : Fin 6, i < j → j.val < count → e.lengthSlots[i].toNat < e.lengthSlots[j].toNat
    (31 < n → write = .next (s.answered 16 tag ⟨.range, []⟩) ∧ retire = .next (s.answered 17 tag ⟨.range, []⟩)) ∧
    (n ≤ 31 → n < s.atb.lockSize →
      write = .next (s.answered 16 tag ⟨.locked, []⟩) ∧ retire = .next (s.answered 17 tag ⟨.locked, []⟩)) ∧
    (n ≤ 31 → s.atb.lockSize ≤ n → s.atb.swapPending = true →
      write = .next (s.answered 16 tag ⟨.swapPending, []⟩) ∧ retire = .next (s.answered 17 tag ⟨.swapPending, []⟩)) ∧
    (n ≤ 31 → s.atb.lockSize ≤ n → s.atb.swapPending = false →
      (¬ranges → write = .next (s.answered 16 tag ⟨.range, []⟩)) ∧
      (ranges → ¬ordered → write = .next (s.answered 16 tag ⟨.order, []⟩)) ∧
      (∃ bank : Bank, retire = .next (State.answered { s with atb.edit := bank } 17 tag ⟨.ok, []⟩) ∧
        ∀ i : Fin 32, bank[i] = if i.val = n then none else s.atb.edit[i]) ∧
      (ranges → ordered → ∃ (bank : Bank) (entry : Assortment),
        write = .next (State.answered { s with atb.edit := bank } 16 tag ⟨.ok, []⟩) ∧
        (∀ i : Fin 32, bank[i] = if i.val = n then some entry else s.atb.edit[i]) ∧
        entry.productCode = e.productCode.toNat ∧ entry.speciesMask = e.speciesMask ∧
        entry.minTop = e.minTop.toNat ∧ entry.maxButt = e.maxButt.toNat ∧
        entry.lengths = (List.range count).map (fun i => (e.lengthSlots.toList.getD i 0).toNat) ∧
        entry.classWidth = e.classWidth.toNat ∧ (∀ c : Fin 8, entry.prices[c] = e.prices[c].toNat) ∧
        (entry.groupAllowed = true ↔ e.groupAllowed = 1)))

/-- SWAP_BANKS (R87, R88): with no record PROCESSING, ACTIVE becomes a copy of EDIT, no swap is pending, BANKS_SWAPPED
goes to the notice queue where it has room, and the answer is OK; with a record PROCESSING the swap becomes or stays
pending and the answer is PENDING. Nothing else changes. Which of the answer and the notice a free transmitter sends
first is log 7. -/
def Obligations.SwapBanks : Prop :=
  ∀ (s : State) (tag : Byte), s.busIdle →
    (0 < s.processingCount →
      exec (.swapBanks tag) s = .next (State.answered { s with atb.swapPending := true } 19 tag ⟨.pending, []⟩)) ∧
    (s.processingCount = 0 →
      (s.hbp.notices.length < 16 →
        exec (.swapBanks tag) s = .next (State.answered
          { s with
            atb.active := s.atb.edit
            atb.swapPending := false
            hbp.notices := s.hbp.notices ++ [.banksSwapped .atRequest
              (Finset.univ.filter fun i : Fin 32 => s.atb.active[i] ≠ s.atb.edit[i]).card
              (Finset.univ.filter fun i : Fin 32 => s.atb.edit[i].isSome).card s.atb.lockSize] } 19 tag ⟨.ok, []⟩)) ∧
      (16 ≤ s.hbp.notices.length →
        exec (.swapBanks tag) s = .next (State.answered
          { s with
            atb.active := s.atb.edit
            atb.swapPending := false
            hbp.noticesLost := min 255 (s.hbp.noticesLost + 1) } 19 tag ⟨.ok, []⟩)))

/-- SET_LOCK_SIZE (R90): the checks in their order; a raise copies ACTIVE into EDIT below the new size, stores the size and
answers it with the number of EDIT entries replaced. Nothing else changes, and a refusal changes nothing. -/
def Obligations.LockSizeOnlyRises : Prop :=
  ∀ (s : State) (tag size : Byte), s.busIdle →
    let n := size.toNat
    let allowed := n = 0 ∨ n = 4 ∨ n = 8 ∨ n = 16
    let run := exec (.setLockSize tag size) s
    (¬allowed → run = .next (s.answered 20 tag ⟨.range, []⟩)) ∧
    (allowed → n < s.atb.lockSize → run = .next (s.answered 20 tag ⟨.locked, []⟩)) ∧
    (allowed → n = s.atb.lockSize → run = .next (s.answered 20 tag ⟨.ok, [size, 0]⟩)) ∧
    (allowed → s.atb.lockSize < n → s.atb.swapPending = true → run = .next (s.answered 20 tag ⟨.swapPending, []⟩)) ∧
    (allowed → s.atb.lockSize < n → s.atb.swapPending = false → ∃ bank : Bank,
      run = .next (State.answered { s with atb.edit := bank, atb.lockSize := n } 20 tag
        ⟨.ok, [size, BitVec.ofNat 8
          (Finset.univ.filter fun i : Fin 32 => i.val < n ∧ s.atb.active[i] ≠ s.atb.edit[i]).card]⟩) ∧
      ∀ i : Fin 32, bank[i] = if i.val < n then s.atb.active[i] else s.atb.edit[i])

/-- No step changes the ACTIVE bank and leaves a record PROCESSING (R87), from any state and by any command. -/
def Obligations.ActiveBankFixed : Prop :=
  ∀ s t : State, step s = .next t → 0 < t.processingCount → t.atb.active = s.atb.active

/-! ### Stem records (chapter 1) -/

/-- The first two checks of every request on a stem record (section 1.4; reads, section 1.10; REPLAN, section 7.7): a handle
that no occupied slot holds is answered NO_STEM, a record the request is not accepted on WRONG_STATE, and nothing changes.
The record a held handle names is one that has this handle. -/
def Obligations.StemRequestsCheckHandleAndState : Prop :=
  ∀ (s : State) (i : Instr) (tag : Byte) (q : Request) (h : Half) (accepts : StemRecord → Bool),
    i.request? = some (tag, q) → onRecord? q = some (h, accepts) → s.busIdle →
    ((∀ k r, s.record? k = some r → r.handle ≠ h.toNat) →
      exec i s = .next (s.answered q.code tag ⟨.noStem, []⟩)) ∧
    (∀ k r, s.record? k = some r → r.handle = h.toNat → (s.findRecord h.toNat).isSome) ∧
    ∀ k r, s.findRecord h.toNat = some (k, r) → s.record? k = some r ∧ r.handle = h.toNat ∧
      (accepts r = false → exec i s = .next (s.answered q.code tag ⟨.wrongState, []⟩))

/-- The reads of the Stem Table (R24 to R26, R188) change nothing: LIST_STEMS answers with the number of FREE slots and an entry
for each occupied slot, ascending; a read of a held record is accepted in every state of the record, each answer with its head
and entries, READ_STEM with every field of R5 that is no list, and RANGE for an operand out of range. What READ_STEM carries
for an absent item, and the count before LIST_STEMS' entries, is the model's choice of log 15. -/
def Obligations.StemReadsAnswer : Prop :=
  (∀ (s : State) (tag : Byte), s.busIdle →
    exec (.listStems tag) s = .next (s.answered 32 tag ⟨.ok,
      let held := (List.range 8).filterMap fun i => (s.record? i).map fun r => (i, r)
      u8 (8 - held.length) ++ u8 held.length ++ held.flatMap fun p =>
        u8 p.1 ++ u16 p.2.handle ++ u8 p.2.state.number ++ u8 ((p.2.endReason.map EndReason.number).getD 255) ++
          u8 p.2.fellingOrder ++ u8 ((p.2.role.map Role.number).getD 255) ++ u8 p.2.pieces.length⟩)) ∧
  ∀ (s : State) (tag : Byte) (h : Half) (a b : Byte) (k : Nat) (r : StemRecord), s.busIdle →
    s.findRecord h.toNat = some (k, r) →
    exec (.readStem tag h) s = .next (s.answered 33 tag ⟨.ok,
      u16 r.handle ++ u8 r.state.number ++ u8 ((r.endReason.map EndReason.number).getD 255) ++ u8 r.species ++
        u8 r.fellingOrder ++ u8 ((r.role.map Role.number).getD 255) ++ u16 (r.butt.getD 65535) ++ u16 r.profileStep ++
        u8 ((r.override.map (·.assortment)).getD 255) ++ u16 ((r.override.map (·.nominal)).getD 65535) ++
        u8 (if r.frozen then 1 else 0) ++ u8 (if r.updateMode = .immediate then 0 else 1) ++
        u16 r.topWatch.threshold ++ u8 (if r.topWatch.mode = .fall then 0 else 1) ++
        u8 (if r.topWatch.armed then 1 else 0) ++ u8 (if r.topWatch.origin = .default then 0 else 1) ++
        u8 r.missedSamples ++ u8 r.disputedWindows ++ u8 r.lengthSummary.number ++ i32 r.furthest ++ u32 r.planValue ++
        u8 r.lastPass ++ u8 r.profile.length ++ u8 r.plan.length ++
        (match r.pendingPlan with
          | some p => u8 1 ++ u8 p.pieces.length
          | none => u8 0) ++
        u8 r.pieces.length⟩) ∧
    (exec (.readProfile tag h a b) s = .next (s.answered 34 tag
      (if 1 ≤ b.toNat ∧ b.toNat ≤ 32 ∧ a.toNat ≤ r.profile.length then
        ⟨.ok, u16 r.handle ++ u8 r.profile.length ++ u16 r.profileStep ++ [a] ++
          u8 (min b.toNat (r.profile.length - a.toNat)) ++
          ((r.profile.drop a.toNat).take b.toNat).flatMap Sample.bytes⟩
      else ⟨.range, []⟩))) ∧
    (a = 0 → exec (.readPlan tag h a) s = .next (s.answered 35 tag
      ⟨.ok, u16 r.handle ++ u32 r.planValue ++ u8 r.lastPass ++ u8 r.plan.length ++ r.plan.flatMap PlanPiece.bytes⟩)) ∧
    (a = 1 → ∀ p, r.pendingPlan = some p → exec (.readPlan tag h a) s = .next (s.answered 35 tag
      ⟨.ok, u16 r.handle ++ [1] ++ u8 p.pieces.length ++ p.pieces.flatMap PlanPiece.bytes⟩)) ∧
    (a = 1 → r.pendingPlan = none →
      exec (.readPlan tag h a) s = .next (s.answered 35 tag ⟨.ok, u16 r.handle ++ [0]⟩)) ∧
    (1 < a.toNat → exec (.readPlan tag h a) s = .next (s.answered 35 tag ⟨.range, []⟩)) ∧
    exec (.readPieces tag h) s = .next (s.answered 36 tag
      ⟨.ok, u16 r.handle ++ u8 r.pieces.length ++ r.pieces.flatMap Piece.bytes⟩)

/-- The layouts of R188 and R189 lose nothing: from the bytes of a sample, a plan piece or a piece with its items in
range (and, for positions, in the range the u16 holds) every item is read back; and a written entry reads back as bytes
1..39 of its own layout, with 0 in the slots beyond its length count. The forms of R187 of which every other answer and
notice is put together lose nothing either: numbers, optional items and lists, words numbered from 0 in their rule's order;
and a MEASURE_RESULT carries its items so, the channels as an optional list (absent ones are log 14's). -/
def Obligations.LayoutsReadBack : Prop :=
  ((∀ n, n < 256 → (u8 n).map BitVec.toNat = [n]) ∧
    (∀ n rest, n < 65536 → (u16 n).length = 2 ∧ (halfAt (u16 n ++ rest) 0).toNat = n) ∧
    (∀ n rest, n < 4294967296 → (u32 n).length = 4 ∧ (halfAt (u32 n ++ rest) 2 ++ halfAt (u32 n ++ rest) 0).toNat = n) ∧
    (∀ (z : Int) rest, -2147483648 ≤ z → z < 2147483648 → (i32 z).length = 4 ∧
      (halfAt (i32 z ++ rest) 2 ++ halfAt (i32 z ++ rest) 0).toInt = z) ∧
    (∀ z : Int, 0 ≤ z → z < 65536 → posU16 z = u16 z.toNat ∧ optPosU16 (some z) = u16 z.toNat) ∧
    (optU8 none, optU16 none, optU32 none, optPosU16 none, optI32 none) =
      ([255], [255, 255], [255, 255, 255, 255], [255, 255], [0, 0, 0, 128]) ∧
    (∀ entries, listBytes entries = u8 entries.length ++ entries.flatten ∧
      optListBytes (some entries) = [1] ++ u8 entries.length ++ entries.flatten) ∧ optListBytes none = [0]) ∧
  (([StemState.felling, .held, .processing, .closed, .abandoned].map StemState.number = List.range 5) ∧
    ([EndReason.topped, .fellOut, .released, .dropped, .fellFailed].map EndReason.number = List.range 5) ∧
    ([Role.lead, .member].map Role.number = List.range 2) ∧
    ([SourceSummary.wheelOnly, .mixed, .rollerOnly].map SourceSummary.number = List.range 3) ∧
    ([UpdateMode.immediate, .atStop].map UpdateMode.number = List.range 2) ∧
    ([WatchMode.fall, .every].map WatchMode.number = List.range 2) ∧
    ([WatchOrigin.default, .set].map WatchOrigin.number = List.range 2) ∧
    ([WatchDirection.falling, .rising].map WatchDirection.number = List.range 2) ∧
    ([PieceKind.plannedCut, .overrideCut, .operatorCut, .wasteCut].map PieceKind.number = List.range 4) ∧
    ([GroupState.empty, .held, .processing].map GroupState.number = List.range 3) ∧
    ([SwapOccasion.atRequest, .atSafePoint].map SwapOccasion.number = List.range 2) ∧
    ([InstallOccasion.direct, .fromPending].map InstallOccasion.number = List.range 2) ∧
    ([SourceState.wheel, .disputed, .roller, .rejoin].map SourceState.number = List.range 4) ∧
    ([SourceCause.disputes, .agreements, .contactLost, .wheelFault, .datum].map SourceCause.number = List.range 5) ∧
    ([SeqState.idle, .felling, .holding, .waiting, .feeding, .creeping, .settling, .reversing, .atTarget, .cutting,
      .sawReturn, .paused, .halted].map SeqState.number = List.range 13) ∧
    ([PauseReason.stopRequest, .planDone, .sawTimeout, .sawNotHome, .feedStall, .haltReleased].map PauseReason.number =
      List.range 6) ∧
    ([CutKind.planned, .offPlan].map CutKind.number = List.range 2) ∧
    ([SawFaultCause.fellTimeout, .cutTimeout, .homeTimeout].map SawFaultCause.number = List.range 3) ∧
    ([PassOutcome.none, .discarded, .stale, .late, .installed, .held].map PassOutcome.number = List.range 6) ∧
    ([Mask.knives, .rollers, .both].map Mask.code = [1, 2, 3]) ∧
    ([Status.ok, .clamped, .pending, .accepted, .busy, .full, .noStem, .wrongState, .locked, .range, .order, .frozen,
      .notConfigured, .notReady, .sawNotHome, .swapPending, .segmentError, .unknownRequest].map Status.code =
      List.range 18)) ∧
  (∀ (tag : Byte) (mask : Mask) (n : Nat) (m : MeasureReport),
    (Notice.measureResult tag mask n (some m)).payload =
      [0, tag] ++ u8 mask.code ++ u8 n ++ u16 m.settle ++ [1] ++ u8 m.channels.length ++
        (m.channels.flatMap fun c => u16 c.average ++ u16 c.contribution ++ [if c.armLimit then 1 else 0]) ++
        u16 (m.knifePair.getD 65535) ++ u16 (m.rollerPair.getD 65535) ++ u16 m.result ++
        u8 ((if m.disagree then 1 else 0) + (if m.armLimit then 2 else 0)) ∧
    (Notice.measureResult tag mask n none).payload =
      [1, tag] ++ u8 mask.code ++ u8 n ++ [255, 255] ++ [0] ++ [255, 255, 255, 255, 255, 255] ++ [255]) ∧
  (∀ e : EntryImage, EntryImage.rangesOk e = true →
    (EntryImage.assortment e).bytes =
      { e with lengthSlots := Vector.ofFn fun i => if i.val < e.lengthCount.toNat then e.lengthSlots[i] else 0 }.bytes ∧
    (EntryImage.assortment e).bytes.length = 39) ∧
  (∀ p : Sample, p.position ≤ 60000 → p.diameter ≤ 999 → (∀ e, p.envelope = some e → e ≤ 999) →
    (p.averaging = 1 ∨ p.averaging = 2 ∨ p.averaging = 4 ∨ p.averaging = 8) →
    p.bytes.length = 7 ∧ (halfAt p.bytes 0).toNat = p.position ∧ (halfAt p.bytes 2).toNat = p.diameter ∧
    (halfAt p.bytes 4).toNat = p.envelope.getD 65535 ∧
    (let b := byteAt p.bytes 6
     [b.getLsbD 0, b.getLsbD 1, b.getLsbD 2, b.getLsbD 3, b.getLsbD 4, b.getLsbD 5] =
        [p.flags.butt, p.flags.disagree, p.flags.armLimit, p.flags.slipSuspect, p.flags.rollerLen, p.flags.estimated] ∧
      p.averaging = 2 ^ (b.extractLsb' 6 2).toNat)) ∧
  (∀ p : PlanPiece, p.assortment ≤ 31 → p.nominal ≤ 9900 → 0 ≤ p.cutPosition → p.cutPosition ≤ 65535 →
    p.topDiameter ≤ 999 → p.value < 4294967296 →
    p.bytes.length = 12 ∧ (byteAt p.bytes 0).toNat = p.assortment ∧ (halfAt p.bytes 1).toNat = p.nominal ∧
    ((halfAt p.bytes 3).toNat : Int) = p.cutPosition ∧ (halfAt p.bytes 5).toNat = p.topDiameter ∧
    (halfAt p.bytes 9 ++ halfAt p.bytes 7).toNat = p.value ∧
    (byteAt p.bytes 11).toNat =
      (if p.status = .committed then 1 else 0) + (if p.source = .override then 2 else 0)) ∧
  ∀ p : Piece, (∀ a, p.assortment = some a → a ≤ 31) → 0 ≤ p.cutPosition → p.cutPosition ≤ 65535 → 0 ≤ p.actual →
    p.actual ≤ 65535 → (∀ n, p.nominal = some n → n ≤ 9900) → (∀ e, p.lengthError = some e → e.natAbs ≤ 70000) →
    p.topDiameter ≤ 999 → (∀ v, p.value = some v → v < 4294967295) →
    p.bytes.length = 19 ∧ (byteAt p.bytes 0).toNat = p.kind.number ∧ (byteAt p.bytes 1).toNat = p.assortment.getD 255 ∧
    ((halfAt p.bytes 2).toNat : Int) = p.cutPosition ∧ ((halfAt p.bytes 4).toNat : Int) = p.actual ∧
    (halfAt p.bytes 6).toNat = p.nominal.getD 65535 ∧
    (halfAt p.bytes 10 ++ halfAt p.bytes 8).toInt = p.lengthError.getD (-2147483648) ∧
    (halfAt p.bytes 12).toNat = p.topDiameter ∧
    (halfAt p.bytes 16 ++ halfAt p.bytes 14).toNat = p.value.getD 4294967295 ∧
    (byteAt p.bytes 18).toNat = (if p.flags.overshoot then 1 else 0) + (if p.flags.slipSuspect then 2 else 0) +
      (if p.flags.rollerLen then 4 else 0)

/-- SET_SPECIES (R8): the species is stored and no other field changes, but for a top watch threshold of origin DEFAULT on a
PROCESSING record, and there a pass is requested; an equal species changes nothing, one outside 0..15 is answered RANGE. The
default threshold is the smallest min top diameter of an ACTIVE entry whose mask includes the species, or 0 (R22). -/
def Obligations.SetSpeciesStores : Prop :=
  (∀ (s : State) (tag : Byte) (h : Half) (species : Byte) (k : Nat) (r : StemRecord), s.busIdle →
    s.findRecord h.toNat = some (k, r) →
    let run := exec (.setSpecies tag h species) s
    let watch : TopWatch := if r.topWatch.origin = .default then
      { r.topWatch with threshold := s.defaultThreshold species.toNat } else r.topWatch
    (r.inGroup = true → 15 < species.toNat → run = .next (s.answered 37 tag ⟨.range, []⟩)) ∧
    (r.inGroup = true → species.toNat ≤ 15 → species.toNat = r.species → run = .next (s.answered 37 tag ⟨.ok, []⟩)) ∧
    (r.state = .held → species.toNat ≤ 15 → species.toNat ≠ r.species →
      run = .next ((s.setSlot k (some { r with species := species.toNat })).answered 37 tag ⟨.ok, []⟩)) ∧
    (r.state = .processing → species.toNat ≤ 15 → species.toNat ≠ r.species → ∃ b : BuckingEngine, s.Asks b ∧
      run = .next (State.answered
        { s.setSlot k (some { r with species := species.toNat, topWatch := watch }) with bke := b } 37 tag ⟨.ok, []⟩))) ∧
  ∀ (s : State) (species : Nat),
    (∀ (i : Fin 32) (e : Assortment), s.atb.active[i] = some e → e.speciesMask.getLsbD species = true →
      s.defaultThreshold species ≤ e.minTop) ∧
    ((∃ (i : Fin 32) (e : Assortment), s.atb.active[i] = some e ∧ e.speciesMask.getLsbD species = true ∧
        e.minTop = s.defaultThreshold species) ∨
      (s.defaultThreshold species = 0 ∧
        ∀ (i : Fin 32) (e : Assortment), s.atb.active[i] = some e → e.speciesMask.getLsbD species = false))

/-- SET_OVERRIDE and CLEAR_OVERRIDE on the lead (R19): only the override changes, and a pass is requested; RANGE for an entry
that is not DEFINED in ACTIVE or a length it does not allow; a clear with no override changes nothing. -/
def Obligations.OverrideSetAndCleared : Prop :=
  ∀ (s : State) (tag : Byte) (h : Half) (number : Byte) (length : Half) (k : Nat) (r : StemRecord), s.busIdle →
    s.findRecord h.toNat = some (k, r) → s.lead? = some (k, r) → r.state = .processing →
    let set := exec (.setOverride tag h number length) s
    let clear := exec (.clearOverride tag h) s
    (31 < number.toNat → set = .next (s.answered 38 tag ⟨.range, []⟩)) ∧
    (∀ i : Fin 32, i.val = number.toNat →
      (s.atb.active[i] = none → set = .next (s.answered 38 tag ⟨.range, []⟩)) ∧
      ∀ e, s.atb.active[i] = some e →
        (length.toNat ∉ e.lengths → set = .next (s.answered 38 tag ⟨.range, []⟩)) ∧
        (length.toNat ∈ e.lengths → ∃ b : BuckingEngine, s.Asks b ∧
          set = .next (State.answered
            { s.setSlot k (some { r with override := some ⟨number.toNat, length.toNat⟩ }) with bke := b } 38 tag
            ⟨.ok, []⟩))) ∧
    (r.override = none → clear = .next (s.answered 39 tag ⟨.ok, []⟩)) ∧
    (r.override ≠ none → ∃ b : BuckingEngine, s.Asks b ∧
      clear = .next (State.answered { s.setSlot k (some { r with override := none }) with bke := b } 39 tag ⟨.ok, []⟩))

/-- FREEZE_PLAN and THAW_PLAN on the lead (R20, R126): a freeze discards the pending plan, marks the lead's pass in flight
void and clears the pass-pending flag; a thaw requests a pass; neither changes anything on a lead that stands so already. The
case of a pass in flight of another lead is the model's reading (log 20) and not stated. -/
def Obligations.FreezeAndThaw : Prop :=
  ∀ (s : State) (tag : Byte) (h : Half) (k : Nat) (r : StemRecord), s.busIdle →
    s.findRecord h.toNat = some (k, r) → s.lead? = some (k, r) → r.state = .processing →
    (r.frozen = true → exec (.freezePlan tag h) s = .next (s.answered 40 tag ⟨.ok, []⟩)) ∧
    (r.frozen = false → (∀ p, s.bke.inFlight = some p → p.lead = r.handle) →
      exec (.freezePlan tag h) s = .next (State.answered
        { s.setSlot k (some { r with frozen := true, pendingPlan := none }) with
          bke := { s.bke with inFlight := s.bke.inFlight.map fun p => { p with void := true }, flag := false } }
        40 tag ⟨.ok, []⟩)) ∧
    (r.frozen = false → exec (.thawPlan tag h) s = .next (s.answered 41 tag ⟨.ok, []⟩)) ∧
    (r.frozen = true → ∃ b : BuckingEngine, BuckingEngine.Asked s.bke b ∧
      exec (.thawPlan tag h) s =
        .next (State.answered { s.setSlot k (some { r with frozen := false }) with bke := b } 41 tag ⟨.ok, []⟩))

/-- SET_UPDATE_MODE (R21) and SET_TOP_WATCH (R22) on a record of the group. Into AT_STOP only the mode changes; into IMMEDIATE
the pending plan goes too, and on the lead a pass is requested; the present mode changes nothing. The watch takes its threshold
with the origin, its mode, and armed; 65535 asks for the default threshold (R187). Values out of range are answered RANGE. -/
def Obligations.ModeAndWatchSet : Prop :=
  ∀ (s : State) (tag : Byte) (h : Half) (mode : Byte) (threshold : Half) (k : Nat) (r : StemRecord), s.busIdle →
    s.findRecord h.toNat = some (k, r) → r.inGroup = true →
    let run := exec (.setUpdateMode tag h mode) s
    let watch := exec (.setTopWatch tag h threshold mode) s
    let m : WatchMode := if mode = 0 then .fall else .every
    (1 < mode.toNat → run = .next (s.answered 42 tag ⟨.range, []⟩)) ∧
    (mode = 0 → r.updateMode = .immediate → run = .next (s.answered 42 tag ⟨.ok, []⟩)) ∧
    (mode = 1 → r.updateMode = .atStop → s.record? k = some r → run = .next (s.answered 42 tag ⟨.ok, []⟩)) ∧
    (mode = 1 → run =
      .next ((s.setSlot k (some { r with updateMode := .atStop })).answered 42 tag ⟨.ok, []⟩)) ∧
    (mode = 0 → r.updateMode = .atStop → r.leads = false → run =
      .next ((s.setSlot k (some { r with updateMode := .immediate, pendingPlan := none })).answered 42 tag ⟨.ok, []⟩)) ∧
    (mode = 0 → r.updateMode = .atStop → r.leads = true → ∃ b : BuckingEngine, s.Asks b ∧ run =
      .next (State.answered
        { s.setSlot k (some { r with updateMode := .immediate, pendingPlan := none }) with bke := b } 42 tag ⟨.ok, []⟩)) ∧
    ((1 < mode.toNat ∨ (999 < threshold.toNat ∧ threshold ≠ 65535)) → watch = .next (s.answered 44 tag ⟨.range, []⟩)) ∧
    (mode.toNat ≤ 1 → threshold.toNat ≤ 999 → watch =
      .next ((s.setSlot k (some { r with topWatch := ⟨threshold.toNat, m, true, .set⟩ })).answered 44 tag ⟨.ok, []⟩)) ∧
    (mode.toNat ≤ 1 → threshold = 65535 → watch =
      .next ((s.setSlot k (some { r with topWatch := ⟨s.defaultThreshold r.species, m, true, .default⟩ })).answered 44 tag
        ⟨.ok, []⟩))

/-- REPLAN (R124, R125, R135): FROZEN on a frozen lead, else a pass is requested; with none in flight it starts at once, under
the counter's number, on a snapshot of what R99 lists. RETIRE_STEM (R27) frees the slot of a closed or abandoned record and
changes nothing else. -/
def Obligations.ReplanAndRetire : Prop :=
  ∀ (s : State) (tag : Byte) (h : Half) (k : Nat) (r : StemRecord), s.busIdle → s.findRecord h.toNat = some (k, r) →
    (r.state = .processing → r.role = some .lead → r.frozen = true →
      exec (.replan tag h) s = .next (s.answered 43 tag ⟨.frozen, []⟩)) ∧
    (r.state = .processing → r.frozen = false → s.lead? = some (k, r) →
      (s.bke.inFlight ≠ none → exec (.replan tag h) s =
        .next (State.answered { s with bke.flag := true } 43 tag ⟨.ok, []⟩)) ∧
      (s.bke.inFlight = none → ∃ q : Snapshot, exec (.replan tag h) s =
          .next (State.answered { s with bke := { s.bke with
            inFlight := some ⟨s.bke.counter, r.handle, q, false⟩, counter := (s.bke.counter + 1) % 256, flag := false } }
            43 tag ⟨.ok, []⟩) ∧
        (q.length, q.slowDistance, q.leadMargin, q.taperWindow) =
          (s.lnu.length, s.params.slowDistance, s.params.leadMargin, s.params.taperWindow) ∧
        (q.pieceCount = r.pieces.length ∧ q.lastCut = r.pieces.getLast?.map (·.cutPosition) ∧ q.bank = s.atb.active) ∧
        (∀ p rest, r.plan = p :: rest → p.status = .committed → q.committed = some p ∧
          q.override = if p.source = .override then none else r.override) ∧
        ((∀ p rest, r.plan = p :: rest → p.status = .planned) → q.committed = none ∧ q.override = r.override) ∧
        q.members = (s.stb.group.filterMap s.record?).map fun m =>
          ⟨m.species, m.fellingOrder, decide (m.role = some .lead), m.profile.map fun p => (p.position, p.diameter),
            (s.atb.taper[m.species]?).getD ⟨4, 10, 20⟩⟩)) ∧
    (r.state = .closed ∨ r.state = .abandoned →
      exec (.retireStem tag h) s = .next ((s.setSlot k none).answered 45 tag ⟨.ok, []⟩))

/-- Every step keeps the law of handles: no two occupied slots share one, and the next-handle counter rests on a value in
1..65535 that no occupied slot holds (R2). -/
def Obligations.HandleLawKept : Prop := Kept State.HandleLaw

/-! ### Operating requests (chapter 8, sections 8.2 to 8.6; chapter 2) -/

/-- An accepted FELL (R1, R2, R5, R142): a record at its opening values in the lowest FREE slot, the next handle, a TRIM
request that waits or starts, FELLING with the saw timer, and FCS_STATE; nothing else changes. Which of the answer and
the notice a free transmitter sends first is log 7. -/
def Obligations.FellOpensRecord : Prop :=
  ∀ (s : State) (tag species : Byte) (k : Nat), s.busIdle → s.fcs.state = .idle ∨ s.fcs.state = .holding →
    species.toNat ≤ 15 → (∀ (c : Channel) (i : Fin 9), (s.dsq.table c)[i].isSome) → s.params.wheelConstant ≠ 0 →
    s.params.rollerConstant ≠ 0 → (∃ i : Fin 32, s.atb.active[i].isSome) → k < 8 → s.record? k = none →
    (∀ j, j < k → (s.record? j).isSome) → s.stb.group.length < 4 → s.dsq.trimPending = none → s.dsq.stateNumber ≠ 2 →
    s.lines.sawHome.accepted = true → s.groupState ≠ .processing → ∃ (u : State) (next n : Nat),
    let handle := s.stb.nextHandle
    let advance : Nat → Nat := fun h => if h = 65535 then 1 else h + 1
    let opened := s.setSlot k (some
      { handle := handle, state := .felling, endReason := none, species := species.toNat
        fellingOrder := s.stb.group.length + 1, role := none, butt := none, profile := []
        profileStep := s.params.profileStep, plan := [], pendingPlan := none, pieces := [], override := none
        frozen := false, updateMode := .immediate, topWatch := ⟨0, .fall, true, .default⟩, missedSamples := 0
        disputedWindows := 0, lengthSummary := .wheelOnly, furthest := 0, planValue := 0, lastPass := 0 })
    exec (.fell tag species) s = .next (u.answered 48 tag ⟨.ok, []⟩) ∧
    (n ≤ 8 ∧ next = advance^[n + 1] handle ∧ opened.holdsHandle next = false ∧
      ∀ m, m < n → opened.holdsHandle (advance^[m + 1] handle) = true) ∧
    (s.dsq.running.isSome → u = State.told
      { opened with
        stb.nextHandle := next
        dsq.trimPending := some ⟨k, handle⟩
        fcs := { s.fcs.resting .felling with sawTimer := some 0 } }
      [.fcsState s.fcs.state .felling none s.lnu.length none]) ∧
    (s.dsq.running = none → s.dsq.feedPending = none → u = State.told
      { opened with
        stb.nextHandle := next
        dsq.running := some ⟨.trim ⟨k, handle⟩, s.params.trimMask, s.params.trimAvg, s.params.sensorSettle,
          if s.params.trimMask = .rollers then .frl else .ukl, [], []⟩
        fcs := { s.fcs.resting .felling with sawTimer := some 0 } }
      [.fcsState s.fcs.state .felling none s.lnu.length none])

/-- FELL's checks (R142) in their order: state, species, configured state (R173), room, butt measurement, saw. The first that
fails gives the answer, and nothing changes. -/
def Obligations.FellChecksInOrder : Prop :=
  ∀ (s : State) (tag species : Byte), s.busIdle →
    let run := exec (.fell tag species) s
    let inState := s.fcs.state = .idle ∨ s.fcs.state = .holding
    let configured := (∀ (c : Channel) (i : Fin 9), (s.dsq.table c)[i].isSome) ∧ s.params.wheelConstant ≠ 0 ∧
      s.params.rollerConstant ≠ 0 ∧ ∃ i : Fin 32, s.atb.active[i].isSome
    let room := (∃ k, k < 8 ∧ s.record? k = none) ∧ s.stb.group.length < 4
    let free := s.dsq.trimPending = none ∧ s.dsq.stateNumber ≠ 2
    (¬inState → run = .next (s.answered 48 tag ⟨.wrongState, []⟩)) ∧
    (inState → 15 < species.toNat → run = .next (s.answered 48 tag ⟨.range, []⟩)) ∧
    (inState → species.toNat ≤ 15 → ¬configured → run = .next (s.answered 48 tag ⟨.notConfigured, []⟩)) ∧
    (inState → species.toNat ≤ 15 → configured → ¬room → run = .next (s.answered 48 tag ⟨.full, []⟩)) ∧
    (inState → species.toNat ≤ 15 → configured → room → ¬free → run = .next (s.answered 48 tag ⟨.busy, []⟩)) ∧
    (inState → species.toNat ≤ 15 → configured → room → free → s.lines.sawHome.accepted = false →
      run = .next (s.answered 48 tag ⟨.sawNotHome, []⟩))

/-- FEED in HOLDING (R32 to R34, R51) on a group of felled records: SAW_NOT_HOME, then NOT_READY; else the group starts.
The earliest felled of the largest butts leads, each member takes its fields, the datum is set, a pass is requested, and
the sequencer waits for it; the notices of the datum and of the change follow in this order. Nothing else changes. Which
of the answer and the first notice a free transmitter sends first is log 7. -/
def Obligations.FeedStartsGroup : Prop :=
  ∀ (s : State) (tag : Byte), s.busIdle → s.fcs.state = .holding → s.StemLaw →
    let run := exec (.feed tag) s
    let source : SourceState := if s.lines.wheelContact.accepted then .wheel else .roller
    (s.lines.sawHome.accepted = false → run = .next (s.answered 49 tag ⟨.sawNotHome, []⟩)) ∧
    (s.lines.sawHome.accepted = true → (∃ m ∈ s.members, m.2.butt = none) →
      run = .next (s.answered 49 tag ⟨.notReady, []⟩)) ∧
    (s.lines.sawHome.accepted = true → (∀ m ∈ s.members, m.2.butt ≠ none) → ∃ (u : State) (lead : Nat),
      run = .next (u.answered 49 tag ⟨.ok, []⟩) ∧
      (∃ before after r, s.members = before ++ (lead, r) :: after ∧
        (∀ m ∈ before, m.2.butt.getD 0 < r.butt.getD 0) ∧ ∀ m ∈ after, m.2.butt.getD 0 ≤ r.butt.getD 0) ∧
      (∀ i r, i ∈ s.stb.group → s.record? i = some r → u.record? i = some { r with
        state := .processing
        role := some (if i = lead then .lead else .member)
        profileStep := s.params.profileStep
        furthest := 0
        topWatch := if r.topWatch.origin = .default then
          { r.topWatch with threshold := s.defaultThreshold r.species } else r.topWatch
        lengthSummary := if s.lines.wheelContact.accepted then .wheelOnly else .rollerOnly }) ∧
      (∀ i, i ∉ s.stb.group → u.record? i = s.record? i) ∧
      u.stb.group = s.stb.group ∧ u.stb.nextHandle = s.stb.nextHandle ∧
      u.lnu = ⟨0, 0, 0, 0, false, source, 0, ⟨0, 0, 0, 0, 0, s.params.slipWindow⟩, 0, 0, false, false, false,
        s.params.profileStep, false, !s.lines.wheelContact.accepted⟩ ∧
      BuckingEngine.Asked s.bke u.bke ∧ u.fcs = s.fcs.resting .waiting ∧
      u.lines = s.lines ∧ u.dsq = s.dsq ∧ u.atb = s.atb ∧ u.params = s.params ∧ u.pending = s.pending ∧
      u.hbp = (s.told ((if s.lnu.source = source then [] else [.lengthSource s.lnu.source source .datum 0]) ++
        [.fcsState .holding .waiting none 0 none])).hbp)

/-- FEED in PAUSED (R145, R147, R148), with no pending plan: the saw must be home; with a plan the feed runs to its
first piece, and where that is near or reached already the piece is committed and the feed creeps or settles at once;
with no plan it waits for an outstanding pass, or is refused. Each change has its FCS_STATE; nothing else changes. Which
of the answer and the first notice a free transmitter sends first is log 7. -/
def Obligations.FeedResumes : Prop :=
  ∀ (s : State) (tag : Byte) (k : Nat) (r : StemRecord), s.busIdle → s.fcs.state = .paused → s.lead? = some (k, r) →
    s.record? k = some r → r.pendingPlan = none → s.stb.group.Nodup →
    let run := exec (.feed tag) s
    let len := s.lnu.length
    let slow : Int := s.params.slowDistance
    (s.lines.sawHome.accepted = false → run = .next (s.answered 49 tag ⟨.sawNotHome, []⟩)) ∧
    (s.lines.sawHome.accepted = true → r.plan = [] → s.bke.inFlight = none → s.bke.flag = false →
      run = .next (s.answered 49 tag ⟨.wrongState, []⟩)) ∧
    (s.lines.sawHome.accepted = true → r.plan = [] → s.bke.inFlight ≠ none ∨ s.bke.flag = true →
      run = .next (State.answered (State.told { s with fcs := s.fcs.resting .waiting }
        [.fcsState .paused .waiting none len none]) 49 tag ⟨.ok, []⟩)) ∧
    ∀ p rest, s.lines.sawHome.accepted = true → r.plan = p :: rest →
      let t := some p.cutPosition
      let fed := .fcsState .paused .feeding none len t
      let crept := .fcsState .feeding .creeping none len t
      let settled := .fcsState .creeping .settling none len t
      let piece := s.setSlot k (some { r with plan := { p with status := .committed } :: rest })
      let f := if p.status = .planned then { s.fcs with reversals := 0, overshoot := false } else s.fcs
      (len < p.cutPosition - slow → run = .next (State.answered
        (State.told { s with fcs := s.fcs.feedingFrom .feeding len } [fed]) 49 tag ⟨.ok, []⟩)) ∧
      (p.cutPosition - slow ≤ len → len < p.cutPosition → run = .next (State.answered
        (State.told { piece with fcs := f.feedingFrom .creeping len } [fed, crept]) 49 tag ⟨.ok, []⟩)) ∧
      (p.cutPosition - slow ≤ len → p.cutPosition ≤ len → run = .next (State.answered
        (State.told { piece with fcs := { f.settles with stallReference := len } } [fed, crept, settled]) 49 tag
        ⟨.ok, []⟩))

/-- STOP by the present state (R144, R157), with no pending plan: PAUSED from feeding, settling and waiting; SAW_RETURN
with the stopped mark from CUTTING, which ends in PAUSED at once when the saw is home; from FELLING the record is
abandoned. What belongs to the piece stays, and nothing else changes. Which of the answer and the first notice a free
transmitter sends first is log 7. -/
def Obligations.StopByState : Prop :=
  ∀ (s : State) (tag : Byte), s.busIdle → s.noPending →
    let run := exec (.stop tag) s
    let len := s.lnu.length
    (s.fcs.state = .feeding ∨ s.fcs.state = .creeping ∨ s.fcs.state = .reversing ∨ s.fcs.state = .settling ∨
        s.fcs.state = .waiting →
      run = .next (State.answered (State.told { s with fcs := s.fcs.pausedBy .stopRequest }
        [.fcsState s.fcs.state .paused (some .stopRequest) len s.target?]) 50 tag ⟨.ok, []⟩)) ∧
    (s.fcs.state = .cutting → s.lines.sawHome.accepted = false →
      run = .next (State.answered (State.told { s with fcs := { s.fcs.returns with stopped := true } }
        [.fcsState .cutting .sawReturn none len s.target?]) 50 tag ⟨.ok, []⟩)) ∧
    (s.fcs.state = .cutting → s.lines.sawHome.accepted = true →
      run = .next (State.answered (State.told { s with fcs := { s.fcs.pausedBy .stopRequest with stopped := false } }
        [.fcsState .cutting .sawReturn none len s.target?,
          .fcsState .sawReturn .paused (some .stopRequest) len s.target?]) 50 tag ⟨.ok, []⟩)) ∧
    ∀ k r, s.fcs.state = .felling → s.StemLaw → s.record? k = some r → r.state = .felling →
      let st : SeqState := if s.stb.group = [] then .idle else .holding
      run = .next (State.answered
        (State.told { s.setSlot k (some (r.ended .abandoned .fellFailed)) with fcs := s.fcs.resting st }
          [.stemClosed r.handle .abandoned .fellFailed 0 0, .fcsState .felling st none len none]) 50 tag ⟨.ok, []⟩)

/-- CUT and CUT_HERE (R152, R153, R155): their checks in order, each refusal changing nothing, and the start of a
PLANNED or OFF_PLAN cut: CUTTING, the kind, no stopped mark, the saw timer and FCS_STATE, and nothing else. Which of the
answer and the notice a free transmitter sends first is log 7. -/
def Obligations.CutsStart : Prop :=
  ∀ (s : State) (tag : Byte), s.busIdle →
    let len := s.lnu.length
    let cut := exec (.cut tag) s
    let here := exec (.cutHere tag) s
    let ready := s.fcs.state = .atTarget ∨ (s.fcs.state = .paused ∧ ∃ k r p rest, s.lead? = some (k, r) ∧
      r.plan = p :: rest ∧ p.status = .committed ∧ (len - p.cutPosition).natAbs ≤ s.params.overshootTol)
    let started (kind : CutKind) := State.told { s with fcs := s.fcs.cuts kind }
      [.fcsState s.fcs.state .cutting none len s.target?]
    (¬ready → cut = .next (s.answered 51 tag ⟨.wrongState, []⟩)) ∧
    (ready → s.lines.sawHome.accepted = false → cut = .next (s.answered 51 tag ⟨.sawNotHome, []⟩)) ∧
    (ready → s.lines.sawHome.accepted = true → cut = .next ((started .planned).answered 51 tag ⟨.ok, []⟩)) ∧
    (s.fcs.state ≠ .paused → s.fcs.state ≠ .atTarget → here = .next (s.answered 52 tag ⟨.wrongState, []⟩)) ∧
    ∀ k r, s.fcs.state = .paused ∨ s.fcs.state = .atTarget → s.lead? = some (k, r) →
      let last : Int := (r.pieces.getLast?.map (·.cutPosition)).getD 0
      (12 ≤ r.pieces.length → here = .next (s.answered 52 tag ⟨.full, []⟩)) ∧
      (r.pieces.length < 12 → len ≤ last → here = .next (s.answered 52 tag ⟨.range, []⟩)) ∧
      (r.pieces.length < 12 → last < len → s.lines.sawHome.accepted = false →
        here = .next (s.answered 52 tag ⟨.sawNotHome, []⟩)) ∧
      (r.pieces.length < 12 → last < len → s.lines.sawHome.accepted = true →
        here = .next ((started .offPlan).answered 52 tag ⟨.ok, []⟩))

/-- DROP and RELEASE (R4, R30, R31, R40, R159). A drop abandons the top record, and an emptied group sends the sequencer
to IDLE. A release closes every record, with a piece CLOSED and without ABANDONED; the end of a PROCESSING group applies
a pending swap, voids the pass, and takes the FEED measurement away, after which the next requester's sequence starts; then
IDLE. The notices come in the order of the rules. That the flag clears whatever pass is in flight is log 20, and which of the
answer and the first notice a free transmitter sends first log 7. -/
def Obligations.DropAndRelease : Prop :=
  ∀ (s : State) (tag : Byte), s.busIdle → s.StemLaw →
    let len := s.lnu.length
    (∀ rest k r, s.fcs.state = .holding → s.stb.group = rest ++ [k] → s.record? k = some r →
      exec (.drop tag) s = .next (State.answered
        (State.told
          { s.setSlot k (some (r.ended .abandoned .dropped)) with
            stb.group := rest
            fcs := if rest = [] then s.fcs.resting .idle else s.fcs }
          (.stemClosed r.handle .abandoned .dropped 0 0 ::
            if rest = [] then [.fcsState .holding .idle none len none] else [])) 53 tag ⟨.ok, []⟩)) ∧
    (s.fcs.state = .holding ∨ s.fcs.state = .paused ∨ s.fcs.state = .atTarget ∨ s.fcs.state = .waiting →
      ∃ u : State, exec (.release tag) s = .next (u.answered 54 tag ⟨.ok, []⟩) ∧
      let ends := s.fcs.state ≠ .holding
      let swaps := ends ∧ s.atb.swapPending = true
      let state (r : StemRecord) : StemState := if r.pieces = [] then .abandoned else .closed
      (∀ i r, i ∈ s.stb.group → s.record? i = some r → u.record? i = some (r.ended (state r) .released)) ∧
      (∀ i, i ∉ s.stb.group → u.record? i = s.record? i) ∧ u.stb.group = [] ∧ u.stb.nextHandle = s.stb.nextHandle ∧
      u.fcs = { s.fcs.resting .idle with stopped := false, reversals := 0, overshoot := false } ∧
      u.atb = (if swaps then { s.atb with active := s.atb.edit, swapPending := false } else s.atb) ∧
      u.bke = (if ends then
        { s.bke with inFlight := s.bke.inFlight.map fun p => { p with void := true }, flag := false } else s.bke) ∧
      (¬ends → u.dsq = s.dsq) ∧
      (ends → s.dsq.stateNumber ≠ 1 → u.dsq = { s.dsq with feedPending := none }) ∧
      (ends → s.dsq.stateNumber = 1 → u.dsq = DiameterSequencer.freed { s.dsq with feedPending := none } s.params) ∧
      u.lnu = s.lnu ∧ u.lines = s.lines ∧ u.params = s.params ∧ u.pending = s.pending ∧
      u.hbp = (s.told
        (s.members.map (fun m => .stemClosed m.2.handle (state m.2) .released m.2.pieces.length m.2.plan.length) ++
          (if swaps then [.banksSwapped .atSafePoint
            (Finset.univ.filter fun i : Fin 32 => s.atb.active[i] ≠ s.atb.edit[i]).card
            (Finset.univ.filter fun i : Fin 32 => s.atb.edit[i].isSome).card s.atb.lockSize] else []) ++
          [.fcsState s.fcs.state .idle none len none])).hbp)

/-- The table of requests by state at the end of section 8.8: where it has a dash the request is answered WRONG_STATE and
changes nothing, so that in HALTED all seven are refused. -/
def Obligations.RequestsRefusedByState : Prop :=
  ∀ (s : State) (tag species : Byte), s.busIdle →
    (s.fcs.state ∉ [.idle, .holding] → exec (.fell tag species) s = .next (s.answered 48 tag ⟨.wrongState, []⟩)) ∧
    (s.fcs.state ∉ [.holding, .paused] → exec (.feed tag) s = .next (s.answered 49 tag ⟨.wrongState, []⟩)) ∧
    (s.fcs.state ∈ [.idle, .holding, .atTarget, .sawReturn, .paused, .halted] →
      exec (.stop tag) s = .next (s.answered 50 tag ⟨.wrongState, []⟩)) ∧
    (s.fcs.state ∉ [.atTarget, .paused] → exec (.cut tag) s = .next (s.answered 51 tag ⟨.wrongState, []⟩)) ∧
    (s.fcs.state ∉ [.atTarget, .paused] → exec (.cutHere tag) s = .next (s.answered 52 tag ⟨.wrongState, []⟩)) ∧
    (s.fcs.state ≠ .holding → exec (.drop tag) s = .next (s.answered 53 tag ⟨.wrongState, []⟩)) ∧
    (s.fcs.state ∉ [.holding, .waiting, .atTarget, .paused] →
      exec (.release tag) s = .next (s.answered 54 tag ⟨.wrongState, []⟩))

/-- Every step keeps the law of the feed group and its records, together with the sequencer's law on which it leans (R3, R6,
R14, R28, R33). -/
def Obligations.StemLawKept : Prop := Kept fun s => s.SequencerLaw ∧ s.StemLaw

/-! ### Diameter measurement (chapter 4) and what the Stem Table makes of it (chapters 1 and 2) -/

/-- CAB_MEASURE (R73, R74): mask and averaging count, then the tables of the selected channels, then the requester, are
checked; an accepted request waits behind a running sequence, or starts at once with the settle time as it stands, and is
answered ACCEPTED. Nothing else changes. -/
def Obligations.CabMeasureStarts : Prop :=
  ∀ (s : State) (tag mask count : Byte), s.busIdle →
    let run := exec (.cabMeasure tag mask count) s
    let n := count.toNat
    let ranges := (1 ≤ mask.toNat ∧ mask.toNat ≤ 3) ∧ (n = 1 ∨ n = 2 ∨ n = 4 ∨ n = 8)
    (¬ranges → run = .next (s.answered 64 tag ⟨.range, []⟩)) ∧
    ∀ m : Mask, m.code = mask.toNat → ranges →
      let complete := ∀ c ∈ m.channels, ∀ i : Fin 9, (s.dsq.table c)[i].isSome
      let free := s.dsq.cabPending = none ∧ s.dsq.stateNumber ≠ 3
      let request : CabRequest := ⟨m, n, tag⟩
      (¬complete → run = .next (s.answered 64 tag ⟨.notConfigured, []⟩)) ∧
      (complete → ¬free → run = .next (s.answered 64 tag ⟨.busy, []⟩)) ∧
      (complete → free → s.dsq.running.isSome →
        run = .next (State.answered { s with dsq.cabPending := some request } 64 tag ⟨.accepted, []⟩)) ∧
      (complete → free → s.dsq.running = none → s.dsq.feedPending = none → s.dsq.trimPending = none →
        run = .next (State.answered
          { s with dsq.running := some ⟨.cab request, m, n, s.params.sensorSettle,
              if m = .rollers then .frl else .ukl, [], []⟩ } 64 tag ⟨.accepted, []⟩))

/-- The completion of a CAB and of a TRIM sequence (R9, R67 to R69, R74, R78, R80). A CAB result is told in
MEASURE_RESULT. A TRIM result becomes the butt diameter and the BUTT sample of its record while that is FELLING or HELD,
and is discarded otherwise. The next pending requester starts, and nothing else changes. That the command carries every
reading is log 11. -/
def Obligations.SequenceResults : Prop :=
  ∀ (s : State) (r : Readings) (q : RunningSequence), s.dsq.running = some q →
    let run := exec (.sequenceComplete r) s
    let d := s.measured q.mask q.averaging r
    let dis := s.disagrees q.mask q.averaging r
    let lim := s.overArm q.mask q.averaging r
    let value := s.contribution q.averaging r
    let freed : State := { s with dsq := s.dsq.freed s.params }
    (∀ c : CabRequest, q.target = .cab c → run = .next (State.transmit (State.told freed
      [.measureResult c.tag c.mask c.averaging (some
        { settle := q.settle
          channels := q.mask.channels.map fun ch =>
            ⟨averageReading r q.averaging ch, value ch, aboveLast (s.dsq.table ch) (averageReading r q.averaging ch)⟩
          knifePair := if q.mask = .rollers then none else some (value .ukl + value .ukr)
          rollerPair := if q.mask = .knives then none else some (value .frl + value .frr)
          result := d
          disagree := dis
          armLimit := lim })]))) ∧
    ∀ t : TrimRequest, q.target = .trim t →
      (∀ m : StemRecord, s.record? t.slot = some m → m.handle = t.handle → m.state = .felling ∨ m.state = .held →
        run = .next (State.transmit (freed.setSlot t.slot (some { m with
          butt := some d
          profile := m.profile ++ [⟨0, d, none, q.averaging, ⟨true, dis, lim, false, false, false⟩⟩] })))) ∧
      ((∀ m, s.record? t.slot = some m → m.handle ≠ t.handle ∨ (m.state ≠ .felling ∧ m.state ≠ .held)) →
        run = .next (State.transmit freed))

/-- The completion of a FEED sequence (R10, R11, R23, R35 to R40), step by step, in every state of the feed group that
its law allows: discarded without a PROCESSING group, missed at a position not beyond the lead's last sample; else
thinning, the split and the sample in every member, top watch, and then either the stem end with its group end, or
drop-outs and the request for a pass. The notices come in this order, and nothing else changes. That the command carries
every reading is log 11, and that the flag clears at the group end whatever pass is in flight log 20. -/
def Obligations.FeedResult : Prop :=
  ∀ (s : State) (r : Readings) (q : RunningSequence) (f : FeedRequest), s.dsq.running = some q → q.target = .feed f →
    s.StemLaw → s.SequencerLaw →
    let run := exec (.sequenceComplete r) s
    let d := s.measured q.mask q.averaging r
    let freed : State := { s with dsq := s.dsq.freed s.params }
    (s.groupState ≠ .processing → run = .next (State.transmit freed)) ∧
    ∀ k lead, s.lead? = some (k, lead) →
      (∀ p, lead.profile.getLast? = some p → f.position ≤ p.position → ∃ u : State, run = .next (State.transmit u) ∧
        u = { freed with stb := u.stb } ∧ u.stb.group = s.stb.group ∧ u.stb.nextHandle = s.stb.nextHandle ∧
        ∀ i, u.record? i = if i ∈ s.stb.group then
          (s.record? i).map fun m => { m with missedSamples := min 255 (m.missedSamples + 1) } else s.record? i) ∧
      ((∀ p, lead.profile.getLast? = some p → (p.position : Int) < f.position) → ∃ u : State,
        run = .next (State.transmit u) ∧
        let n := s.members.length
        let root := Nat.sqrt ((s.members.map fun m => m.2.butt.getD 0 * m.2.butt.getD 0).sum)
        let thin := ∃ m ∈ s.members, 64 ≤ m.2.profile.length
        let kept (m : StemRecord) : List Sample := if thin then
          (List.range m.profile.length).filterMap fun j => if j % 2 = 0 then m.profile[j]? else none else m.profile
        let doubled (m : StemRecord) : Nat := if thin then min 1600 (2 * m.profileStep) else m.profileStep
        let share (m : StemRecord) : Nat :=
          if n < 2 ∨ root = 0 then d else min 999 ((2 * d * m.butt.getD 0 + root) / (2 * root))
        let sample (m : StemRecord) : Sample := ⟨f.position.toNat, share m, if 2 ≤ n then some d else none, q.averaging,
          ⟨false, s.disagrees q.mask q.averaging r, s.overArm q.mask q.averaging r, false,
            decide (f.source = .roller ∨ f.source = .rejoin), decide (2 ≤ n)⟩⟩
        let grown (m : StemRecord) : StemRecord := { m with
          profile := kept m ++ [sample m]
          profileStep := doubled m
          topWatch := { m.topWatch with armed := m.topWatch.armed &&
            !(m.topWatch.mode == .fall && decide (share m < m.topWatch.threshold)) } }
        let watches := s.members.flatMap fun m => m.2.watchNotices (kept m.2).getLast? (sample m.2)
        let topped := d < s.params.endDiameter
        let out (m : StemRecord) : Prop := topped ∨ (m.role ≠ some .lead ∧ share m < s.params.endDiameter)
        let why : EndReason := if topped then .topped else .fellOut
        let closes := (s.members.filter fun m => decide (out m.2)).map fun m : Nat × StemRecord =>
          .stemClosed m.2.handle .closed why m.2.pieces.length m.2.plan.length
        let swaps := topped ∧ s.atb.swapPending = true
        let idles := topped ∧ s.fcs.state ≠ .halted
        (∀ i m, i ∈ s.stb.group → s.record? i = some m →
          u.record? i = some (if out m then (grown m).ended .closed why else grown m)) ∧
        (∀ i, i ∉ s.stb.group → u.record? i = s.record? i) ∧
        u.stb.group = (s.stb.group.filter fun i => (s.record? i).any fun m => decide (¬out m)) ∧
        u.stb.nextHandle = s.stb.nextHandle ∧
        (¬topped → s.Asks u.bke) ∧
        (topped → u.bke =
          { s.bke with inFlight := s.bke.inFlight.map fun p => { p with void := true }, flag := false }) ∧
        u.lnu = (if thin then { s.lnu with trigger := f.position + doubled lead } else s.lnu) ∧
        u.atb = (if swaps then { s.atb with active := s.atb.edit, swapPending := false } else s.atb) ∧
        u.fcs = (if idles then { s.fcs.resting .idle with stopped := false, reversals := 0, overshoot := false }
          else s.fcs) ∧
        u.dsq = (if topped then { s.dsq with feedPending := none } else s.dsq).freed s.params ∧
        u.lines = s.lines ∧ u.params = s.params ∧ u.pending = s.pending ∧
        u.hbp = (s.told (watches ++ closes ++
          (if swaps then [.banksSwapped .atSafePoint
            (Finset.univ.filter fun i : Fin 32 => s.atb.active[i] ≠ s.atb.edit[i]).card
            (Finset.univ.filter fun i : Fin 32 => s.atb.edit[i].isSome).card s.atb.lockSize] else []) ++
          (if idles then [.fcsState s.fcs.state .idle none s.lnu.length none] else []))).hbp)

/-- Every step keeps the law of the requesters: none has a second sequence pending or running, an idle Diameter Sequencer has
none pending, and a pass request waits only behind a pass in flight (R70, R74, R124, R134). -/
def Obligations.RequesterLawKept : Prop := Kept State.RequesterLaw

/-! ### Length measurement (chapter 3) -/

/-- A pulse that ends no window, with the length unchanged or no group PROCESSING, or else with the sequencer out of its feeding
states (R44, R46, R48, R49, R53, R55, R71): levels and counts step; the active encoder's pulse gives the length; a changed one
reaches the records' furthest length and, forward at or beyond T with the group PROCESSING, raises a FEED request, or loses
the sample when one is under way, and moves T on. A reverse roller pulse starts a new window. Nothing else changes. -/
def Obligations.EncoderPulseMeasures : Prop :=
  ∀ (s : State) (e : Encoder) (d : Direction), s.StemLaw →
    let l := s.lnu.counted e d
    let m := if (e == .wheel) = s.lnu.onWheel then l.converted s.params else l
    (e = .roller → d = .forward → (l.window.rollerCount * 10000).tdiv s.params.rollerConstant < l.window.size) →
    let run := exec (.encoderPulse e d) s
    let closing (x : LengthUnit) := if e = .roller ∧ d = .reverse then x.reopened s.params else x
    let turnedTo : State := { s with lines := s.lines.turn e d, lnu := closing m }
    (m.length = s.lnu.length ∨ s.groupState ≠ .processing → run = .next (State.transmit turnedTo)) ∧
    (m.length ≠ s.lnu.length → s.fcs.state ≠ .feeding → s.fcs.state ≠ .creeping → s.fcs.state ≠ .reversing →
      ∀ k r, s.lead? = some (k, r) → ∃ u : State, run = .next (State.transmit u) ∧
      let busy := s.dsq.feedPending ≠ none ∨ s.dsq.stateNumber = 1
      u = { turnedTo with
        stb := u.stb
        dsq := if s.Fires m.length then s.dsq.fed s.params ⟨m.length, s.lnu.source⟩ else s.dsq
        lnu := closing (if s.Fires m.length then { m with trigger := m.trigger + r.profileStep } else m) } ∧
      u.stb.group = s.stb.group ∧ u.stb.nextHandle = s.stb.nextHandle ∧
      ∀ i, u.record? i = if i ∈ s.stb.group then
          (s.record? i).map (StemRecord.travelled m.length (decide (s.Fires m.length ∧ busy))) else s.record? i)

/-- A pulse of the active encoder that changes the length, while the feed runs to a target (R49, R53, R71, R147, R148, R150,
R158), with no window end: the approach commits the piece and creeps, the arrival with no pending plan settles, and else only
movement of 5 mm or more restarts the stall timer; then a forward pulse at or beyond T raises a FEED request, or loses the
sample, and moves T on. Each change has its FCS_STATE; the furthest length follows. That movement is tracked after the test
of the target is log 19. -/
def Obligations.PulseReachesTarget : Prop :=
  ∀ (s : State) (e : Encoder) (d : Direction) (k : Nat) (r : StemRecord) (p : PlanPiece) (rest : List PlanPiece),
    s.StemLaw → s.lead? = some (k, r) → r.plan = p :: rest →
    let m := (s.lnu.counted e d).converted s.params
    let len := m.length
    (e == .wheel) = s.lnu.onWheel → len ≠ s.lnu.length →
    (e = .roller → d = .forward → (m.window.rollerCount * 10000).tdiv s.params.rollerConstant < m.window.size) →
    let forward := s.lnu.length < len
    let busy := s.dsq.feedPending ≠ none ∨ s.dsq.stateNumber = 1
    let t := some p.cutPosition
    let near := p.cutPosition - s.params.slowDistance ≤ len
    let triggered := if s.Fires len then { m with trigger := m.trigger + r.profileStep } else m
    let after (f : Sequencer) (committed : Bool) (notices : List Notice) := ∃ u : State,
      exec (.encoderPulse e d) s = .next (State.transmit u) ∧
      u = { s with
        lines := s.lines.turn e d
        lnu := if e = .roller ∧ d = .reverse then triggered.reopened s.params else triggered
        dsq := if s.Fires len then s.dsq.fed s.params ⟨len, s.lnu.source⟩ else s.dsq
        fcs := f, stb := u.stb, hbp := (s.told notices).hbp } ∧
      u.stb.group = s.stb.group ∧ u.stb.nextHandle = s.stb.nextHandle ∧
      ∀ i, u.record? i = if i ∈ s.stb.group then (s.record? i).map fun q =>
          StemRecord.travelled len (decide (s.Fires len ∧ busy))
            { q with plan := if i = k ∧ committed = true then { p with status := .committed } :: rest else q.plan }
        else s.record? i
    let fresh := if p.status = .planned then { s.fcs with reversals := 0, overshoot := false } else s.fcs
    let stays := after (if 5 ≤ (len - s.fcs.stallReference).natAbs then
      { s.fcs with stallReference := len, stallTimer := some 0 } else s.fcs) false []
    (s.fcs.state = .feeding → ¬(forward ∧ near) → stays) ∧
    (s.fcs.state = .feeding → forward → near → len < p.cutPosition →
      after (fresh.feedingFrom .creeping len) true [.fcsState .feeding .creeping none len t]) ∧
    (s.fcs.state = .feeding → forward → near → p.cutPosition ≤ len → r.pendingPlan = none →
      after { fresh.settles with stallReference := len } true
        [.fcsState .feeding .creeping none len t, .fcsState .creeping .settling none len t]) ∧
    (s.fcs.state = .creeping → ¬(forward ∧ p.cutPosition ≤ len) → stays) ∧
    (s.fcs.state = .creeping → forward → p.cutPosition ≤ len → r.pendingPlan = none →
      after s.fcs.settles false [.fcsState .creeping .settling none len t]) ∧
    (s.fcs.state = .reversing → ¬(¬forward ∧ len ≤ p.cutPosition) → stays) ∧
    (s.fcs.state = .reversing → ¬forward → len ≤ p.cutPosition → r.pendingPlan = none →
      after s.fcs.settles false [.fcsState .reversing .settling none len t])

/-- The forward roller pulse that ends a window (R12, R13, R49, R53, R55 to R60), in every source state and with or without a
group PROCESSING, where the length it may bring reaches no target: first the length update with its trigger; then the
judgement, only with contact, sound encoders and running checks; disputed by slip_tol; the source state and n move by the
table, with LENGTH_SOURCE at a change; the records are told; and a new window starts. That movement is tracked so is log 19. -/
def Obligations.WindowEndJudges : Prop :=
  ∀ s : State, s.StemLaw →
    let l := s.lnu.counted .roller .forward
    let m := if s.lnu.onWheel = true then l else l.converted s.params
    let roller := (m.window.rollerCount * 10000).tdiv s.params.rollerConstant
    let wheel := (m.window.wheelCount * 10000).tdiv s.params.wheelConstant
    (m.window.size : Int) ≤ roller →
    let moves := m.length ≠ s.lnu.length ∧ s.groupState = .processing
    (moves → ∀ t, s.target? = some t →
      (s.fcs.state = .feeding → m.length < t - s.params.slowDistance) ∧
      (s.fcs.state = .creeping → m.length < t) ∧
      (s.fcs.state = .reversing → s.lnu.length < m.length ∨ t < m.length)) →
    let feeds := s.fcs.state = .feeding ∨ s.fcs.state = .creeping ∨ s.fcs.state = .reversing
    let busy := s.dsq.feedPending ≠ none ∨ s.dsq.stateNumber = 1
    let step := (s.lead?.map (·.2.profileStep)).getD 0
    let triggered := if s.Fires m.length then { m with trigger := m.trigger + step } else m
    let judged := s.lines.wheelContact.accepted = true ∧ m.wheelFaulty = false ∧ m.rollerFaulty = false ∧
      m.slipSuspended = false
    let disputed := s.params.slipTol * roller < |wheel - roller| * 100
    let bounds (q : Sample) := m.window.least ≤ q.position ∧
      (q.position : Int) ≤ (if m.window.least = m.window.greatest then m.window.least + 1 else m.window.greatest)
    let reached (q : StemRecord) : StemRecord :=
      if moves then q.travelled m.length (decide (s.Fires m.length ∧ busy)) else q
    let after (new : SourceState) (n : Nat) (cause : SourceCause) := ∃ u : State,
      exec (.encoderPulse .roller .forward) s = .next (State.transmit u) ∧
      u = { s with
        lines := s.lines.turn .roller .forward
        lnu := { (triggered.resourced new n).reopened s.params with
          slipSuspect := m.slipSuspect || decide (judged ∧ disputed) }
        dsq := if s.Fires m.length then s.dsq.fed s.params ⟨m.length, s.lnu.source⟩ else s.dsq
        fcs := if moves ∧ feeds ∧ 5 ≤ (m.length - s.fcs.stallReference).natAbs then
          { s.fcs with stallReference := m.length, stallTimer := some 0 } else s.fcs
        stb := u.stb
        hbp := (s.told (if m.source = new then [] else [.lengthSource m.source new cause m.length])).hbp } ∧
      u.stb.group = s.stb.group ∧ u.stb.nextHandle = s.stb.nextHandle ∧
      ∀ i, u.record? i = if i ∈ s.stb.group ∧ s.groupState = .processing then (s.record? i).map fun q =>
          StemRecord.hears m.source new (if judged ∧ disputed then { reached q with
            disputedWindows := min 255 (q.disputedWindows + 1)
            profile := q.profile.map fun p => if bounds p then { p with flags.slipSuspect := true } else p }
            else reached q)
        else s.record? i
    (¬judged → after m.source m.n .disputes) ∧
    (judged → disputed →
      (m.source = .wheel → after .disputed 1 .disputes) ∧
      (m.source = .disputed → m.n + 1 < 3 → after .disputed (m.n + 1) .disputes) ∧
      (m.source = .disputed → 3 ≤ m.n + 1 → after .roller 0 .disputes) ∧
      (m.source = .roller → after .roller m.n .disputes) ∧
      (m.source = .rejoin → after .roller 0 .disputes)) ∧
    (judged → ¬disputed →
      (m.source = .wheel → after .wheel m.n .agreements) ∧
      (m.source = .disputed → after .wheel 0 .agreements) ∧
      (m.source = .roller → after .rejoin 1 .agreements) ∧
      (m.source = .rejoin → m.n + 1 < 2 → after .rejoin (m.n + 1) .agreements) ∧
      (m.source = .rejoin → 2 ≤ m.n + 1 → after .wheel 0 .agreements))

/-- Quadrature faults and the wheel's contact (R44, R45, R55, R59): a fault changes both levels and counts, holding at 8; the
eighth makes the encoder faulty, once: the wheel gives the length up, the roller suspends slip checking and is told. A contact
that goes gives the length up; each contact change starts a new window; the present level is no change (log 6). -/
def Obligations.FaultsAndContact : Prop :=
  ∀ s : State, s.StemLaw →
    let flip (f : LineFilter) : LineFilter := ⟨!f.accepted, !f.accepted, 0⟩
    let after (c : Instr) (lines : InputLines) (l : LengthUnit) (notices : List Notice) := ∃ u : State,
      exec c s = .next (State.transmit u) ∧
      u = { s with lines := lines, lnu := l, stb := u.stb, hbp := (s.told notices).hbp } ∧
      u.stb.group = s.stb.group ∧ u.stb.nextHandle = s.stb.nextHandle ∧
      ∀ i, u.record? i = if i ∈ s.stb.group ∧ s.groupState = .processing then
        (s.record? i).map (StemRecord.hears s.lnu.source l.source) else s.record? i
    let wheelLines := { s.lines with wheelA := flip s.lines.wheelA, wheelB := flip s.lines.wheelB }
    let rollerLines := { s.lines with rollerA := flip s.lines.rollerA, rollerB := flip s.lines.rollerB }
    let toRoller (cause : SourceCause) : List Notice :=
      if s.lnu.source = .roller then [] else [.lengthSource s.lnu.source .roller cause s.lnu.length]
    let given (l : LengthUnit) : LengthUnit := if l.source = .roller then l else l.resourced .roller 0
    let wheelCounted := { s.lnu with wheelFaults := min 8 (s.lnu.wheelFaults + 1) }
    let rollerCounted := { s.lnu with rollerFaults := min 8 (s.lnu.rollerFaults + 1) }
    (s.lnu.wheelFaults < 7 ∨ s.lnu.wheelFaulty = true →
      after (.quadratureFault .wheel) wheelLines wheelCounted []) ∧
    (7 ≤ s.lnu.wheelFaults → s.lnu.wheelFaulty = false →
      after (.quadratureFault .wheel) wheelLines (given { wheelCounted with wheelFaulty := true })
        (toRoller .wheelFault)) ∧
    (s.lnu.rollerFaults < 7 ∨ s.lnu.rollerFaulty = true →
      after (.quadratureFault .roller) rollerLines rollerCounted []) ∧
    (7 ≤ s.lnu.rollerFaults → s.lnu.rollerFaulty = false →
      after (.quadratureFault .roller) rollerLines { rollerCounted with rollerFaulty := true, slipSuspended := true }
        [.rollerFault s.lnu.length s.lnu.wheelFaulty]) ∧
    (∀ level, s.lines.wheelContact.accepted = level → exec (.wheelContactChange level) s = .next s) ∧
    (s.lines.wheelContact.accepted = false → after (.wheelContactChange true)
      { s.lines with wheelContact := ⟨true, true, 0⟩ } (s.lnu.reopened s.params) []) ∧
    (s.lines.wheelContact.accepted = true → after (.wheelContactChange false)
      { s.lines with wheelContact := ⟨false, false, 0⟩ } ((given s.lnu).reopened s.params) (toRoller .contactLost))

/-- Every step keeps the Length Unit in its ranges: the length between its limits and inside its window's bounds, counts held,
n as the source state has it, and ROLLER_LEN set while the roller gives the length (sections 3.1 to 3.8). -/
def Obligations.LengthLawKept : Prop := Kept State.LengthLaw

/-! ### Saw, halt and timers (chapter 8) -/

/-- SAW_END (R16 to R18, R29, R61, R143, R152), with the saw not home: in FELLING the record is pushed; in CUTTING every
member takes its piece, the lead's plan and override change as the kind of cut asks, the per-piece flags restart, a pass
is requested and SAW_RETURN begins; in IDLE only the flags restart; elsewhere, and at a deassertion, only the level
changes. What the edges stand for is log 5. -/
def Obligations.SawEndRecordsPieces : Prop :=
  ∀ s : State, s.StemLaw → s.lines.sawHome.accepted = false →
    let run := exec (.sawEndAsserted .asserted) s
    let len := s.lnu.length
    let asserted : State := { s with lines.sawEnd := ⟨true, true, 0⟩ }
    let cleared : LengthUnit := { s.lnu with slipSuspect := false, rollerLen := !s.lnu.onWheel }
    exec (.sawEndAsserted .deasserted) s = .next { s with lines.sawEnd := ⟨false, false, 0⟩ } ∧
    (s.fcs.state ∉ [.idle, .felling, .cutting] → run = .next (State.transmit asserted)) ∧
    (s.fcs.state = .idle → run = .next (State.transmit { asserted with lnu := cleared })) ∧
    (∀ k r, s.fcs.state = .felling → s.record? k = some r → r.state = .felling →
      run = .next (State.transmit (State.told
        { asserted.setSlot k (some { r with state := .held }) with
          stb.group := s.stb.group ++ [k], fcs := s.fcs.resting .holding }
        [.stemOpened r.handle k r.species r.fellingOrder, .fcsState .felling .holding none len none]))) ∧
    ∀ k lead, s.fcs.state = .cutting → s.lead? = some (k, lead) →
      let piece (kind : PieceKind) (marked : Bool) (q : StemRecord) : Piece :=
        { kind := kind, assortment := none, cutPosition := len
          actual := len - (q.pieces.getLast?.map (·.cutPosition)).getD 0
          nominal := none, lengthError := none, topDiameter := s.recordDiameter q len, value := none
          flags := ⟨marked, s.lnu.slipSuspect, s.lnu.rollerLen⟩ }
      let after (member : StemRecord → Piece) (changed : StemRecord → StemRecord) (target : Option Int) :=
        ∃ u : State, run = .next (State.transmit u) ∧
          u = { asserted with
            stb := u.stb, bke := u.bke, lnu := cleared, hbp := u.hbp
            fcs := { s.fcs.returns with reversals := 0, overshoot := false } } ∧
          u.stb.group = s.stb.group ∧ u.stb.nextHandle = s.stb.nextHandle ∧ s.Asks u.bke ∧
          (∀ i q, i ∈ s.stb.group → s.record? i = some q → u.record? i = some
            (let grown := { q with pieces := q.pieces ++ [member q] }
             if i = k then changed grown else grown)) ∧
          (∀ i, i ∉ s.stb.group → u.record? i = s.record? i) ∧
          u.hbp = (s.told ((s.members.map fun m =>
              .pieceCut m.2.handle m.2.pieces.length (member m.2).kind len (member m.2).actual (member m.2).assortment
                (member m.2).value) ++
            [.fcsState .cutting .sawReturn none len target])).hbp
      (∀ p rest, s.fcs.cutKind = some .planned → lead.plan = p :: rest →
        let left := rest.filter fun x => decide (len < x.cutPosition)
        after
          (fun q => { piece (if p.source = .override then .overrideCut else .plannedCut) s.fcs.overshoot q with
            assortment := some p.assortment
            nominal := some p.nominal
            lengthError := some (len - (q.pieces.getLast?.map (·.cutPosition)).getD 0 - p.nominal)
            value := (s.atb.active[p.assortment]?).join.map fun a =>
              (a.prices[min 7 ((s.recordDiameter q len - a.minTop) / a.classWidth)]?).getD 0 * p.nominal / 1000 })
          (fun q => { q with
            plan := left
            planValue := (left.map (·.value)).sum
            override := if p.source = .override ∧ q.override = some ⟨p.assortment, p.nominal⟩ then none
              else q.override })
          (left.head?.map (·.cutPosition))) ∧
      (s.fcs.cutKind = some .offPlan →
        after
          (fun q => piece
            (if len - (q.pieces.getLast?.map (·.cutPosition)).getD 0 < 500 then .wasteCut else .operatorCut) false q)
          (fun q => { q with plan := [], planValue := 0, pendingPlan := none }) none)

/-- SAW_HOME (R156): in SAW_RETURN, with no pending plan, it ends the return in the first of the four states whose
condition holds, the plan's first piece being further off than slow_distance; elsewhere, and at a deassertion, only the
level changes. What the edges stand for is log 5. -/
def Obligations.SawHomeEndsReturn : Prop :=
  ∀ s : State, s.noPending →
    let run := exec (.sawHomeAsserted .asserted) s
    let len := s.lnu.length
    let home : State := { s with lines.sawHome := ⟨true, true, 0⟩ }
    exec (.sawHomeAsserted .deasserted) s = .next { s with lines.sawHome := ⟨false, false, 0⟩ } ∧
    (s.fcs.state ≠ .sawReturn → run = .next (State.transmit home)) ∧
    (s.fcs.state = .sawReturn →
      (s.fcs.stopped = true → run = .next (State.transmit (State.told
        { home with fcs := { s.fcs.pausedBy .stopRequest with stopped := false } }
        [.fcsState .sawReturn .paused (some .stopRequest) len s.target?]))) ∧
      (∀ t, s.fcs.stopped = false → s.target? = some t → len < t - s.params.slowDistance →
        run = .next (State.transmit (State.told { home with fcs := s.fcs.feedingFrom .feeding len }
          [.fcsState .sawReturn .feeding none len (some t)]))) ∧
      (s.fcs.stopped = false → s.target? = none → s.bke.inFlight ≠ none ∨ s.bke.flag = true →
        run = .next (State.transmit (State.told { home with fcs := s.fcs.resting .waiting }
          [.fcsState .sawReturn .waiting none len none]))) ∧
      (s.fcs.stopped = false → s.target? = none → s.bke.inFlight = none → s.bke.flag = false →
        run = .next (State.transmit (State.told { home with fcs := s.fcs.pausedBy .planDone }
          [.fcsState .sawReturn .paused (some .planDone) len none]))))

/-- The halt line (R161, R162): its assertion takes every state to HALTED, and a felling's record is abandoned; its release
goes where the group calls for, with no pending plan; an asserted line asserts no more and a released one is released no more
(log 6). -/
def Obligations.HaltLine : Prop :=
  ∀ s : State, s.StemLaw →
    let len := s.lnu.length
    let low : State := { s with lines.halt := ⟨true, true, 0⟩ }
    let high : State := { s with lines.halt := ⟨false, false, 0⟩ }
    let halted := { s.fcs.resting .halted with stopped := false }
    (s.lines.halt.accepted = true → exec .haltAsserted s = .next s) ∧
    (s.lines.halt.accepted = false → s.fcs.state ≠ .felling → exec .haltAsserted s = .next (State.transmit
      (State.told { low with fcs := halted } [.fcsState s.fcs.state .halted none len s.target?]))) ∧
    (∀ k r, s.lines.halt.accepted = false → s.fcs.state = .felling → s.record? k = some r → r.state = .felling →
      exec .haltAsserted s = .next (State.transmit (State.told
        { low.setSlot k (some (r.ended .abandoned .fellFailed)) with fcs := halted }
        [.stemClosed r.handle .abandoned .fellFailed 0 0, .fcsState .felling .halted none len none]))) ∧
    (s.lines.halt.accepted = false → exec .haltReleased s = .next s) ∧
    (s.lines.halt.accepted = true →
      (s.groupState = .processing → s.noPending → exec .haltReleased s = .next (State.transmit
        (State.told { high with fcs := s.fcs.pausedBy .haltReleased }
          [.fcsState s.fcs.state .paused (some .haltReleased) len s.target?]))) ∧
      (s.groupState = .held → exec .haltReleased s = .next (State.transmit
        (State.told { high with fcs := s.fcs.resting .holding } [.fcsState s.fcs.state .holding none len none]))) ∧
      (s.groupState = .empty → exec .haltReleased s = .next (State.transmit
        (State.told { high with fcs := s.fcs.resting .idle } [.fcsState s.fcs.state .idle none len none]))))

/-- Timer expiries (R144, R149, R151, R154, R156, R158, R164), with no pending plan: the settle judged against the
target by overshoot_tol, with the automatic cut at AT_TARGET; a saw that times out in FELLING or CUTTING, a saw that
does not come home, a stalled feed. A stopped timer does not expire (R141). What an expiry command stands for is log 4.
-/
def Obligations.TimersExpire : Prop :=
  ∀ s : State, s.StemLaw → s.noPending →
    let len := s.lnu.length
    let home := s.lines.sawHome.accepted
    let after (c : Instr) (f : Sequencer) (notices : List Notice) :=
      exec c s = .next (State.transmit (State.told { s with fcs := f } notices))
    (s.fcs.settleTimer = none → exec .settleTimerExpiry s = .next s) ∧
    (s.fcs.sawTimer = none → exec .sawTimerExpiry s = .next s) ∧
    (s.fcs.homeTimer = none → exec .homeTimerExpiry s = .next s) ∧
    (s.fcs.stallTimer = none → exec .stallTimerExpiry s = .next s) ∧
    (∀ t, s.fcs.settleTimer.isSome → s.fcs.state = .settling → s.target? = some t →
      let tol : Int := s.params.overshootTol
      let stops := |len - t| ≤ tol ∨ (t + tol < len ∧ 2 ≤ s.fcs.reversals)
      let f := if t + tol < len then { s.fcs with overshoot := true } else s.fcs
      let there : Notice := .fcsState .settling .atTarget none len (some t)
      (stops → s.params.autoCut = false → after .settleTimerExpiry (f.resting .atTarget) [there]) ∧
      (stops → s.params.autoCut = true → home = true → after .settleTimerExpiry (f.cuts .planned)
        [there, .fcsState .atTarget .cutting none len (some t)]) ∧
      (stops → s.params.autoCut = true → home = false → after .settleTimerExpiry (f.pausedBy .sawNotHome)
        [there, .fcsState .atTarget .paused (some .sawNotHome) len (some t)]) ∧
      (t + tol < len → s.fcs.reversals < 2 → after .settleTimerExpiry
        { s.fcs.feedingFrom .reversing len with reversals := s.fcs.reversals + 1 }
        [.fcsState .settling .reversing none len (some t)]) ∧
      (len < t - tol → after .settleTimerExpiry (s.fcs.feedingFrom .creeping len)
        [.fcsState .settling .creeping none len (some t)])) ∧
    (∀ k r, s.fcs.sawTimer.isSome → s.fcs.state = .felling → s.record? k = some r → r.state = .felling →
      let st : SeqState := if s.stb.group = [] then .idle else .holding
      exec .sawTimerExpiry s = .next (State.transmit (State.told
        { s.setSlot k (some (r.ended .abandoned .fellFailed)) with fcs := s.fcs.resting st }
        [.stemClosed r.handle .abandoned .fellFailed 0 0,
          .sawFault .fellTimeout r.handle none len home s.lines.sawEnd.accepted,
          .fcsState .felling st none len none]))) ∧
    (∀ k r, s.lead? = some (k, r) →
      (s.fcs.sawTimer.isSome → s.fcs.state = .cutting → after .sawTimerExpiry (s.fcs.pausedBy .sawTimeout)
        [.sawFault .cutTimeout r.handle s.fcs.cutKind len home s.lines.sawEnd.accepted,
          .fcsState .cutting .paused (some .sawTimeout) len s.target?]) ∧
      (s.fcs.homeTimer.isSome → s.fcs.state = .sawReturn → after .homeTimerExpiry
        { s.fcs.pausedBy .sawNotHome with stopped := false }
        [.sawFault .homeTimeout r.handle s.fcs.cutKind len home s.lines.sawEnd.accepted,
          .fcsState .sawReturn .paused (some .sawNotHome) len s.target?])) ∧
    (s.fcs.stallTimer.isSome → s.fcs.state = .feeding ∨ s.fcs.state = .creeping ∨ s.fcs.state = .reversing →
      after .stallTimerExpiry (s.fcs.pausedBy .feedStall)
        [.feedStall s.fcs.state len s.fcs.stallReference s.target?,
          .fcsState s.fcs.state .paused (some .feedStall) len s.target?])

/-- Every step keeps the sequencer's law: HALTED exactly under filtered HALT_N, no feed and no saw then, never both and never
both directions; timers, pause reason and cut kind only in their states; at most two reversals (R138, R139, R141, R150). -/
def Obligations.SequencerLawKept : Prop := Kept State.SequencerLaw

/-! ### Plan passes (chapters 6 and 7) -/

/-- PASS_COMPLETE (R127 to R132, R134, R136, R146, R147), where it moves the sequencer on to no other state: WAITING stays
while the plan is empty and a pass is outstanding, FEEDING while the plan is not empty, and the other states always.
DISCARDED for a void pass or no lead, STALE, LATE, then INSTALLED or HELD by mode and stop state; the outcome is recorded; the
pass ends, and the next starts where the flag or the outcome asks for it and the lead is not frozen. Nothing else changes. -/
def Obligations.PassCompletes : Prop :=
  ∀ (s : State) (p : Pass), s.bke.inFlight = some p →
    let run := exec .passComplete s
    let res := p.snapshot.result p.number
    let rests (plan : List PlanPiece) (o : PassOutcome) :=
      (s.fcs.state = .waiting →
        plan = [] ∧ (s.bke.flag = true ∨ o = .stale ∨ o = .late) ∧ s.plannable?.isSome) ∧
      (s.fcs.state = .feeding → plan ≠ [])
    (p.void = true ∨ s.lead? = none → rests ((s.lead?.map (·.2.plan)).getD []) .discarded →
      ∃ b, s.PassEnds p.number .discarded b ∧ run = .next (State.transmit { s with bke := b })) ∧
    ∀ k r, p.void = false → s.lead? = some (k, r) →
      let stops := s.fcs.state = .waiting ∨ s.fcs.state = .settling ∨ s.fcs.state = .atTarget ∨ s.fcs.state = .paused
      let spared := if res.flags.overrideDropped = true ∧ r.override = p.snapshot.override then none else r.override
      (r.plansFrom ≠ res.origin → rests r.plan .stale →
        ∃ b, s.PassEnds p.number .stale b ∧ run = .next (State.transmit { s with bke := b })) ∧
      (r.plansFrom = res.origin → s.TooLate r res → rests r.plan .late →
        ∃ b, s.PassEnds p.number .late b ∧ run = .next (State.transmit { s with bke := b })) ∧
      (r.plansFrom = res.origin → ¬s.TooLate r res → r.updateMode = .immediate ∨ stops →
        rests (r.takes res).plan .installed → ∃ b, s.PassEnds p.number .installed b ∧
          run = .next (State.transmit (State.told
            { s.setSlot k (some { r.takes res with override := spared }) with bke := b } [r.tells .direct res]))) ∧
      (r.plansFrom = res.origin → ¬s.TooLate r res → r.updateMode = .atStop → ¬stops → rests r.plan .held →
        ∃ b, s.PassEnds p.number .held b ∧ run = .next (State.transmit
          { s.setSlot k (some { r with pendingPlan := some res, override := spared }) with bke := b }))

/-- What a completed pass does to a feed that waits or runs (R146, R147), and what each entry into a stop state does with a
pending plan (R133). An installed plan starts the waiting feed, which commits and creeps where its first piece is just
slow_distance off; an empty plan ends in PLAN_DONE with nothing outstanding, and in WAITING else. At STOP, at the
arrival (SETTLING), at the settle timer (AT_TARGET) and at the end of the saw return (WAITING) a pending plan is installed, or
goes with a new request when it is stale or late. That FCS_STATE follows that check is log 17, the settle timer's expiry
command log 4, the saw's edge log 5, and the transmitter's choice log 7. -/
def Obligations.PlansReachSequencer : Prop :=
  ∀ (s : State) (tag : Byte) (k : Nat) (r : StemRecord), s.lead? = some (k, r) →
    let len := s.lnu.length
    let slow : Int := s.params.slowDistance
    let st := s.fcs.state
    (∀ p, s.bke.inFlight = some p →
      let run := exec .passComplete s
      let res := p.snapshot.result p.number
      (p.void = true → st = .waiting → r.plan = [] → r.pendingPlan = none → s.bke.flag = false →
        run = .next (State.transmit (State.told
          { s with
            bke := { s.bke with inFlight := none, lastOutcome := .discarded, lastOutcomePass := p.number }
            fcs := s.fcs.pausedBy .planDone }
          [.fcsState .waiting .paused (some .planDone) len none]))) ∧
      (p.void = false → r.plansFrom = res.origin → ¬s.TooLate r res →
        st = .waiting ∨ (st = .feeding ∧ r.updateMode = .immediate) →
        ∃ b, s.PassEnds p.number .installed b ∧
          let spared := if res.flags.overrideDropped = true ∧ r.override = p.snapshot.override then none else r.override
          let plan := (r.takes res).plan
          let moves (left : List PlanPiece) (f : Sequencer) (notices : List Notice) :=
            run = .next (State.transmit (State.told
              { s.setSlot k (some { r.takes res with plan := left, override := spared }) with bke := b, fcs := f }
              (r.tells .direct res :: notices)))
          (plan = [] → b.inFlight = none →
            moves [] (s.fcs.pausedBy .planDone) [.fcsState st .paused (some .planDone) len none]) ∧
          (plan = [] → b.inFlight ≠ none → st = .feeding →
            moves [] (s.fcs.resting .waiting) [.fcsState .feeding .waiting none len none]) ∧
          (∀ x rest, plan = x :: rest → st = .waiting → len < x.cutPosition - slow →
            moves plan (s.fcs.feedingFrom .feeding len) [.fcsState .waiting .feeding none len (some x.cutPosition)]) ∧
          (∀ x rest, plan = x :: rest → st = .waiting → len = x.cutPosition - slow → 0 < slow → x.status = .planned →
            moves ({ x with status := .committed } :: rest)
              (Sequencer.feedingFrom { s.fcs with reversals := 0, overshoot := false } .creeping len)
              [.fcsState .waiting .feeding none len (some x.cutPosition),
                .fcsState .feeding .creeping none len (some x.cutPosition)]))) ∧
    (∀ res, r.pendingPlan = some res →
      (s.busIdle → st = .feeding ∨ st = .creeping ∨ st = .reversing ∨ st = .settling ∨ st = .waiting →
        ∃ u, s.PendingChecked k r res u ∧ exec (.stop tag) s = .next (State.answered (State.told
          { u with fcs := s.fcs.pausedBy .stopRequest } [.fcsState st .paused (some .stopRequest) len u.target?]) 50 tag
          ⟨.ok, []⟩)) ∧
      (∀ d, s.StemLaw → st = .creeping ∨ st = .reversing → s.lnu.onWheel = true →
        let m := (s.lnu.counted .wheel d).converted s.params
        let q : StemRecord := r.travelled m.length false
        m.length ≠ len → m.length < s.lnu.trigger →
        (∀ t, s.target? = some t →
          if st = .creeping then len < m.length ∧ t ≤ m.length else m.length < len ∧ m.length ≤ t) → r.plan ≠ [] →
        ∃ v u : State, v = { s with lines := s.lines.turn .wheel d, lnu := m, stb := v.stb } ∧
          v.stb.group = s.stb.group ∧ v.stb.nextHandle = s.stb.nextHandle ∧
          (∀ i, v.record? i = if i ∈ s.stb.group then (s.record? i).map (StemRecord.travelled m.length false)
            else s.record? i) ∧
          v.PendingChecked k q res u ∧ exec (.encoderPulse .wheel d) s = .next (State.transmit (State.told
            { u with fcs := s.fcs.settles } [.fcsState st .settling none m.length u.target?]))) ∧
      (∀ t, s.fcs.settleTimer.isSome → st = .settling → s.target? = some t →
        (len - t).natAbs ≤ s.params.overshootTol →
        ∃ u, s.PendingChecked k r res u ∧
          let there : Notice := .fcsState .settling .atTarget none len u.target?
          (s.params.autoCut = false → exec .settleTimerExpiry s = .next (State.transmit (State.told
            { u with fcs := s.fcs.resting .atTarget } [there]))) ∧
          (s.params.autoCut = true → s.lines.sawHome.accepted = true →
            exec .settleTimerExpiry s = .next (State.transmit (State.told { u with fcs := s.fcs.cuts .planned }
              [there, .fcsState .atTarget .cutting none len u.target?])))) ∧
      (st = .sawReturn → s.fcs.stopped = false → r.plan = [] → s.bke.inFlight ≠ none ∨ s.bke.flag = true →
        ∃ u : State, State.PendingChecked { s with lines.sawHome := ⟨true, true, 0⟩ } k r res u ∧
          let waits : Notice := .fcsState .sawReturn .waiting none len u.target?
          (u.target? = none → exec (.sawHomeAsserted .asserted) s = .next (State.transmit (State.told
            { u with fcs := s.fcs.resting .waiting } [waits]))) ∧
          ∀ t, u.target? = some t → len < t - slow → exec (.sawHomeAsserted .asserted) s = .next (State.transmit
            (State.told { u with fcs := s.fcs.feedingFrom .feeding len }
              [waits, .fcsState .waiting .feeding none len (some t)]))))

/-- The dynamic programme finds a best chain of pieces (R113, R114, R118): from any grid index and with any remaining count the
traced chain is a chain of candidates within the count, its value is the table's, and no other chain within the count is worth
more; from the origin the same among the chains whose first piece ends at or beyond the earliest first cut. Each choice, there
and in the table, is the first candidate tried of the greatest total, and stop where no total is greater than 0. -/
def Obligations.OptimizerIsOptimal : Prop :=
  ∀ candidates : List (List Candidate),
    let total (n : Nat) (c : Candidate) := c.value + (((tableRows candidates n).headD []).getD c.next (0, none)).1
    let best (n : Nat) (tried : List Candidate) : Option Candidate → Prop
      | none => ∀ c ∈ tried, total n c = 0
      | some c => ∃ before after, tried = before ++ c :: after ∧ 0 < total n c ∧
          (∀ x ∈ before, total n x < total n c) ∧ ∀ x ∈ after, total n x ≤ total n c
    (∀ n k, k < candidates.length →
      let rows := tableRows candidates n
      let chain := traceRows rows k
      IsChain candidates k chain ∧ chain.length ≤ n ∧ chainValue chain = ((rows.headD []).getD k (0, none)).1 ∧
      ∀ other, IsChain candidates k other → other.length ≤ n → chainValue other ≤ chainValue chain) ∧
    (∀ n k, k < candidates.length →
      best n (candidates.getD k []) (((tableRows candidates (n + 1)).headD []).getD k (0, none)).2) ∧
    ∀ (origin earliest : Int) (allowance : Nat),
      let chain := optimizerTrace candidates origin earliest allowance
      let reaches (c : List Candidate) := ∀ x rest, c = x :: rest → earliest ≤ origin + x.nominal
      (IsChain candidates 0 chain ∧ chain.length ≤ allowance ∧ reaches chain) ∧
      (∀ n, allowance = n + 1 →
        best n ((candidates.headD []).filter fun c => decide (earliest ≤ origin + c.nominal)) chain.head? ∧
        ∀ c rest, chain = c :: rest → rest = traceRows (tableRows candidates n) c.next) ∧
      ∀ other, IsChain candidates 0 other → other.length ≤ allowance → reaches other →
        chainValue other ≤ chainValue chain

/-- The diameter-at-position rule (R105 to R107), and the result of a pass by it (R103, R109 to R112, R114 to R119), on a bank
and an override with lengths that are multiples of 100. The usable end is the furthest grid point where every member has the
smallest eligible top. An override is placed first, with the members' sum as its value, or dropped and the rest planned as
without it. Pieces follow one another from the origin, no more than the allowance, the first at or beyond the earliest first
cut; an optimizer piece ends by the usable end, is an allowed length of an eligible entry, thick enough at its top and thin
enough at its butt on every member, worth the members' sum. Every such piece is a candidate, in the order of R114. -/
def Obligations.PlannedPiecesAreValid : Prop :=
  (∀ (profile : List (Nat × Nat)) (taper : Nat), profile.Pairwise (fun a b => a.1 < b.1) →
    (∀ x d, (x, d) ∈ profile → diameterAt profile taper x = d) ∧
    (∀ (before rest : List (Nat × Nat)) (x0 d0 x1 d1 : Nat), profile = before ++ (x0, d0) :: (x1, d1) :: rest →
      ∀ x : Nat, x0 < x → x < x1 → (diameterAt profile taper x : Int) =
        (2 * ((d0 : Int) * (x1 - x0) + ((d1 : Int) - d0) * (x - x0)) + (x1 - x0)) / (2 * (x1 - x0))) ∧
    ∀ p d, profile.getLast? = some (p, d) →
      (∀ x : Nat, p < x → diameterAt profile taper x = d - (taper * (x - p) + 999) / 1000) ∧
      ∀ (window : Nat) (e : TaperEntry), e.tmin ≤ e.tmax → 0 < window →
        (p < window → profileTaper profile window e = e.tdefault) ∧
        (window ≤ p → (profileTaper profile window e : Int) = max (e.tmin : Int) (min (e.tmax : Int)
          ((2 * (((diameterAt profile taper (p - window : Nat) : Int) - d) * 1000) + window) / (2 * window))))) ∧
  ∀ (q : Snapshot) (number : Nat),
    (∀ (i : Fin 32) (a : Assortment), q.bank[i] = some a → ∀ l ∈ a.lengths, l % 100 = 0 ∧ 0 < l) →
    (∀ o, q.override = some o → o.nominal % 100 = 0) →
    let res := q.result number
    let origin : Int := (q.committed.map (·.cutPosition)).getD (q.lastCut.getD 0)
    let earliest : Int := q.length + q.slowDistance + q.leadMargin
    let allowance := 12 - q.pieceCount - (if q.committed = none then 0 else 1)
    let thick (m : SnapMember) (x : Int) := diameterAt m.profile (profileTaper m.profile q.taperWindow m.taper) x
    let eligible (a : Assortment) := (∀ m ∈ q.members, a.speciesMask.getLsbD m.species = true) ∧
      (a.groupAllowed = true ∨ q.members.length < 2)
    let least (n : Nat) := (∃ (i : Fin 32) (a : Assortment), q.bank[i] = some a ∧ eligible a ∧ a.minTop = n) ∧
      ∀ (i : Fin 32) (a : Assortment), q.bank[i] = some a → eligible a → n ≤ a.minTop
    let usable (n k : Nat) := k ≤ 300 ∧ origin + 100 * k ≤ 60000 ∧ ∀ m ∈ q.members, n ≤ thick m (origin + 100 * k)
    let worth (a : Assortment) (nominal : Nat) (x : Int) := (q.members.map fun m =>
      (a.prices[min 7 ((thick m x - a.minTop) / a.classWidth)]?).getD 0 * nominal / 1000).sum
    let placed (o : Override) := 1 ≤ allowance ∧ o.nominal ≤ 30000 ∧ origin + o.nominal ≤ 60000 ∧
      earliest ≤ origin + o.nominal
    let fits (i : Nat) (a : Assortment) (nominal : Nat) (lower : Int) := (q.bank[i]?).join = some a ∧ eligible a ∧
      nominal ∈ a.lengths ∧ (∃ e, res.usableEnd = some e ∧ lower + nominal ≤ e) ∧
      ∀ m ∈ q.members, a.minTop ≤ thick m (lower + nominal) ∧ thick m lower ≤ a.maxButt
    (res.origin = origin ∧ res.passNumber = number ∧ res.pieces.length ≤ allowance ∧
      ∀ x rest, res.pieces = x :: rest → earliest ≤ x.cutPosition) ∧
    ((∀ n, least n →
        res.flags.noEligible = false ∧
        (∀ k, usable n k → (∀ j, usable n j → j ≤ k) →
          res.usableEnd = some (origin + 100 * (k : Int)) ∧ res.flags.noUsableEnd = false) ∧
        ((∀ k, ¬usable n k) → res.usableEnd = none ∧ res.flags.noUsableEnd = true)) ∧
      ((∀ (i : Fin 32) (a : Assortment), q.bank[i] = some a → ¬eligible a) →
        res.flags.noEligible = true ∧ res.usableEnd = none ∧ res.flags.noUsableEnd = false)) ∧
    (∀ m, q.members.find? (fun m => m.isLead) = some m →
      res.taper = profileTaper m.profile q.taperWindow m.taper ∧
      (∀ p d, m.profile.getLast? = some (p, d) → (res.flags.defaultTaper = true ↔ p < q.taperWindow)) ∧
      ∀ x ∈ res.pieces, x.topDiameter = thick m x.cutPosition) ∧
    (q.override = none → res.flags.overrideDropped = false ∧
      res.pieces = (optimizerTrace q.candidates origin earliest allowance).map q.optimizerPiece) ∧
    (∀ o, q.override = some o →
      (placed o → res.flags.overrideDropped = false ∧ ∃ x, x.source = .override ∧ x.status = .planned ∧
        x.assortment = o.assortment ∧ x.nominal = o.nominal ∧ x.cutPosition = origin + o.nominal ∧
        (∀ a, (q.bank[o.assortment]?).join = some a → x.value = worth a o.nominal (origin + o.nominal)) ∧
        res.pieces = x :: (traceRows (tableRows q.candidates (allowance - 1)) (o.nominal / 100)).map q.optimizerPiece) ∧
      (¬placed o → res.flags.overrideDropped = true ∧
        res.pieces = (Snapshot.result { q with override := none } number).pieces)) ∧
    (∀ before p after, res.pieces = before ++ p :: after →
      let lower : Int := (before.getLast?.map (·.cutPosition)).getD origin
      p.cutPosition = lower + p.nominal ∧ p.cutPosition ≤ 60000 ∧ p.status = .planned ∧
      (p.source = .override → before = [] ∧ q.override = some ⟨p.assortment, p.nominal⟩) ∧
      (p.source = .optimizer → ∃ a : Assortment, fits p.assortment a p.nominal lower ∧
        p.value = worth a p.nominal p.cutPosition)) ∧
    ((∀ (i : Nat) (a : Assortment) (nominal k : Nat), fits i a nominal (origin + 100 * (k : Int)) →
        ∃ c ∈ q.candidates.getD k [], c.assortment = i ∧ c.nominal = nominal ∧ c.next = k + nominal / 100 ∧
          c.value = worth a nominal (origin + 100 * (k : Int) + nominal)) ∧
      ((∀ (i : Fin 32) (a : Assortment), q.bank[i] = some a → a.lengths.Pairwise (· < ·)) →
        ∀ row ∈ q.candidates, row.Pairwise fun a b =>
          a.assortment < b.assortment ∨ (a.assortment = b.assortment ∧ b.nominal < a.nominal)))

/-! ### Status and reinitialisation (chapters 9 and 10) -/

/-- READ_STATUS (R180, R183, R185) answers with every block's items and clears the two lost counts, and nothing else
(its bytes follow logs 13, 16 and 24). REINITIALISE (R1, R2, R79, R92, R163, R174, R187) with scope STEMS or ALL: what each
block keeps and what it loses, with the notices in their order; another scope is answered RANGE and changes nothing. An
ABORTED result's items are log 14's, the order of the blocks at ALL log 23's, and the transmitter's choice log 7's. -/
def Obligations.StatusAndReinitialise : Prop :=
  ∀ (s : State) (tag : Byte), s.busIdle →
    let bit (p : Bool) : List Byte := u8 (if p then 1 else 0)
    let complete (c : Channel) : Bool := decide (∀ i : Fin 9, (s.dsq.table c)[i].isSome)
    let filled (b : Bank) : Nat := (Finset.univ.filter fun i : Fin 32 => b[i].isSome).card
    let st := s.fcs.state
    let items : List Bool := [complete .ukl, complete .ukr, complete .frl, complete .frr, s.params.wheelConstant != 0,
      s.params.rollerConstant != 0, decide (0 < filled s.atb.active)]
    let port := u8 s.hbp.node.toNat ++ u8 s.hbp.requests.length ++ u8 s.hbp.notices.length ++ u8 s.hbp.requestsLost ++
      u8 s.hbp.noticesLost
    let stems := u8 ((List.range 8).filter fun i => (s.record? i).isNone).length ++
      u8 (if s.groupState = .empty then 0 else if s.groupState = .held then 1 else 2) ++ u8 s.stb.group.length ++
      u8 s.processingCount ++ u16 ((s.lead?.map (·.2.handle)).getD 65535) ++ u16 s.stb.nextHandle
    let length := i32 s.lnu.length ++ bit s.lnu.limit ++ u8 s.lnu.source.number ++ u8 s.lnu.n ++ bit s.lnu.wheelFaulty ++
      bit s.lnu.rollerFaulty ++ bit s.lnu.slipSuspended ++ posU16 s.lnu.trigger ++
      u8 ((if s.lnu.slipSuspect then 1 else 0) + (if s.lnu.rollerLen then 2 else 0))
    let sequences := u8 s.dsq.stateNumber ++ bit s.dsq.feedPending.isSome ++ bit s.dsq.trimPending.isSome ++
      bit s.dsq.cabPending.isSome ++ bit (complete .ukl) ++ bit (complete .ukr) ++ bit (complete .frl) ++
      bit (complete .frr)
    let banks := u8 s.atb.lockSize ++ bit s.atb.swapPending ++ u8 (filled s.atb.active) ++ u8 (filled s.atb.edit) ++
      bit (decide (0 < filled s.atb.active))
    let passes := bit s.bke.inFlight.isSome ++ u8 ((s.bke.inFlight.map (·.number)).getD 255) ++ bit s.bke.flag ++
      u8 s.bke.counter ++ u8 s.bke.lastOutcome.number ++ u8 s.bke.lastOutcomePass
    let sequencer := u8 st.number ++ u8 ((s.fcs.pause.map PauseReason.number).getD 255) ++ optPosU16 s.target? ++
      bit (s.lead?.any fun m => decide (m.2.held ≠ [])) ++ u8 s.fcs.reversals ++ bit s.fcs.overshoot ++
      u8 ((s.fcs.cutKind.map CutKind.number).getD 255) ++ bit s.fcs.stopped ++
      bit (st == .feeding || st == .creeping) ++ bit (st == .feeding) ++ bit (st == .reversing) ++
      bit (st == .felling || st == .cutting) ++ bit (st == .felling || !s.stb.group.isEmpty) ++
      bit (!s.stb.group.isEmpty) ++ bit s.lines.sawHome.accepted ++ bit s.lines.sawEnd.accepted ++
      bit s.lines.halt.accepted
    exec (.readStatus tag) s = .next (State.answered
      { s with hbp.requestsLost := 0, hbp.noticesLost := 0 } 65 tag ⟨.ok, port ++ stems ++ length ++ sequences ++ banks ++
        passes ++ sequencer ++ bit (items.all id) ++ items.flatMap bit⟩) ∧
    (∀ (priority : BitVec 3) (scope : Byte), 2 ≤ scope.toNat → s.hbp.partialRequest = none →
      exec (.firstFrame (requestFrame priority s.hbp.node 66 tag [scope] 0)) s =
        .next (s.answered 66 tag ⟨.range, []⟩)) ∧
    (let aborted : List Notice := match s.dsq.cabPending, s.dsq.running with
      | some c, _ => [.measureResult c.tag c.mask c.averaging none]
      | none, some q => match q.target with
        | .cab c => [.measureResult c.tag c.mask c.averaging none]
        | _ => []
      | none, none => []
    let swaps := s.processingCount ≠ 0 ∧ s.atb.swapPending = true
    let swapped : List Notice := if swaps then [.banksSwapped .atSafePoint
      (Finset.univ.filter fun i : Fin 32 => s.atb.active[i] ≠ s.atb.edit[i]).card
      (Finset.univ.filter fun i : Fin 32 => s.atb.edit[i].isSome).card s.atb.lockSize] else []
    let source : SourceState := if s.lines.wheelContact.accepted then .wheel else .roller
    let lnu (p : Parameters) : LengthUnit := ⟨0, 0, 0, 0, false, source, 0, ⟨0, 0, 0, 0, 0, p.slipWindow⟩, 0, 0, false,
      false, false, 0, false, !s.lines.wheelContact.accepted⟩
    let freed (u : State) := (∀ i, u.record? i = none) ∧ u.stb.group = [] ∧ u.stb.nextHandle = s.stb.nextHandle ∧
      u.dsq.running = none ∧ u.dsq.feedPending = none ∧ u.dsq.trimPending = none ∧ u.dsq.cabPending = none ∧
      u.bke = { s.bke with inFlight := s.bke.inFlight.map fun p => { p with void := true }, flag := false } ∧
      u.fcs = Sequencer.reset (if s.lines.halt.accepted then .halted else .idle) ∧
      u.lines = s.lines ∧ u.pending = s.pending
    (∃ u, exec (.reinitialiseStems tag) s = .next (u.answered 66 tag ⟨.ok, []⟩) ∧ freed u ∧ u.lnu = lnu s.params ∧
      u.params = s.params ∧ (∀ c : Channel, u.dsq.table c = s.dsq.table c) ∧
      u.atb = (if swaps then { s.atb with active := s.atb.edit, swapPending := false } else s.atb) ∧
      u.hbp = (s.told (aborted ++ swapped)).hbp) ∧
    ∃ u, exec (.reinitialiseAll tag) s = .next (u.answered 66 tag ⟨.ok, []⟩) ∧ freed u ∧ u.lnu = lnu .default ∧
      u.params = .default ∧ (∀ (c : Channel) (i : Fin 9), (u.dsq.table c)[i] = none) ∧ u.atb = .powerOn ∧
      u.hbp = (s.told aborted).hbp)

/-- The machine at reset meets every law that each step keeps. -/
def Obligations.LawsHoldAtReset : Prop :=
  State.reset.BusLaw ∧ State.reset.CalibrationLaw ∧ State.reset.LockLaw ∧ State.reset.HandleLaw ∧
  State.reset.StemLaw ∧ State.reset.RequesterLaw ∧ State.reset.LengthLaw ∧ State.reset.SequencerLaw
end

