-- ==== Sys2Proof/Laws/Frames.lean ====
section
/-! SUPPORT. The frame of every shared operation: the blocks of the machine it leaves as they are. Each is tagged for simp, so
that no later proof unfolds an operation to see what it does not touch. -/

namespace Sys2Proof.Machine

open Sys2Proof

/-- What every step of a fold keeps, the fold keeps. -/
theorem foldl_kept {α β γ : Type} {f : β → α → β} (g : β → γ) (h : ∀ b a, g (f b a) = g b) (l : List α) (b : β) :
    g (l.foldl f b) = g b := by
  induction l generalizing b with
  | nil => rfl
  | cons a l ih => rw [List.foldl_cons, ih, h]

/-- What `State.offerNotice` leaves as it is. -/
@[simp] theorem State.offerNotice_frame (s : State) (n : Notice) :
    (s.offerNotice n).stb = s.stb ∧ (s.offerNotice n).lnu = s.lnu ∧ (s.offerNotice n).lines = s.lines ∧
      (s.offerNotice n).dsq = s.dsq ∧ (s.offerNotice n).atb = s.atb ∧ (s.offerNotice n).bke = s.bke ∧
      (s.offerNotice n).fcs = s.fcs ∧ (s.offerNotice n).params = s.params ∧ (s.offerNotice n).pending = s.pending := by
  simp only [State.offerNotice]
  (repeat' split) <;> simp

/-- What `State.setSlot` leaves as it is. -/
@[simp] theorem State.setSlot_frame (s : State) (i : Nat) (r : Option StemRecord) :
    (s.setSlot i r).hbp = s.hbp ∧ (s.setSlot i r).lnu = s.lnu ∧ (s.setSlot i r).lines = s.lines ∧
      (s.setSlot i r).dsq = s.dsq ∧ (s.setSlot i r).atb = s.atb ∧ (s.setSlot i r).bke = s.bke ∧
      (s.setSlot i r).fcs = s.fcs ∧ (s.setSlot i r).params = s.params ∧ (s.setSlot i r).pending = s.pending := by
  simp [State.setSlot]

/-- What `State.modifySlot` leaves as it is. -/
@[simp] theorem State.modifySlot_frame (s : State) (i : Nat) (f : StemRecord → StemRecord) :
    (s.modifySlot i f).hbp = s.hbp ∧ (s.modifySlot i f).lnu = s.lnu ∧ (s.modifySlot i f).lines = s.lines ∧
      (s.modifySlot i f).dsq = s.dsq ∧ (s.modifySlot i f).atb = s.atb ∧ (s.modifySlot i f).bke = s.bke ∧
      (s.modifySlot i f).fcs = s.fcs ∧ (s.modifySlot i f).params = s.params ∧ (s.modifySlot i f).pending = s.pending := by
  simp only [State.modifySlot]
  (repeat' split) <;> simp

/-- What `State.modifyMembers` leaves as it is. -/
@[simp] theorem State.modifyMembers_frame (s : State) (f : StemRecord → StemRecord) :
    (s.modifyMembers f).hbp = s.hbp ∧ (s.modifyMembers f).lnu = s.lnu ∧ (s.modifyMembers f).lines = s.lines ∧
      (s.modifyMembers f).dsq = s.dsq ∧ (s.modifyMembers f).atb = s.atb ∧ (s.modifyMembers f).bke = s.bke ∧
      (s.modifyMembers f).fcs = s.fcs ∧ (s.modifyMembers f).params = s.params ∧ (s.modifyMembers f).pending = s.pending := by
  simp only [State.modifyMembers]
  exact ⟨foldl_kept (fun t : State => t.hbp) (by intros; simp) _ _,
    foldl_kept (fun t : State => t.lnu) (by intros; simp) _ _,
    foldl_kept (fun t : State => t.lines) (by intros; simp) _ _,
    foldl_kept (fun t : State => t.dsq) (by intros; simp) _ _,
    foldl_kept (fun t : State => t.atb) (by intros; simp) _ _,
    foldl_kept (fun t : State => t.bke) (by intros; simp) _ _,
    foldl_kept (fun t : State => t.fcs) (by intros; simp) _ _,
    foldl_kept (fun t : State => t.params) (by intros; simp) _ _,
    foldl_kept (fun t : State => t.pending) (by intros; simp) _ _⟩

/-- What `State.modifyActive` leaves as it is. -/
@[simp] theorem State.modifyActive_frame (s : State) (f : StemRecord → StemRecord) :
    (s.modifyActive f).hbp = s.hbp ∧ (s.modifyActive f).lnu = s.lnu ∧ (s.modifyActive f).lines = s.lines ∧
      (s.modifyActive f).dsq = s.dsq ∧ (s.modifyActive f).atb = s.atb ∧ (s.modifyActive f).bke = s.bke ∧
      (s.modifyActive f).fcs = s.fcs ∧ (s.modifyActive f).params = s.params ∧ (s.modifyActive f).pending = s.pending := by
  simp only [State.modifyActive]
  (repeat' split) <;> simp

/-- What `State.modifyLead` leaves as it is. -/
@[simp] theorem State.modifyLead_frame (s : State) (f : StemRecord → StemRecord) :
    (s.modifyLead f).hbp = s.hbp ∧ (s.modifyLead f).lnu = s.lnu ∧ (s.modifyLead f).lines = s.lines ∧
      (s.modifyLead f).dsq = s.dsq ∧ (s.modifyLead f).atb = s.atb ∧ (s.modifyLead f).bke = s.bke ∧
      (s.modifyLead f).fcs = s.fcs ∧ (s.modifyLead f).params = s.params ∧ (s.modifyLead f).pending = s.pending := by
  simp only [State.modifyLead]
  (repeat' split) <;> simp

/-- What `State.setEdit` leaves as it is. -/
@[simp] theorem State.setEdit_frame (s : State) (i : Nat) (e : Option Assortment) :
    (s.setEdit i e).hbp = s.hbp ∧ (s.setEdit i e).stb = s.stb ∧ (s.setEdit i e).lnu = s.lnu ∧
      (s.setEdit i e).lines = s.lines ∧ (s.setEdit i e).dsq = s.dsq ∧ (s.setEdit i e).bke = s.bke ∧
      (s.setEdit i e).fcs = s.fcs ∧ (s.setEdit i e).params = s.params ∧ (s.setEdit i e).pending = s.pending := by
  simp [State.setEdit]

/-- What `State.applySwap` leaves as it is. -/
@[simp] theorem State.applySwap_frame (s : State) (o : SwapOccasion) :
    (s.applySwap o).stb = s.stb ∧ (s.applySwap o).lnu = s.lnu ∧ (s.applySwap o).lines = s.lines ∧
      (s.applySwap o).dsq = s.dsq ∧ (s.applySwap o).bke = s.bke ∧ (s.applySwap o).fcs = s.fcs ∧
      (s.applySwap o).params = s.params ∧ (s.applySwap o).pending = s.pending := by
  simp [State.applySwap]

/-- What `State.safePoint` leaves as it is. -/
@[simp] theorem State.safePoint_frame (s : State) :
    (s.safePoint).stb = s.stb ∧ (s.safePoint).lnu = s.lnu ∧ (s.safePoint).lines = s.lines ∧
      (s.safePoint).dsq = s.dsq ∧ (s.safePoint).bke = s.bke ∧ (s.safePoint).fcs = s.fcs ∧
      (s.safePoint).params = s.params ∧ (s.safePoint).pending = s.pending := by
  simp only [State.safePoint]
  (repeat' split) <;> simp

/-- What `State.raiseLock` leaves as it is. -/
@[simp] theorem State.raiseLock_frame (s : State) (n : Nat) :
    (s.raiseLock n).hbp = s.hbp ∧ (s.raiseLock n).stb = s.stb ∧ (s.raiseLock n).lnu = s.lnu ∧
      (s.raiseLock n).lines = s.lines ∧ (s.raiseLock n).dsq = s.dsq ∧ (s.raiseLock n).bke = s.bke ∧
      (s.raiseLock n).fcs = s.fcs ∧ (s.raiseLock n).params = s.params ∧ (s.raiseLock n).pending = s.pending := by
  simp [State.raiseLock]

/-- What `State.startPass` leaves as it is. -/
@[simp] theorem State.startPass_frame (s : State) (r : StemRecord) :
    (s.startPass r).hbp = s.hbp ∧ (s.startPass r).stb = s.stb ∧ (s.startPass r).lnu = s.lnu ∧
      (s.startPass r).lines = s.lines ∧ (s.startPass r).dsq = s.dsq ∧ (s.startPass r).atb = s.atb ∧
      (s.startPass r).fcs = s.fcs ∧ (s.startPass r).params = s.params ∧ (s.startPass r).pending = s.pending := by
  simp [State.startPass]

/-- What `State.requestPass` leaves as it is. -/
@[simp] theorem State.requestPass_frame (s : State) :
    (s.requestPass).hbp = s.hbp ∧ (s.requestPass).stb = s.stb ∧ (s.requestPass).lnu = s.lnu ∧
      (s.requestPass).lines = s.lines ∧ (s.requestPass).dsq = s.dsq ∧ (s.requestPass).atb = s.atb ∧
      (s.requestPass).fcs = s.fcs ∧ (s.requestPass).params = s.params ∧ (s.requestPass).pending = s.pending := by
  simp only [State.requestPass]
  (repeat' split) <;> simp

/-- What `State.voidPass` leaves as it is. -/
@[simp] theorem State.voidPass_frame (s : State) :
    (s.voidPass).hbp = s.hbp ∧ (s.voidPass).stb = s.stb ∧ (s.voidPass).lnu = s.lnu ∧
      (s.voidPass).lines = s.lines ∧ (s.voidPass).dsq = s.dsq ∧ (s.voidPass).atb = s.atb ∧
      (s.voidPass).fcs = s.fcs ∧ (s.voidPass).params = s.params ∧ (s.voidPass).pending = s.pending := by
  simp [State.voidPass]

/-- What `State.voidPassOf` leaves as it is. -/
@[simp] theorem State.voidPassOf_frame (s : State) (h : Nat) :
    (s.voidPassOf h).hbp = s.hbp ∧ (s.voidPassOf h).stb = s.stb ∧ (s.voidPassOf h).lnu = s.lnu ∧
      (s.voidPassOf h).lines = s.lines ∧ (s.voidPassOf h).dsq = s.dsq ∧ (s.voidPassOf h).atb = s.atb ∧
      (s.voidPassOf h).fcs = s.fcs ∧ (s.voidPassOf h).params = s.params ∧ (s.voidPassOf h).pending = s.pending := by
  simp only [State.voidPassOf]
  (repeat' split) <;> simp

/-- What `State.recordOutcome` leaves as it is. -/
@[simp] theorem State.recordOutcome_frame (s : State) (o : PassOutcome) (n : Nat) :
    (s.recordOutcome o n).hbp = s.hbp ∧ (s.recordOutcome o n).stb = s.stb ∧ (s.recordOutcome o n).lnu = s.lnu ∧
      (s.recordOutcome o n).lines = s.lines ∧ (s.recordOutcome o n).dsq = s.dsq ∧ (s.recordOutcome o n).atb = s.atb ∧
      (s.recordOutcome o n).fcs = s.fcs ∧ (s.recordOutcome o n).params = s.params ∧ (s.recordOutcome o n).pending = s.pending := by
  simp [State.recordOutcome]

/-- What `State.install` leaves as it is. -/
@[simp] theorem State.install_frame (s : State) (i : Nat) (r : StemRecord) (o : InstallOccasion) (res : PassResult) :
    (s.install i r o res).lnu = s.lnu ∧ (s.install i r o res).lines = s.lines ∧ (s.install i r o res).dsq = s.dsq ∧
      (s.install i r o res).atb = s.atb ∧ (s.install i r o res).bke = s.bke ∧ (s.install i r o res).fcs = s.fcs ∧
      (s.install i r o res).params = s.params ∧ (s.install i r o res).pending = s.pending := by
  simp [State.install]

/-- What `State.checkPending` leaves as it is. -/
@[simp] theorem State.checkPending_frame (s : State) :
    (s.checkPending).lnu = s.lnu ∧ (s.checkPending).lines = s.lines ∧ (s.checkPending).dsq = s.dsq ∧
      (s.checkPending).atb = s.atb ∧ (s.checkPending).fcs = s.fcs ∧ (s.checkPending).params = s.params ∧
      (s.checkPending).pending = s.pending := by
  simp only [State.checkPending]
  (repeat' split) <;> simp

/-- What `State.actOn` leaves as it is. -/
@[simp] theorem State.actOn_frame (s : State) (h : Option Override) (res : PassResult) (o : PassOutcome) :
    (s.actOn h res o).lnu = s.lnu ∧ (s.actOn h res o).lines = s.lines ∧ (s.actOn h res o).dsq = s.dsq ∧
      (s.actOn h res o).atb = s.atb ∧ (s.actOn h res o).fcs = s.fcs ∧ (s.actOn h res o).params = s.params ∧
      (s.actOn h res o).pending = s.pending := by
  simp only [State.actOn]
  (repeat' split) <;> simp

/-- What `State.nextPass` leaves as it is. -/
@[simp] theorem State.nextPass_frame (s : State) :
    (s.nextPass).hbp = s.hbp ∧ (s.nextPass).stb = s.stb ∧ (s.nextPass).lnu = s.lnu ∧
      (s.nextPass).lines = s.lines ∧ (s.nextPass).dsq = s.dsq ∧ (s.nextPass).atb = s.atb ∧
      (s.nextPass).fcs = s.fcs ∧ (s.nextPass).params = s.params ∧ (s.nextPass).pending = s.pending := by
  simp only [State.nextPass]
  (repeat' split) <;> simp

/-- What `State.finishPass` leaves as it is. -/
@[simp] theorem State.finishPass_frame (s : State) (p : Pass) :
    (s.finishPass p).lnu = s.lnu ∧ (s.finishPass p).lines = s.lines ∧ (s.finishPass p).dsq = s.dsq ∧
      (s.finishPass p).atb = s.atb ∧ (s.finishPass p).fcs = s.fcs ∧ (s.finishPass p).params = s.params ∧
      (s.finishPass p).pending = s.pending := by
  simp [State.finishPass]

/-- What `State.openRecord` leaves as it is. -/
@[simp] theorem State.openRecord_frame (s : State) (i sp : Nat) :
    (s.openRecord i sp).hbp = s.hbp ∧ (s.openRecord i sp).lnu = s.lnu ∧ (s.openRecord i sp).lines = s.lines ∧
      (s.openRecord i sp).dsq = s.dsq ∧ (s.openRecord i sp).atb = s.atb ∧ (s.openRecord i sp).bke = s.bke ∧
      (s.openRecord i sp).fcs = s.fcs ∧ (s.openRecord i sp).params = s.params ∧ (s.openRecord i sp).pending = s.pending := by
  simp [State.openRecord]

/-- What `State.pushRecord` leaves as it is. -/
@[simp] theorem State.pushRecord_frame (s : State) (i : Nat) :
    (s.pushRecord i).lnu = s.lnu ∧ (s.pushRecord i).lines = s.lines ∧ (s.pushRecord i).dsq = s.dsq ∧
      (s.pushRecord i).atb = s.atb ∧ (s.pushRecord i).bke = s.bke ∧ (s.pushRecord i).fcs = s.fcs ∧
      (s.pushRecord i).params = s.params ∧ (s.pushRecord i).pending = s.pending := by
  simp only [State.pushRecord]
  (repeat' split) <;> simp

/-- What `State.closeRecord` leaves as it is. -/
@[simp] theorem State.closeRecord_frame (s : State) (i : Nat) (st : StemState) (why : EndReason) :
    (s.closeRecord i st why).lnu = s.lnu ∧ (s.closeRecord i st why).lines = s.lines ∧ (s.closeRecord i st why).dsq = s.dsq ∧
      (s.closeRecord i st why).bke = s.bke ∧ (s.closeRecord i st why).fcs = s.fcs ∧ (s.closeRecord i st why).params = s.params ∧
      (s.closeRecord i st why).pending = s.pending := by
  simp only [State.closeRecord]
  (repeat' split) <;> simp

/-- What `State.closeAll` leaves as it is. -/
@[simp] theorem State.closeAll_frame (s : State) (l : List Nat) (st : StemRecord → StemState) (why : EndReason) :
    (s.closeAll l st why).lnu = s.lnu ∧ (s.closeAll l st why).lines = s.lines ∧ (s.closeAll l st why).dsq = s.dsq ∧
      (s.closeAll l st why).bke = s.bke ∧ (s.closeAll l st why).fcs = s.fcs ∧ (s.closeAll l st why).params = s.params ∧
      (s.closeAll l st why).pending = s.pending := by
  simp only [State.closeAll]
  exact ⟨foldl_kept (fun t : State => t.lnu) (by intros; split <;> simp) _ _,
    foldl_kept (fun t : State => t.lines) (by intros; split <;> simp) _ _,
    foldl_kept (fun t : State => t.dsq) (by intros; split <;> simp) _ _,
    foldl_kept (fun t : State => t.bke) (by intros; split <;> simp) _ _,
    foldl_kept (fun t : State => t.fcs) (by intros; split <;> simp) _ _,
    foldl_kept (fun t : State => t.params) (by intros; split <;> simp) _ _,
    foldl_kept (fun t : State => t.pending) (by intros; split <;> simp) _ _⟩

/-- What `State.releaseGroup` leaves as it is. -/
@[simp] theorem State.releaseGroup_frame (s : State) :
    (s.releaseGroup).lnu = s.lnu ∧ (s.releaseGroup).lines = s.lines ∧ (s.releaseGroup).dsq = s.dsq ∧
      (s.releaseGroup).bke = s.bke ∧ (s.releaseGroup).fcs = s.fcs ∧ (s.releaseGroup).params = s.params ∧
      (s.releaseGroup).pending = s.pending := by
  simp [State.releaseGroup]

/-- What `State.notifyPieces` leaves as it is. -/
@[simp] theorem State.notifyPieces_frame (s : State) :
    (s.notifyPieces).stb = s.stb ∧ (s.notifyPieces).lnu = s.lnu ∧ (s.notifyPieces).lines = s.lines ∧
      (s.notifyPieces).dsq = s.dsq ∧ (s.notifyPieces).atb = s.atb ∧ (s.notifyPieces).bke = s.bke ∧
      (s.notifyPieces).fcs = s.fcs ∧ (s.notifyPieces).params = s.params ∧ (s.notifyPieces).pending = s.pending := by
  simp only [State.notifyPieces]
  exact ⟨foldl_kept (fun t : State => t.stb) (by intros; simp) _ _,
    foldl_kept (fun t : State => t.lnu) (by intros; simp) _ _,
    foldl_kept (fun t : State => t.lines) (by intros; simp) _ _,
    foldl_kept (fun t : State => t.dsq) (by intros; simp) _ _,
    foldl_kept (fun t : State => t.atb) (by intros; simp) _ _,
    foldl_kept (fun t : State => t.bke) (by intros; simp) _ _,
    foldl_kept (fun t : State => t.fcs) (by intros; simp) _ _,
    foldl_kept (fun t : State => t.params) (by intros; simp) _ _,
    foldl_kept (fun t : State => t.pending) (by intros; simp) _ _⟩

/-- What `State.recordPieces` leaves as it is. -/
@[simp] theorem State.recordPieces_frame (s : State) (f : StemRecord → Piece) :
    (s.recordPieces f).hbp = s.hbp ∧ (s.recordPieces f).lnu = s.lnu ∧ (s.recordPieces f).lines = s.lines ∧
      (s.recordPieces f).dsq = s.dsq ∧ (s.recordPieces f).atb = s.atb ∧ (s.recordPieces f).bke = s.bke ∧
      (s.recordPieces f).fcs = s.fcs ∧ (s.recordPieces f).params = s.params ∧ (s.recordPieces f).pending = s.pending := by
  simp [State.recordPieces]

/-- What `State.recordPlannedCut` leaves as it is. -/
@[simp] theorem State.recordPlannedCut_frame (s : State) :
    (s.recordPlannedCut).lnu = s.lnu ∧ (s.recordPlannedCut).lines = s.lines ∧ (s.recordPlannedCut).dsq = s.dsq ∧
      (s.recordPlannedCut).atb = s.atb ∧ (s.recordPlannedCut).bke = s.bke ∧ (s.recordPlannedCut).fcs = s.fcs ∧
      (s.recordPlannedCut).params = s.params ∧ (s.recordPlannedCut).pending = s.pending := by
  simp only [State.recordPlannedCut]
  (repeat' split) <;> simp

/-- What `State.recordOffPlanCut` leaves as it is. -/
@[simp] theorem State.recordOffPlanCut_frame (s : State) :
    (s.recordOffPlanCut).lnu = s.lnu ∧ (s.recordOffPlanCut).lines = s.lines ∧ (s.recordOffPlanCut).dsq = s.dsq ∧
      (s.recordOffPlanCut).atb = s.atb ∧ (s.recordOffPlanCut).bke = s.bke ∧ (s.recordOffPlanCut).fcs = s.fcs ∧
      (s.recordOffPlanCut).params = s.params ∧ (s.recordOffPlanCut).pending = s.pending := by
  simp [State.recordOffPlanCut]

/-- What `State.recompute` leaves as it is. -/
@[simp] theorem State.recompute_frame (s : State) :
    (s.recompute).hbp = s.hbp ∧ (s.recompute).stb = s.stb ∧ (s.recompute).lines = s.lines ∧
      (s.recompute).dsq = s.dsq ∧ (s.recompute).atb = s.atb ∧ (s.recompute).bke = s.bke ∧
      (s.recompute).fcs = s.fcs ∧ (s.recompute).params = s.params ∧ (s.recompute).pending = s.pending := by
  simp [State.recompute]

/-- What `State.rebase` leaves as it is. -/
@[simp] theorem State.rebase_frame (s : State) (w : Bool) :
    (s.rebase w).hbp = s.hbp ∧ (s.rebase w).stb = s.stb ∧ (s.rebase w).lines = s.lines ∧
      (s.rebase w).dsq = s.dsq ∧ (s.rebase w).atb = s.atb ∧ (s.rebase w).bke = s.bke ∧
      (s.rebase w).fcs = s.fcs ∧ (s.rebase w).params = s.params ∧ (s.rebase w).pending = s.pending := by
  simp only [State.rebase]
  (repeat' split) <;> simp

/-- What `State.newWindow` leaves as it is. -/
@[simp] theorem State.newWindow_frame (s : State) :
    (s.newWindow).hbp = s.hbp ∧ (s.newWindow).stb = s.stb ∧ (s.newWindow).lines = s.lines ∧
      (s.newWindow).dsq = s.dsq ∧ (s.newWindow).atb = s.atb ∧ (s.newWindow).bke = s.bke ∧
      (s.newWindow).fcs = s.fcs ∧ (s.newWindow).params = s.params ∧ (s.newWindow).pending = s.pending := by
  simp [State.newWindow]

/-- What `State.setSource` leaves as it is. -/
@[simp] theorem State.setSource_frame (s : State) (new : SourceState) (n : Nat) (c : SourceCause) :
    (s.setSource new n c).lines = s.lines ∧ (s.setSource new n c).dsq = s.dsq ∧ (s.setSource new n c).atb = s.atb ∧
      (s.setSource new n c).bke = s.bke ∧ (s.setSource new n c).fcs = s.fcs ∧ (s.setSource new n c).params = s.params ∧
      (s.setSource new n c).pending = s.pending := by
  simp only [State.setSource]
  (repeat' split) <;> simp

/-- What `State.forceRoller` leaves as it is. -/
@[simp] theorem State.forceRoller_frame (s : State) (c : SourceCause) :
    (s.forceRoller c).lines = s.lines ∧ (s.forceRoller c).dsq = s.dsq ∧ (s.forceRoller c).atb = s.atb ∧
      (s.forceRoller c).bke = s.bke ∧ (s.forceRoller c).fcs = s.fcs ∧ (s.forceRoller c).params = s.params ∧
      (s.forceRoller c).pending = s.pending := by
  simp only [State.forceRoller]
  (repeat' split) <;> simp

/-- What `State.judgedMove` leaves as it is. -/
@[simp] theorem State.judgedMove_frame (s : State) (d : Bool) :
    (s.judgedMove d).lines = s.lines ∧ (s.judgedMove d).dsq = s.dsq ∧ (s.judgedMove d).atb = s.atb ∧
      (s.judgedMove d).bke = s.bke ∧ (s.judgedMove d).fcs = s.fcs ∧ (s.judgedMove d).params = s.params ∧
      (s.judgedMove d).pending = s.pending := by
  simp only [State.judgedMove]
  (repeat' split) <;> simp

/-- What `State.reportDisputed` leaves as it is. -/
@[simp] theorem State.reportDisputed_frame (s : State) :
    (s.reportDisputed).hbp = s.hbp ∧ (s.reportDisputed).lnu = s.lnu ∧ (s.reportDisputed).lines = s.lines ∧
      (s.reportDisputed).dsq = s.dsq ∧ (s.reportDisputed).atb = s.atb ∧ (s.reportDisputed).bke = s.bke ∧
      (s.reportDisputed).fcs = s.fcs ∧ (s.reportDisputed).params = s.params ∧ (s.reportDisputed).pending = s.pending := by
  simp only [State.reportDisputed]
  (repeat' split) <;> simp

/-- What `State.judgeWindow` leaves as it is. -/
@[simp] theorem State.judgeWindow_frame (s : State) :
    (s.judgeWindow).lines = s.lines ∧ (s.judgeWindow).dsq = s.dsq ∧ (s.judgeWindow).atb = s.atb ∧
      (s.judgeWindow).bke = s.bke ∧ (s.judgeWindow).fcs = s.fcs ∧ (s.judgeWindow).params = s.params ∧
      (s.judgeWindow).pending = s.pending := by
  simp only [State.judgeWindow]
  (repeat' split) <;> simp

/-- What `State.endWindow` leaves as it is. -/
@[simp] theorem State.endWindow_frame (s : State) :
    (s.endWindow).lines = s.lines ∧ (s.endWindow).dsq = s.dsq ∧ (s.endWindow).atb = s.atb ∧
      (s.endWindow).bke = s.bke ∧ (s.endWindow).fcs = s.fcs ∧ (s.endWindow).params = s.params ∧
      (s.endWindow).pending = s.pending := by
  simp only [State.endWindow]
  (repeat' split) <;> simp

/-- What `State.clearPieceFlags` leaves as it is. -/
@[simp] theorem State.clearPieceFlags_frame (s : State) :
    (s.clearPieceFlags).hbp = s.hbp ∧ (s.clearPieceFlags).stb = s.stb ∧ (s.clearPieceFlags).lines = s.lines ∧
      (s.clearPieceFlags).dsq = s.dsq ∧ (s.clearPieceFlags).atb = s.atb ∧ (s.clearPieceFlags).bke = s.bke ∧
      (s.clearPieceFlags).fcs = s.fcs ∧ (s.clearPieceFlags).params = s.params ∧ (s.clearPieceFlags).pending = s.pending := by
  simp [State.clearPieceFlags]

/-- What `State.wheelBecomesFaulty` leaves as it is. -/
@[simp] theorem State.wheelBecomesFaulty_frame (s : State) :
    (s.wheelBecomesFaulty).lines = s.lines ∧ (s.wheelBecomesFaulty).dsq = s.dsq ∧ (s.wheelBecomesFaulty).atb = s.atb ∧
      (s.wheelBecomesFaulty).bke = s.bke ∧ (s.wheelBecomesFaulty).fcs = s.fcs ∧ (s.wheelBecomesFaulty).params = s.params ∧
      (s.wheelBecomesFaulty).pending = s.pending := by
  simp [State.wheelBecomesFaulty]

/-- What `State.rollerBecomesFaulty` leaves as it is. -/
@[simp] theorem State.rollerBecomesFaulty_frame (s : State) :
    (s.rollerBecomesFaulty).stb = s.stb ∧ (s.rollerBecomesFaulty).lines = s.lines ∧ (s.rollerBecomesFaulty).dsq = s.dsq ∧
      (s.rollerBecomesFaulty).atb = s.atb ∧ (s.rollerBecomesFaulty).bke = s.bke ∧ (s.rollerBecomesFaulty).fcs = s.fcs ∧
      (s.rollerBecomesFaulty).params = s.params ∧ (s.rollerBecomesFaulty).pending = s.pending := by
  simp [State.rollerBecomesFaulty]

/-- What `State.countQuadratureFault` leaves as it is. -/
@[simp] theorem State.countQuadratureFault_frame (s : State) (e : Encoder) :
    (s.countQuadratureFault e).lines = s.lines ∧ (s.countQuadratureFault e).dsq = s.dsq ∧ (s.countQuadratureFault e).atb = s.atb ∧
      (s.countQuadratureFault e).bke = s.bke ∧ (s.countQuadratureFault e).fcs = s.fcs ∧ (s.countQuadratureFault e).params = s.params ∧
      (s.countQuadratureFault e).pending = s.pending := by
  simp only [State.countQuadratureFault]
  (repeat' split) <;> simp

/-- What `State.contactChanged` leaves as it is. -/
@[simp] theorem State.contactChanged_frame (s : State) (b : Bool) :
    (s.contactChanged b).dsq = s.dsq ∧ (s.contactChanged b).atb = s.atb ∧ (s.contactChanged b).bke = s.bke ∧
      (s.contactChanged b).fcs = s.fcs ∧ (s.contactChanged b).params = s.params ∧ (s.contactChanged b).pending = s.pending := by
  simp only [State.contactChanged]
  (repeat' split) <;> simp

/-- What `State.restartLength` leaves as it is. -/
@[simp] theorem State.restartLength_frame (s : State) (t : Int) :
    (s.restartLength t).hbp = s.hbp ∧ (s.restartLength t).stb = s.stb ∧ (s.restartLength t).lines = s.lines ∧
      (s.restartLength t).dsq = s.dsq ∧ (s.restartLength t).atb = s.atb ∧ (s.restartLength t).bke = s.bke ∧
      (s.restartLength t).fcs = s.fcs ∧ (s.restartLength t).params = s.params ∧ (s.restartLength t).pending = s.pending := by
  simp [State.restartLength]

/-- What `State.datum` leaves as it is. -/
@[simp] theorem State.datum_frame (s : State) :
    (s.datum).stb = s.stb ∧ (s.datum).lines = s.lines ∧ (s.datum).dsq = s.dsq ∧
      (s.datum).atb = s.atb ∧ (s.datum).bke = s.bke ∧ (s.datum).fcs = s.fcs ∧
      (s.datum).params = s.params ∧ (s.datum).pending = s.pending := by
  simp only [State.datum]
  (repeat' split) <;> simp

/-- What `State.changeConstant` leaves as it is. -/
@[simp] theorem State.changeConstant_frame (s : State) (e : Encoder) (v : Nat) :
    (s.changeConstant e v).hbp = s.hbp ∧ (s.changeConstant e v).stb = s.stb ∧ (s.changeConstant e v).lines = s.lines ∧
      (s.changeConstant e v).dsq = s.dsq ∧ (s.changeConstant e v).atb = s.atb ∧ (s.changeConstant e v).bke = s.bke ∧
      (s.changeConstant e v).fcs = s.fcs ∧ (s.changeConstant e v).pending = s.pending := by
  simp only [State.changeConstant]
  (repeat' split) <;> simp

/-- What `State.moveTo` leaves as it is. -/
@[simp] theorem State.moveTo_frame (s : State) (st : SeqState) (why : Option PauseReason) :
    (s.moveTo st why).hbp = s.hbp ∧ (s.moveTo st why).stb = s.stb ∧ (s.moveTo st why).lnu = s.lnu ∧
      (s.moveTo st why).lines = s.lines ∧ (s.moveTo st why).dsq = s.dsq ∧ (s.moveTo st why).atb = s.atb ∧
      (s.moveTo st why).bke = s.bke ∧ (s.moveTo st why).params = s.params ∧ (s.moveTo st why).pending = s.pending := by
  simp [State.moveTo]

/-- What `State.notifyState` leaves as it is. -/
@[simp] theorem State.notifyState_frame (s : State) (p : SeqState) :
    (s.notifyState p).stb = s.stb ∧ (s.notifyState p).lnu = s.lnu ∧ (s.notifyState p).lines = s.lines ∧
      (s.notifyState p).dsq = s.dsq ∧ (s.notifyState p).atb = s.atb ∧ (s.notifyState p).bke = s.bke ∧
      (s.notifyState p).fcs = s.fcs ∧ (s.notifyState p).params = s.params ∧ (s.notifyState p).pending = s.pending := by
  simp [State.notifyState]

/-- What `State.enter` leaves as it is. -/
@[simp] theorem State.enter_frame (s : State) (st : SeqState) :
    (s.enter st).stb = s.stb ∧ (s.enter st).lnu = s.lnu ∧ (s.enter st).lines = s.lines ∧
      (s.enter st).dsq = s.dsq ∧ (s.enter st).atb = s.atb ∧ (s.enter st).bke = s.bke ∧
      (s.enter st).params = s.params ∧ (s.enter st).pending = s.pending := by
  simp [State.enter]

/-- What `State.enterStop` leaves as it is. -/
@[simp] theorem State.enterStop_frame (s : State) (st : SeqState) (why : Option PauseReason) :
    (s.enterStop st why).lnu = s.lnu ∧ (s.enterStop st why).lines = s.lines ∧ (s.enterStop st why).dsq = s.dsq ∧
      (s.enterStop st why).atb = s.atb ∧ (s.enterStop st why).params = s.params ∧ (s.enterStop st why).pending = s.pending := by
  simp [State.enterStop]

/-- What `State.enterPaused` leaves as it is. -/
@[simp] theorem State.enterPaused_frame (s : State) (why : PauseReason) :
    (s.enterPaused why).lnu = s.lnu ∧ (s.enterPaused why).lines = s.lines ∧ (s.enterPaused why).dsq = s.dsq ∧
      (s.enterPaused why).atb = s.atb ∧ (s.enterPaused why).params = s.params ∧ (s.enterPaused why).pending = s.pending := by
  simp [State.enterPaused]

/-- What `State.enterSettling` leaves as it is. -/
@[simp] theorem State.enterSettling_frame (s : State) :
    (s.enterSettling).lnu = s.lnu ∧ (s.enterSettling).lines = s.lines ∧ (s.enterSettling).dsq = s.dsq ∧
      (s.enterSettling).atb = s.atb ∧ (s.enterSettling).params = s.params ∧ (s.enterSettling).pending = s.pending := by
  simp [State.enterSettling]

/-- What `State.arrivalTest` leaves as it is. -/
@[simp] theorem State.arrivalTest_frame (s : State) :
    (s.arrivalTest).lnu = s.lnu ∧ (s.arrivalTest).lines = s.lines ∧ (s.arrivalTest).dsq = s.dsq ∧
      (s.arrivalTest).atb = s.atb ∧ (s.arrivalTest).params = s.params ∧ (s.arrivalTest).pending = s.pending := by
  simp only [State.arrivalTest]
  (repeat' split) <;> simp

/-- What `State.enterCreeping` leaves as it is. -/
@[simp] theorem State.enterCreeping_frame (s : State) :
    (s.enterCreeping).lnu = s.lnu ∧ (s.enterCreeping).lines = s.lines ∧ (s.enterCreeping).dsq = s.dsq ∧
      (s.enterCreeping).atb = s.atb ∧ (s.enterCreeping).params = s.params ∧ (s.enterCreeping).pending = s.pending := by
  simp [State.enterCreeping]

/-- What `State.commit` leaves as it is. -/
@[simp] theorem State.commit_frame (s : State) :
    (s.commit).hbp = s.hbp ∧ (s.commit).lnu = s.lnu ∧ (s.commit).lines = s.lines ∧
      (s.commit).dsq = s.dsq ∧ (s.commit).atb = s.atb ∧ (s.commit).bke = s.bke ∧
      (s.commit).params = s.params ∧ (s.commit).pending = s.pending := by
  simp only [State.commit]
  (repeat' split) <;> simp

/-- What `State.approachTest` leaves as it is. -/
@[simp] theorem State.approachTest_frame (s : State) :
    (s.approachTest).lnu = s.lnu ∧ (s.approachTest).lines = s.lines ∧ (s.approachTest).dsq = s.dsq ∧
      (s.approachTest).atb = s.atb ∧ (s.approachTest).params = s.params ∧ (s.approachTest).pending = s.pending := by
  simp only [State.approachTest]
  (repeat' split) <;> simp

/-- What `State.enterFeeding` leaves as it is. -/
@[simp] theorem State.enterFeeding_frame (s : State) :
    (s.enterFeeding).lnu = s.lnu ∧ (s.enterFeeding).lines = s.lines ∧ (s.enterFeeding).dsq = s.dsq ∧
      (s.enterFeeding).atb = s.atb ∧ (s.enterFeeding).params = s.params ∧ (s.enterFeeding).pending = s.pending := by
  simp [State.enterFeeding]

/-- What `State.enterWaiting` leaves as it is. -/
@[simp] theorem State.enterWaiting_frame (s : State) :
    (s.enterWaiting).lnu = s.lnu ∧ (s.enterWaiting).lines = s.lines ∧ (s.enterWaiting).dsq = s.dsq ∧
      (s.enterWaiting).atb = s.atb ∧ (s.enterWaiting).params = s.params ∧ (s.enterWaiting).pending = s.pending := by
  simp only [State.enterWaiting]
  (repeat' split) <;> simp

/-- What `State.awaitPlan` leaves as it is. -/
@[simp] theorem State.awaitPlan_frame (s : State) :
    (s.awaitPlan).lnu = s.lnu ∧ (s.awaitPlan).lines = s.lines ∧ (s.awaitPlan).dsq = s.dsq ∧
      (s.awaitPlan).atb = s.atb ∧ (s.awaitPlan).params = s.params ∧ (s.awaitPlan).pending = s.pending := by
  simp only [State.awaitPlan]
  (repeat' split) <;> simp

/-- What `State.enterReversing` leaves as it is. -/
@[simp] theorem State.enterReversing_frame (s : State) :
    (s.enterReversing).stb = s.stb ∧ (s.enterReversing).lnu = s.lnu ∧ (s.enterReversing).lines = s.lines ∧
      (s.enterReversing).dsq = s.dsq ∧ (s.enterReversing).atb = s.atb ∧ (s.enterReversing).bke = s.bke ∧
      (s.enterReversing).params = s.params ∧ (s.enterReversing).pending = s.pending := by
  simp [State.enterReversing]

/-- What `State.startCut` leaves as it is. -/
@[simp] theorem State.startCut_frame (s : State) (k : CutKind) :
    (s.startCut k).stb = s.stb ∧ (s.startCut k).lnu = s.lnu ∧ (s.startCut k).lines = s.lines ∧
      (s.startCut k).dsq = s.dsq ∧ (s.startCut k).atb = s.atb ∧ (s.startCut k).bke = s.bke ∧
      (s.startCut k).params = s.params ∧ (s.startCut k).pending = s.pending := by
  simp [State.startCut]

/-- What `State.enterAtTarget` leaves as it is. -/
@[simp] theorem State.enterAtTarget_frame (s : State) :
    (s.enterAtTarget).lnu = s.lnu ∧ (s.enterAtTarget).lines = s.lines ∧ (s.enterAtTarget).dsq = s.dsq ∧
      (s.enterAtTarget).atb = s.atb ∧ (s.enterAtTarget).params = s.params ∧ (s.enterAtTarget).pending = s.pending := by
  simp only [State.enterAtTarget]
  (repeat' split) <;> simp

/-- What `State.endSawReturn` leaves as it is. -/
@[simp] theorem State.endSawReturn_frame (s : State) :
    (s.endSawReturn).lnu = s.lnu ∧ (s.endSawReturn).lines = s.lines ∧ (s.endSawReturn).dsq = s.dsq ∧
      (s.endSawReturn).atb = s.atb ∧ (s.endSawReturn).params = s.params ∧ (s.endSawReturn).pending = s.pending := by
  simp only [State.endSawReturn]
  (repeat' split) <;> simp

/-- What `State.enterSawReturn` leaves as it is. -/
@[simp] theorem State.enterSawReturn_frame (s : State) :
    (s.enterSawReturn).lnu = s.lnu ∧ (s.enterSawReturn).lines = s.lines ∧ (s.enterSawReturn).dsq = s.dsq ∧
      (s.enterSawReturn).atb = s.atb ∧ (s.enterSawReturn).params = s.params ∧ (s.enterSawReturn).pending = s.pending := by
  simp only [State.enterSawReturn]
  (repeat' split) <;> simp

/-- What `State.completeCut` leaves as it is. -/
@[simp] theorem State.completeCut_frame (s : State) :
    (s.completeCut).lines = s.lines ∧ (s.completeCut).dsq = s.dsq ∧ (s.completeCut).atb = s.atb ∧
      (s.completeCut).params = s.params ∧ (s.completeCut).pending = s.pending := by
  simp only [State.completeCut]
  (repeat' split) <;> simp

/-- What `State.completeFelling` leaves as it is. -/
@[simp] theorem State.completeFelling_frame (s : State) :
    (s.completeFelling).lnu = s.lnu ∧ (s.completeFelling).lines = s.lines ∧ (s.completeFelling).dsq = s.dsq ∧
      (s.completeFelling).atb = s.atb ∧ (s.completeFelling).bke = s.bke ∧ (s.completeFelling).params = s.params ∧
      (s.completeFelling).pending = s.pending := by
  simp only [State.completeFelling]
  (repeat' split) <;> simp

/-- What `State.abandonFelling` leaves as it is. -/
@[simp] theorem State.abandonFelling_frame (s : State) :
    (s.abandonFelling).lnu = s.lnu ∧ (s.abandonFelling).lines = s.lines ∧ (s.abandonFelling).dsq = s.dsq ∧
      (s.abandonFelling).bke = s.bke ∧ (s.abandonFelling).fcs = s.fcs ∧ (s.abandonFelling).params = s.params ∧
      (s.abandonFelling).pending = s.pending := by
  simp only [State.abandonFelling]
  (repeat' split) <;> simp

/-- What `State.leaveFelling` leaves as it is. -/
@[simp] theorem State.leaveFelling_frame (s : State) :
    (s.leaveFelling).stb = s.stb ∧ (s.leaveFelling).lnu = s.lnu ∧ (s.leaveFelling).lines = s.lines ∧
      (s.leaveFelling).dsq = s.dsq ∧ (s.leaveFelling).atb = s.atb ∧ (s.leaveFelling).bke = s.bke ∧
      (s.leaveFelling).params = s.params ∧ (s.leaveFelling).pending = s.pending := by
  simp only [State.leaveFelling]
  (repeat' split) <;> simp

/-- What `State.clearCutItems` leaves as it is. -/
@[simp] theorem State.clearCutItems_frame (s : State) :
    (s.clearCutItems).hbp = s.hbp ∧ (s.clearCutItems).stb = s.stb ∧ (s.clearCutItems).lnu = s.lnu ∧
      (s.clearCutItems).lines = s.lines ∧ (s.clearCutItems).dsq = s.dsq ∧ (s.clearCutItems).atb = s.atb ∧
      (s.clearCutItems).bke = s.bke ∧ (s.clearCutItems).params = s.params ∧ (s.clearCutItems).pending = s.pending := by
  simp [State.clearCutItems]

/-- What `State.enterIdle` leaves as it is. -/
@[simp] theorem State.enterIdle_frame (s : State) :
    (s.enterIdle).stb = s.stb ∧ (s.enterIdle).lnu = s.lnu ∧ (s.enterIdle).lines = s.lines ∧
      (s.enterIdle).dsq = s.dsq ∧ (s.enterIdle).atb = s.atb ∧ (s.enterIdle).bke = s.bke ∧
      (s.enterIdle).params = s.params ∧ (s.enterIdle).pending = s.pending := by
  simp [State.enterIdle]

/-- What `State.sequencerGroupEnd` leaves as it is. -/
@[simp] theorem State.sequencerGroupEnd_frame (s : State) :
    (s.sequencerGroupEnd).stb = s.stb ∧ (s.sequencerGroupEnd).lnu = s.lnu ∧ (s.sequencerGroupEnd).lines = s.lines ∧
      (s.sequencerGroupEnd).dsq = s.dsq ∧ (s.sequencerGroupEnd).atb = s.atb ∧ (s.sequencerGroupEnd).bke = s.bke ∧
      (s.sequencerGroupEnd).params = s.params ∧ (s.sequencerGroupEnd).pending = s.pending := by
  simp only [State.sequencerGroupEnd]
  (repeat' split) <;> simp

/-- What `State.completionReport` leaves as it is. -/
@[simp] theorem State.completionReport_frame (s : State) :
    (s.completionReport).lnu = s.lnu ∧ (s.completionReport).lines = s.lines ∧ (s.completionReport).dsq = s.dsq ∧
      (s.completionReport).atb = s.atb ∧ (s.completionReport).params = s.params ∧ (s.completionReport).pending = s.pending := by
  simp only [State.completionReport]
  (repeat' split) <;> simp

/-- What `State.trackMovement` leaves as it is. -/
@[simp] theorem State.trackMovement_frame (s : State) :
    (s.trackMovement).hbp = s.hbp ∧ (s.trackMovement).stb = s.stb ∧ (s.trackMovement).lnu = s.lnu ∧
      (s.trackMovement).lines = s.lines ∧ (s.trackMovement).dsq = s.dsq ∧ (s.trackMovement).atb = s.atb ∧
      (s.trackMovement).bke = s.bke ∧ (s.trackMovement).params = s.params ∧ (s.trackMovement).pending = s.pending := by
  simp only [State.trackMovement]
  (repeat' split) <;> simp

/-- What `State.targetTest` leaves as it is. -/
@[simp] theorem State.targetTest_frame (s : State) (b : Bool) :
    (s.targetTest b).lnu = s.lnu ∧ (s.targetTest b).lines = s.lines ∧ (s.targetTest b).dsq = s.dsq ∧
      (s.targetTest b).atb = s.atb ∧ (s.targetTest b).params = s.params ∧ (s.targetTest b).pending = s.pending := by
  simp only [State.targetTest]
  (repeat' split) <;> simp

/-- What `State.sequencerUpdate` leaves as it is. -/
@[simp] theorem State.sequencerUpdate_frame (s : State) (b : Bool) :
    (s.sequencerUpdate b).lnu = s.lnu ∧ (s.sequencerUpdate b).lines = s.lines ∧ (s.sequencerUpdate b).dsq = s.dsq ∧
      (s.sequencerUpdate b).atb = s.atb ∧ (s.sequencerUpdate b).params = s.params ∧ (s.sequencerUpdate b).pending = s.pending := by
  simp [State.sequencerUpdate]

/-- What `State.settleExpires` leaves as it is. -/
@[simp] theorem State.settleExpires_frame (s : State) :
    (s.settleExpires).lnu = s.lnu ∧ (s.settleExpires).lines = s.lines ∧ (s.settleExpires).dsq = s.dsq ∧
      (s.settleExpires).atb = s.atb ∧ (s.settleExpires).params = s.params ∧ (s.settleExpires).pending = s.pending := by
  simp only [State.settleExpires]
  (repeat' split) <;> simp

/-- What `State.notifySawFault` leaves as it is. -/
@[simp] theorem State.notifySawFault_frame (s : State) (c : SawFaultCause) (h : Nat) (k : Option CutKind) :
    (s.notifySawFault c h k).stb = s.stb ∧ (s.notifySawFault c h k).lnu = s.lnu ∧ (s.notifySawFault c h k).lines = s.lines ∧
      (s.notifySawFault c h k).dsq = s.dsq ∧ (s.notifySawFault c h k).atb = s.atb ∧ (s.notifySawFault c h k).bke = s.bke ∧
      (s.notifySawFault c h k).fcs = s.fcs ∧ (s.notifySawFault c h k).params = s.params ∧ (s.notifySawFault c h k).pending = s.pending := by
  simp [State.notifySawFault]

/-- What `State.sawExpires` leaves as it is. -/
@[simp] theorem State.sawExpires_frame (s : State) :
    (s.sawExpires).lnu = s.lnu ∧ (s.sawExpires).lines = s.lines ∧ (s.sawExpires).dsq = s.dsq ∧
      (s.sawExpires).params = s.params ∧ (s.sawExpires).pending = s.pending := by
  simp only [State.sawExpires]
  (repeat' split) <;> simp

/-- What `State.homeExpires` leaves as it is. -/
@[simp] theorem State.homeExpires_frame (s : State) :
    (s.homeExpires).lnu = s.lnu ∧ (s.homeExpires).lines = s.lines ∧ (s.homeExpires).dsq = s.dsq ∧
      (s.homeExpires).atb = s.atb ∧ (s.homeExpires).params = s.params ∧ (s.homeExpires).pending = s.pending := by
  simp [State.homeExpires]

/-- What `State.stallExpires` leaves as it is. -/
@[simp] theorem State.stallExpires_frame (s : State) :
    (s.stallExpires).lnu = s.lnu ∧ (s.stallExpires).lines = s.lines ∧ (s.stallExpires).dsq = s.dsq ∧
      (s.stallExpires).atb = s.atb ∧ (s.stallExpires).params = s.params ∧ (s.stallExpires).pending = s.pending := by
  simp [State.stallExpires]

/-- What `State.arbitrate` leaves as it is. -/
@[simp] theorem State.arbitrate_frame (s : State) :
    (s.arbitrate).hbp = s.hbp ∧ (s.arbitrate).stb = s.stb ∧ (s.arbitrate).lnu = s.lnu ∧
      (s.arbitrate).lines = s.lines ∧ (s.arbitrate).atb = s.atb ∧ (s.arbitrate).bke = s.bke ∧
      (s.arbitrate).fcs = s.fcs ∧ (s.arbitrate).params = s.params ∧ (s.arbitrate).pending = s.pending := by
  simp only [State.arbitrate]
  (repeat' split) <;> simp

/-- What `State.raiseFeed` leaves as it is. -/
@[simp] theorem State.raiseFeed_frame (s : State) (r : FeedRequest) :
    (s.raiseFeed r).hbp = s.hbp ∧ (s.raiseFeed r).lnu = s.lnu ∧ (s.raiseFeed r).lines = s.lines ∧
      (s.raiseFeed r).atb = s.atb ∧ (s.raiseFeed r).bke = s.bke ∧ (s.raiseFeed r).fcs = s.fcs ∧
      (s.raiseFeed r).params = s.params ∧ (s.raiseFeed r).pending = s.pending := by
  simp only [State.raiseFeed]
  (repeat' split) <;> simp

/-- What `State.raiseTrim` leaves as it is. -/
@[simp] theorem State.raiseTrim_frame (s : State) (r : TrimRequest) :
    (s.raiseTrim r).hbp = s.hbp ∧ (s.raiseTrim r).stb = s.stb ∧ (s.raiseTrim r).lnu = s.lnu ∧
      (s.raiseTrim r).lines = s.lines ∧ (s.raiseTrim r).atb = s.atb ∧ (s.raiseTrim r).bke = s.bke ∧
      (s.raiseTrim r).fcs = s.fcs ∧ (s.raiseTrim r).params = s.params ∧ (s.raiseTrim r).pending = s.pending := by
  simp only [State.raiseTrim]
  (repeat' split) <;> simp

/-- What `State.cancelFeed` leaves as it is. -/
@[simp] theorem State.cancelFeed_frame (s : State) :
    (s.cancelFeed).hbp = s.hbp ∧ (s.cancelFeed).stb = s.stb ∧ (s.cancelFeed).lnu = s.lnu ∧
      (s.cancelFeed).lines = s.lines ∧ (s.cancelFeed).atb = s.atb ∧ (s.cancelFeed).bke = s.bke ∧
      (s.cancelFeed).fcs = s.fcs ∧ (s.cancelFeed).params = s.params ∧ (s.cancelFeed).pending = s.pending := by
  simp only [State.cancelFeed]
  (repeat' split) <;> simp

/-- What `State.abortMeasurements` leaves as it is. -/
@[simp] theorem State.abortMeasurements_frame (s : State) :
    (s.abortMeasurements).stb = s.stb ∧ (s.abortMeasurements).lnu = s.lnu ∧ (s.abortMeasurements).lines = s.lines ∧
      (s.abortMeasurements).atb = s.atb ∧ (s.abortMeasurements).bke = s.bke ∧ (s.abortMeasurements).fcs = s.fcs ∧
      (s.abortMeasurements).params = s.params ∧ (s.abortMeasurements).pending = s.pending := by
  simp only [State.abortMeasurements]
  (repeat' split) <;> simp

/-- What `State.clearTables` leaves as it is. -/
@[simp] theorem State.clearTables_frame (s : State) :
    (s.clearTables).hbp = s.hbp ∧ (s.clearTables).stb = s.stb ∧ (s.clearTables).lnu = s.lnu ∧
      (s.clearTables).lines = s.lines ∧ (s.clearTables).atb = s.atb ∧ (s.clearTables).bke = s.bke ∧
      (s.clearTables).fcs = s.fcs ∧ (s.clearTables).params = s.params ∧ (s.clearTables).pending = s.pending := by
  simp [State.clearTables]

/-- What `State.groupEnd` leaves as it is. -/
@[simp] theorem State.groupEnd_frame (s : State) :
    (s.groupEnd).stb = s.stb ∧ (s.groupEnd).lnu = s.lnu ∧ (s.groupEnd).lines = s.lines ∧
      (s.groupEnd).atb = s.atb ∧ (s.groupEnd).params = s.params ∧ (s.groupEnd).pending = s.pending := by
  simp [State.groupEnd]

/-- What `State.deliverTrim` leaves as it is. -/
@[simp] theorem State.deliverTrim_frame (s : State) (t : TrimRequest) (a : Nat) (m : MeasureReport) :
    (s.deliverTrim t a m).hbp = s.hbp ∧ (s.deliverTrim t a m).lnu = s.lnu ∧ (s.deliverTrim t a m).lines = s.lines ∧
      (s.deliverTrim t a m).dsq = s.dsq ∧ (s.deliverTrim t a m).atb = s.atb ∧ (s.deliverTrim t a m).bke = s.bke ∧
      (s.deliverTrim t a m).fcs = s.fcs ∧ (s.deliverTrim t a m).params = s.params ∧ (s.deliverTrim t a m).pending = s.pending := by
  simp only [State.deliverTrim]
  (repeat' split) <;> simp

/-- What `State.watchSlot` leaves as it is. -/
@[simp] theorem State.watchSlot_frame (s : State) (i : Nat) :
    (s.watchSlot i).lnu = s.lnu ∧ (s.watchSlot i).lines = s.lines ∧ (s.watchSlot i).dsq = s.dsq ∧
      (s.watchSlot i).atb = s.atb ∧ (s.watchSlot i).bke = s.bke ∧ (s.watchSlot i).fcs = s.fcs ∧
      (s.watchSlot i).params = s.params ∧ (s.watchSlot i).pending = s.pending := by
  simp only [State.watchSlot]
  (repeat' split) <;> simp

/-- What `State.watchMembers` leaves as it is. -/
@[simp] theorem State.watchMembers_frame (s : State) :
    (s.watchMembers).lnu = s.lnu ∧ (s.watchMembers).lines = s.lines ∧ (s.watchMembers).dsq = s.dsq ∧
      (s.watchMembers).atb = s.atb ∧ (s.watchMembers).bke = s.bke ∧ (s.watchMembers).fcs = s.fcs ∧
      (s.watchMembers).params = s.params ∧ (s.watchMembers).pending = s.pending := by
  simp only [State.watchMembers]
  exact ⟨foldl_kept (fun t : State => t.lnu) (by intros; simp) _ _,
    foldl_kept (fun t : State => t.lines) (by intros; simp) _ _,
    foldl_kept (fun t : State => t.dsq) (by intros; simp) _ _,
    foldl_kept (fun t : State => t.atb) (by intros; simp) _ _,
    foldl_kept (fun t : State => t.bke) (by intros; simp) _ _,
    foldl_kept (fun t : State => t.fcs) (by intros; simp) _ _,
    foldl_kept (fun t : State => t.params) (by intros; simp) _ _,
    foldl_kept (fun t : State => t.pending) (by intros; simp) _ _⟩

/-- What `State.appendSamples` leaves as it is. -/
@[simp] theorem State.appendSamples_frame (s : State) (q : FeedRequest) (a : Nat) (m : MeasureReport) :
    (s.appendSamples q a m).hbp = s.hbp ∧ (s.appendSamples q a m).lines = s.lines ∧ (s.appendSamples q a m).dsq = s.dsq ∧
      (s.appendSamples q a m).atb = s.atb ∧ (s.appendSamples q a m).bke = s.bke ∧ (s.appendSamples q a m).fcs = s.fcs ∧
      (s.appendSamples q a m).params = s.params ∧ (s.appendSamples q a m).pending = s.pending := by
  simp only [State.appendSamples]
  (repeat' split) <;> simp

/-- What `State.stemEnd` leaves as it is. -/
@[simp] theorem State.stemEnd_frame (s : State) :
    (s.stemEnd).lnu = s.lnu ∧ (s.stemEnd).lines = s.lines ∧ (s.stemEnd).params = s.params ∧
      (s.stemEnd).pending = s.pending := by
  simp [State.stemEnd]

/-- What `State.deliverFeed` leaves as it is. -/
@[simp] theorem State.deliverFeed_frame (s : State) (q : FeedRequest) (a : Nat) (m : MeasureReport) :
    (s.deliverFeed q a m).lines = s.lines ∧ (s.deliverFeed q a m).params = s.params ∧ (s.deliverFeed q a m).pending = s.pending := by
  simp only [State.deliverFeed]
  (repeat' split) <;> simp

/-- What `State.deliver` leaves as it is. -/
@[simp] theorem State.deliver_frame (s : State) (q : RunningSequence) (m : MeasureReport) :
    (s.deliver q m).lines = s.lines ∧ (s.deliver q m).params = s.params ∧ (s.deliver q m).pending = s.pending := by
  simp only [State.deliver]
  (repeat' split) <;> simp

/-- What `State.finishSequence` leaves as it is. -/
@[simp] theorem State.finishSequence_frame (s : State) (q : RunningSequence) (r : Readings) :
    (s.finishSequence q r).lines = s.lines ∧ (s.finishSequence q r).params = s.params ∧ (s.finishSequence q r).pending = s.pending := by
  simp [State.finishSequence]

/-- What `State.stepEncoder` leaves as it is. -/
@[simp] theorem State.stepEncoder_frame (s : State) (e : Encoder) (d : Direction) :
    (s.stepEncoder e d).hbp = s.hbp ∧ (s.stepEncoder e d).stb = s.stb ∧ (s.stepEncoder e d).lnu = s.lnu ∧
      (s.stepEncoder e d).dsq = s.dsq ∧ (s.stepEncoder e d).atb = s.atb ∧ (s.stepEncoder e d).bke = s.bke ∧
      (s.stepEncoder e d).fcs = s.fcs ∧ (s.stepEncoder e d).params = s.params ∧ (s.stepEncoder e d).pending = s.pending := by
  simp only [State.stepEncoder]
  (repeat' split) <;> simp

/-- What `State.flipEncoder` leaves as it is. -/
@[simp] theorem State.flipEncoder_frame (s : State) (e : Encoder) :
    (s.flipEncoder e).hbp = s.hbp ∧ (s.flipEncoder e).stb = s.stb ∧ (s.flipEncoder e).lnu = s.lnu ∧
      (s.flipEncoder e).dsq = s.dsq ∧ (s.flipEncoder e).atb = s.atb ∧ (s.flipEncoder e).bke = s.bke ∧
      (s.flipEncoder e).fcs = s.fcs ∧ (s.flipEncoder e).params = s.params ∧ (s.flipEncoder e).pending = s.pending := by
  simp only [State.flipEncoder]
  (repeat' split) <;> simp

/-- What `State.addPulse` leaves as it is. -/
@[simp] theorem State.addPulse_frame (s : State) (e : Encoder) (d : Direction) :
    (s.addPulse e d).hbp = s.hbp ∧ (s.addPulse e d).stb = s.stb ∧ (s.addPulse e d).lines = s.lines ∧
      (s.addPulse e d).dsq = s.dsq ∧ (s.addPulse e d).atb = s.atb ∧ (s.addPulse e d).bke = s.bke ∧
      (s.addPulse e d).fcs = s.fcs ∧ (s.addPulse e d).params = s.params ∧ (s.addPulse e d).pending = s.pending := by
  simp only [State.addPulse]
  (repeat' split) <;> simp

/-- What `State.triggerCheck` leaves as it is. -/
@[simp] theorem State.triggerCheck_frame (s : State) :
    (s.triggerCheck).hbp = s.hbp ∧ (s.triggerCheck).lines = s.lines ∧ (s.triggerCheck).atb = s.atb ∧
      (s.triggerCheck).bke = s.bke ∧ (s.triggerCheck).fcs = s.fcs ∧ (s.triggerCheck).params = s.params ∧
      (s.triggerCheck).pending = s.pending := by
  simp only [State.triggerCheck]
  (repeat' split) <;> simp

/-- What `State.lengthUpdate` leaves as it is. -/
@[simp] theorem State.lengthUpdate_frame (s : State) (b : Bool) :
    (s.lengthUpdate b).lines = s.lines ∧ (s.lengthUpdate b).atb = s.atb ∧ (s.lengthUpdate b).params = s.params ∧
      (s.lengthUpdate b).pending = s.pending := by
  simp only [State.lengthUpdate]
  (repeat' split) <;> simp

/-- What `State.updateLength` leaves as it is. -/
@[simp] theorem State.updateLength_frame (s : State) :
    (s.updateLength).lines = s.lines ∧ (s.updateLength).atb = s.atb ∧ (s.updateLength).params = s.params ∧
      (s.updateLength).pending = s.pending := by
  simp only [State.updateLength]
  (repeat' split) <;> simp

/-- What `State.accountWindow` leaves as it is. -/
@[simp] theorem State.accountWindow_frame (s : State) (e : Encoder) (d : Direction) :
    (s.accountWindow e d).lines = s.lines ∧ (s.accountWindow e d).dsq = s.dsq ∧ (s.accountWindow e d).atb = s.atb ∧
      (s.accountWindow e d).bke = s.bke ∧ (s.accountWindow e d).fcs = s.fcs ∧ (s.accountWindow e d).params = s.params ∧
      (s.accountWindow e d).pending = s.pending := by
  simp only [State.accountWindow]
  (repeat' split) <;> simp

/-- What `State.pulse` leaves as it is. -/
@[simp] theorem State.pulse_frame (s : State) (e : Encoder) (d : Direction) :
    (s.pulse e d).lines = s.lines ∧ (s.pulse e d).atb = s.atb ∧ (s.pulse e d).params = s.params ∧
      (s.pulse e d).pending = s.pending := by
  simp only [State.pulse]
  (repeat' split) <;> simp

/-- What `State.acceptFell` leaves as it is. -/
@[simp] theorem State.acceptFell_frame (s : State) (i sp : Nat) :
    (s.acceptFell i sp).lnu = s.lnu ∧ (s.acceptFell i sp).lines = s.lines ∧ (s.acceptFell i sp).atb = s.atb ∧
      (s.acceptFell i sp).bke = s.bke ∧ (s.acceptFell i sp).params = s.params ∧ (s.acceptFell i sp).pending = s.pending := by
  simp [State.acceptFell]

/-- What `State.startMembers` leaves as it is. -/
@[simp] theorem State.startMembers_frame (s : State) :
    (s.startMembers).hbp = s.hbp ∧ (s.startMembers).lnu = s.lnu ∧ (s.startMembers).lines = s.lines ∧
      (s.startMembers).dsq = s.dsq ∧ (s.startMembers).atb = s.atb ∧ (s.startMembers).bke = s.bke ∧
      (s.startMembers).fcs = s.fcs ∧ (s.startMembers).params = s.params ∧ (s.startMembers).pending = s.pending := by
  simp only [State.startMembers]
  exact ⟨foldl_kept (fun t : State => t.hbp) (by intros; simp) _ _,
    foldl_kept (fun t : State => t.lnu) (by intros; simp) _ _,
    foldl_kept (fun t : State => t.lines) (by intros; simp) _ _,
    foldl_kept (fun t : State => t.dsq) (by intros; simp) _ _,
    foldl_kept (fun t : State => t.atb) (by intros; simp) _ _,
    foldl_kept (fun t : State => t.bke) (by intros; simp) _ _,
    foldl_kept (fun t : State => t.fcs) (by intros; simp) _ _,
    foldl_kept (fun t : State => t.params) (by intros; simp) _ _,
    foldl_kept (fun t : State => t.pending) (by intros; simp) _ _⟩

/-- What `State.startGroup` leaves as it is. -/
@[simp] theorem State.startGroup_frame (s : State) :
    (s.startGroup).lines = s.lines ∧ (s.startGroup).dsq = s.dsq ∧ (s.startGroup).atb = s.atb ∧
      (s.startGroup).fcs = s.fcs ∧ (s.startGroup).params = s.params ∧ (s.startGroup).pending = s.pending := by
  simp [State.startGroup]

/-- What `State.stopCut` leaves as it is. -/
@[simp] theorem State.stopCut_frame (s : State) :
    (s.stopCut).lnu = s.lnu ∧ (s.stopCut).lines = s.lines ∧ (s.stopCut).dsq = s.dsq ∧
      (s.stopCut).atb = s.atb ∧ (s.stopCut).params = s.params ∧ (s.stopCut).pending = s.pending := by
  simp [State.stopCut]

/-- What `State.stopFelling` leaves as it is. -/
@[simp] theorem State.stopFelling_frame (s : State) :
    (s.stopFelling).lnu = s.lnu ∧ (s.stopFelling).lines = s.lines ∧ (s.stopFelling).dsq = s.dsq ∧
      (s.stopFelling).bke = s.bke ∧ (s.stopFelling).params = s.params ∧ (s.stopFelling).pending = s.pending := by
  simp [State.stopFelling]

/-- What `State.dropTop` leaves as it is. -/
@[simp] theorem State.dropTop_frame (s : State) :
    (s.dropTop).lnu = s.lnu ∧ (s.dropTop).lines = s.lines ∧ (s.dropTop).dsq = s.dsq ∧
      (s.dropTop).bke = s.bke ∧ (s.dropTop).params = s.params ∧ (s.dropTop).pending = s.pending := by
  simp only [State.dropTop]
  (repeat' split) <;> simp

/-- What `State.release` leaves as it is. -/
@[simp] theorem State.release_frame (s : State) :
    (s.release).lnu = s.lnu ∧ (s.release).lines = s.lines ∧ (s.release).params = s.params ∧
      (s.release).pending = s.pending := by
  simp only [State.release]
  (repeat' split) <;> simp

/-- What `State.haltAsserts` leaves as it is. -/
@[simp] theorem State.haltAsserts_frame (s : State) :
    (s.haltAsserts).lnu = s.lnu ∧ (s.haltAsserts).lines = s.lines ∧ (s.haltAsserts).dsq = s.dsq ∧
      (s.haltAsserts).bke = s.bke ∧ (s.haltAsserts).params = s.params ∧ (s.haltAsserts).pending = s.pending := by
  simp only [State.haltAsserts]
  (repeat' split) <;> simp

/-- What `State.haltReleases` leaves as it is. -/
@[simp] theorem State.haltReleases_frame (s : State) :
    (s.haltReleases).lnu = s.lnu ∧ (s.haltReleases).lines = s.lines ∧ (s.haltReleases).dsq = s.dsq ∧
      (s.haltReleases).atb = s.atb ∧ (s.haltReleases).params = s.params ∧ (s.haltReleases).pending = s.pending := by
  simp only [State.haltReleases]
  (repeat' split) <;> simp

/-- What `State.sawEndAsserts` leaves as it is. -/
@[simp] theorem State.sawEndAsserts_frame (s : State) :
    (s.sawEndAsserts).lines = s.lines ∧ (s.sawEndAsserts).dsq = s.dsq ∧ (s.sawEndAsserts).atb = s.atb ∧
      (s.sawEndAsserts).params = s.params ∧ (s.sawEndAsserts).pending = s.pending := by
  simp only [State.sawEndAsserts]
  (repeat' split) <;> simp

/-- What `State.sawHomeAsserts` leaves as it is. -/
@[simp] theorem State.sawHomeAsserts_frame (s : State) :
    (s.sawHomeAsserts).lnu = s.lnu ∧ (s.sawHomeAsserts).lines = s.lines ∧ (s.sawHomeAsserts).dsq = s.dsq ∧
      (s.sawHomeAsserts).atb = s.atb ∧ (s.sawHomeAsserts).params = s.params ∧ (s.sawHomeAsserts).pending = s.pending := by
  simp only [State.sawHomeAsserts]
  (repeat' split) <;> simp

/-- What `State.timerAtChange` leaves as it is. -/
@[simp] theorem State.timerAtChange_frame (s : State) (n : Nat) :
    (s.timerAtChange n).lnu = s.lnu ∧ (s.timerAtChange n).lines = s.lines ∧ (s.timerAtChange n).dsq = s.dsq ∧
      (s.timerAtChange n).params = s.params ∧ (s.timerAtChange n).pending = s.pending := by
  simp only [State.timerAtChange]
  (repeat' split) <;> simp

/-- What `State.storeParameter` leaves as it is. -/
@[simp] theorem State.storeParameter_frame (s : State) (n v : Nat) :
    (s.storeParameter n v).lines = s.lines ∧ (s.storeParameter n v).dsq = s.dsq ∧ (s.storeParameter n v).pending = s.pending := by
  simp only [State.storeParameter]
  (repeat' split) <;> simp

/-- What `State.clearStems` leaves as it is. -/
@[simp] theorem State.clearStems_frame (s : State) :
    (s.clearStems).lnu = s.lnu ∧ (s.clearStems).lines = s.lines ∧ (s.clearStems).dsq = s.dsq ∧
      (s.clearStems).bke = s.bke ∧ (s.clearStems).fcs = s.fcs ∧ (s.clearStems).params = s.params ∧
      (s.clearStems).pending = s.pending := by
  simp only [State.clearStems]
  (repeat' split) <;> simp

/-- What `State.resetSequencer` leaves as it is. -/
@[simp] theorem State.resetSequencer_frame (s : State) :
    (s.resetSequencer).hbp = s.hbp ∧ (s.resetSequencer).stb = s.stb ∧ (s.resetSequencer).lnu = s.lnu ∧
      (s.resetSequencer).lines = s.lines ∧ (s.resetSequencer).dsq = s.dsq ∧ (s.resetSequencer).atb = s.atb ∧
      (s.resetSequencer).bke = s.bke ∧ (s.resetSequencer).params = s.params ∧ (s.resetSequencer).pending = s.pending := by
  simp [State.resetSequencer]

/-- What `State.offerRequest` leaves as it is. -/
@[simp] theorem State.offerRequest_frame (s : State) (e : QueueEntry) :
    (s.offerRequest e).stb = s.stb ∧ (s.offerRequest e).lnu = s.lnu ∧ (s.offerRequest e).lines = s.lines ∧
      (s.offerRequest e).dsq = s.dsq ∧ (s.offerRequest e).atb = s.atb ∧ (s.offerRequest e).bke = s.bke ∧
      (s.offerRequest e).fcs = s.fcs ∧ (s.offerRequest e).params = s.params ∧ (s.offerRequest e).pending = s.pending := by
  simp only [State.offerRequest]
  (repeat' split) <;> simp

/-- What `State.sendAnswer` leaves as it is. -/
@[simp] theorem State.sendAnswer_frame (s : State) (r : InService) :
    (s.sendAnswer r).stb = s.stb ∧ (s.sendAnswer r).lnu = s.lnu ∧ (s.sendAnswer r).lines = s.lines ∧
      (s.sendAnswer r).dsq = s.dsq ∧ (s.sendAnswer r).atb = s.atb ∧ (s.sendAnswer r).bke = s.bke ∧
      (s.sendAnswer r).fcs = s.fcs ∧ (s.sendAnswer r).params = s.params ∧ (s.sendAnswer r).pending = s.pending := by
  simp [State.sendAnswer]

/-- What `State.sendNotice` leaves as it is. -/
@[simp] theorem State.sendNotice_frame (s : State) (n : Notice) (l : List Notice) :
    (s.sendNotice n l).stb = s.stb ∧ (s.sendNotice n l).lnu = s.lnu ∧ (s.sendNotice n l).lines = s.lines ∧
      (s.sendNotice n l).dsq = s.dsq ∧ (s.sendNotice n l).atb = s.atb ∧ (s.sendNotice n l).bke = s.bke ∧
      (s.sendNotice n l).fcs = s.fcs ∧ (s.sendNotice n l).params = s.params ∧ (s.sendNotice n l).pending = s.pending := by
  simp [State.sendNotice]

/-- What `State.transmit` leaves as it is. -/
@[simp] theorem State.transmit_frame (s : State) :
    (s.transmit).stb = s.stb ∧ (s.transmit).lnu = s.lnu ∧ (s.transmit).lines = s.lines ∧
      (s.transmit).dsq = s.dsq ∧ (s.transmit).atb = s.atb ∧ (s.transmit).bke = s.bke ∧
      (s.transmit).fcs = s.fcs ∧ (s.transmit).params = s.params ∧ (s.transmit).pending = s.pending := by
  simp only [State.transmit]
  (repeat' split) <;> simp

/-- What `State.discardPartial` leaves as it is. -/
@[simp] theorem State.discardPartial_frame (s : State) :
    (s.discardPartial).stb = s.stb ∧ (s.discardPartial).lnu = s.lnu ∧ (s.discardPartial).lines = s.lines ∧
      (s.discardPartial).dsq = s.dsq ∧ (s.discardPartial).atb = s.atb ∧ (s.discardPartial).bke = s.bke ∧
      (s.discardPartial).fcs = s.fcs ∧ (s.discardPartial).params = s.params ∧ (s.discardPartial).pending = s.pending := by
  simp only [State.discardPartial]
  (repeat' split) <;> simp

/-- What `State.joinFirst` leaves as it is. -/
@[simp] theorem State.joinFirst_frame (s : State) (f : Frame) :
    (s.joinFirst f).stb = s.stb ∧ (s.joinFirst f).lnu = s.lnu ∧ (s.joinFirst f).lines = s.lines ∧
      (s.joinFirst f).dsq = s.dsq ∧ (s.joinFirst f).atb = s.atb ∧ (s.joinFirst f).bke = s.bke ∧
      (s.joinFirst f).fcs = s.fcs ∧ (s.joinFirst f).params = s.params ∧ (s.joinFirst f).pending = s.pending := by
  simp only [State.joinFirst]
  (repeat' split) <;> simp

/-- What `State.joinContinuation` leaves as it is. -/
@[simp] theorem State.joinContinuation_frame (s : State) (f : Frame) :
    (s.joinContinuation f).stb = s.stb ∧ (s.joinContinuation f).lnu = s.lnu ∧ (s.joinContinuation f).lines = s.lines ∧
      (s.joinContinuation f).dsq = s.dsq ∧ (s.joinContinuation f).atb = s.atb ∧ (s.joinContinuation f).bke = s.bke ∧
      (s.joinContinuation f).fcs = s.fcs ∧ (s.joinContinuation f).params = s.params ∧ (s.joinContinuation f).pending = s.pending := by
  simp only [State.joinContinuation]
  (repeat' split) <;> simp

/-- What `State.completeFrame` leaves as it is. -/
@[simp] theorem State.completeFrame_frame (s : State) :
    (s.completeFrame).stb = s.stb ∧ (s.completeFrame).lnu = s.lnu ∧ (s.completeFrame).lines = s.lines ∧
      (s.completeFrame).dsq = s.dsq ∧ (s.completeFrame).atb = s.atb ∧ (s.completeFrame).bke = s.bke ∧
      (s.completeFrame).fcs = s.fcs ∧ (s.completeFrame).params = s.params ∧ (s.completeFrame).pending = s.pending := by
  simp only [State.completeFrame]
  (repeat' split) <;> simp

/-- What `State.countTimers` leaves as it is. -/
@[simp] theorem State.countTimers_frame (s : State) :
    (s.countTimers).stb = s.stb ∧ (s.countTimers).lnu = s.lnu ∧ (s.countTimers).lines = s.lines ∧
      (s.countTimers).dsq = s.dsq ∧ (s.countTimers).atb = s.atb ∧ (s.countTimers).bke = s.bke ∧
      (s.countTimers).params = s.params ∧ (s.countTimers).pending = s.pending := by
  simp [State.countTimers]

end Sys2Proof.Machine
end

