-- ==== Sys2Proof/Laws/FramesBus.lean ====
section
/-! SUPPORT. What the operations of the blocks leave of the Head Bus Port: they raise notices and nothing else. -/

namespace Sys2Proof.Machine

open Sys2Proof

/-- `State.offerNotice` raises notices at most. -/
@[simp] theorem State.offerNotice_bus (s : State) (n : Notice) :
    (s.offerNotice n).hbp.node = s.hbp.node ∧ (s.offerNotice n).hbp.partialRequest = s.hbp.partialRequest ∧ (s.offerNotice n).hbp.requests = s.hbp.requests ∧
      (s.offerNotice n).hbp.inService = s.hbp.inService ∧ (s.offerNotice n).hbp.transmitter = s.hbp.transmitter ∧ (s.offerNotice n).hbp.lastKind = s.hbp.lastKind ∧
      (s.offerNotice n).hbp.requestsLost = s.hbp.requestsLost := by
  simp only [State.offerNotice]
  (repeat' split) <;> simp

/-- `State.applySwap` raises notices at most. -/
@[simp] theorem State.applySwap_bus (s : State) (o : SwapOccasion) :
    (s.applySwap o).hbp.node = s.hbp.node ∧ (s.applySwap o).hbp.partialRequest = s.hbp.partialRequest ∧ (s.applySwap o).hbp.requests = s.hbp.requests ∧
      (s.applySwap o).hbp.inService = s.hbp.inService ∧ (s.applySwap o).hbp.transmitter = s.hbp.transmitter ∧ (s.applySwap o).hbp.lastKind = s.hbp.lastKind ∧
      (s.applySwap o).hbp.requestsLost = s.hbp.requestsLost := by
  simp [State.applySwap]

/-- `State.safePoint` raises notices at most. -/
@[simp] theorem State.safePoint_bus (s : State) :
    (s.safePoint).hbp.node = s.hbp.node ∧ (s.safePoint).hbp.partialRequest = s.hbp.partialRequest ∧ (s.safePoint).hbp.requests = s.hbp.requests ∧
      (s.safePoint).hbp.inService = s.hbp.inService ∧ (s.safePoint).hbp.transmitter = s.hbp.transmitter ∧ (s.safePoint).hbp.lastKind = s.hbp.lastKind ∧
      (s.safePoint).hbp.requestsLost = s.hbp.requestsLost := by
  simp only [State.safePoint]
  (repeat' split) <;> simp

/-- `State.install` raises notices at most. -/
@[simp] theorem State.install_bus (s : State) (i : Nat) (r : StemRecord) (o : InstallOccasion) (res : PassResult) :
    (s.install i r o res).hbp.node = s.hbp.node ∧ (s.install i r o res).hbp.partialRequest = s.hbp.partialRequest ∧ (s.install i r o res).hbp.requests = s.hbp.requests ∧
      (s.install i r o res).hbp.inService = s.hbp.inService ∧ (s.install i r o res).hbp.transmitter = s.hbp.transmitter ∧ (s.install i r o res).hbp.lastKind = s.hbp.lastKind ∧
      (s.install i r o res).hbp.requestsLost = s.hbp.requestsLost := by
  simp [State.install]

/-- `State.checkPending` raises notices at most. -/
@[simp] theorem State.checkPending_bus (s : State) :
    (s.checkPending).hbp.node = s.hbp.node ∧ (s.checkPending).hbp.partialRequest = s.hbp.partialRequest ∧ (s.checkPending).hbp.requests = s.hbp.requests ∧
      (s.checkPending).hbp.inService = s.hbp.inService ∧ (s.checkPending).hbp.transmitter = s.hbp.transmitter ∧ (s.checkPending).hbp.lastKind = s.hbp.lastKind ∧
      (s.checkPending).hbp.requestsLost = s.hbp.requestsLost := by
  simp only [State.checkPending]
  (repeat' split) <;> simp

/-- `State.actOn` raises notices at most. -/
@[simp] theorem State.actOn_bus (s : State) (h : Option Override) (res : PassResult) (o : PassOutcome) :
    (s.actOn h res o).hbp.node = s.hbp.node ∧ (s.actOn h res o).hbp.partialRequest = s.hbp.partialRequest ∧ (s.actOn h res o).hbp.requests = s.hbp.requests ∧
      (s.actOn h res o).hbp.inService = s.hbp.inService ∧ (s.actOn h res o).hbp.transmitter = s.hbp.transmitter ∧ (s.actOn h res o).hbp.lastKind = s.hbp.lastKind ∧
      (s.actOn h res o).hbp.requestsLost = s.hbp.requestsLost := by
  simp only [State.actOn]
  (repeat' split) <;> simp

/-- `State.finishPass` raises notices at most. -/
@[simp] theorem State.finishPass_bus (s : State) (p : Pass) :
    (s.finishPass p).hbp.node = s.hbp.node ∧ (s.finishPass p).hbp.partialRequest = s.hbp.partialRequest ∧ (s.finishPass p).hbp.requests = s.hbp.requests ∧
      (s.finishPass p).hbp.inService = s.hbp.inService ∧ (s.finishPass p).hbp.transmitter = s.hbp.transmitter ∧ (s.finishPass p).hbp.lastKind = s.hbp.lastKind ∧
      (s.finishPass p).hbp.requestsLost = s.hbp.requestsLost := by
  simp [State.finishPass]

/-- `State.pushRecord` raises notices at most. -/
@[simp] theorem State.pushRecord_bus (s : State) (i : Nat) :
    (s.pushRecord i).hbp.node = s.hbp.node ∧ (s.pushRecord i).hbp.partialRequest = s.hbp.partialRequest ∧ (s.pushRecord i).hbp.requests = s.hbp.requests ∧
      (s.pushRecord i).hbp.inService = s.hbp.inService ∧ (s.pushRecord i).hbp.transmitter = s.hbp.transmitter ∧ (s.pushRecord i).hbp.lastKind = s.hbp.lastKind ∧
      (s.pushRecord i).hbp.requestsLost = s.hbp.requestsLost := by
  simp only [State.pushRecord]
  (repeat' split) <;> simp

/-- `State.closeRecord` raises notices at most. -/
@[simp] theorem State.closeRecord_bus (s : State) (i : Nat) (st : StemState) (why : EndReason) :
    (s.closeRecord i st why).hbp.node = s.hbp.node ∧ (s.closeRecord i st why).hbp.partialRequest = s.hbp.partialRequest ∧ (s.closeRecord i st why).hbp.requests = s.hbp.requests ∧
      (s.closeRecord i st why).hbp.inService = s.hbp.inService ∧ (s.closeRecord i st why).hbp.transmitter = s.hbp.transmitter ∧ (s.closeRecord i st why).hbp.lastKind = s.hbp.lastKind ∧
      (s.closeRecord i st why).hbp.requestsLost = s.hbp.requestsLost := by
  simp only [State.closeRecord]
  (repeat' split) <;> simp

/-- `State.closeAll` raises notices at most. -/
@[simp] theorem State.closeAll_bus (s : State) (l : List Nat) (st : StemRecord → StemState) (why : EndReason) :
    (s.closeAll l st why).hbp.node = s.hbp.node ∧ (s.closeAll l st why).hbp.partialRequest = s.hbp.partialRequest ∧ (s.closeAll l st why).hbp.requests = s.hbp.requests ∧
      (s.closeAll l st why).hbp.inService = s.hbp.inService ∧ (s.closeAll l st why).hbp.transmitter = s.hbp.transmitter ∧ (s.closeAll l st why).hbp.lastKind = s.hbp.lastKind ∧
      (s.closeAll l st why).hbp.requestsLost = s.hbp.requestsLost := by
  simp only [State.closeAll]
  exact ⟨foldl_kept (fun t : State => t.hbp.node) (by intros; split <;> simp) _ _,
    foldl_kept (fun t : State => t.hbp.partialRequest) (by intros; split <;> simp) _ _,
    foldl_kept (fun t : State => t.hbp.requests) (by intros; split <;> simp) _ _,
    foldl_kept (fun t : State => t.hbp.inService) (by intros; split <;> simp) _ _,
    foldl_kept (fun t : State => t.hbp.transmitter) (by intros; split <;> simp) _ _,
    foldl_kept (fun t : State => t.hbp.lastKind) (by intros; split <;> simp) _ _,
    foldl_kept (fun t : State => t.hbp.requestsLost) (by intros; split <;> simp) _ _⟩

/-- `State.releaseGroup` raises notices at most. -/
@[simp] theorem State.releaseGroup_bus (s : State) :
    (s.releaseGroup).hbp.node = s.hbp.node ∧ (s.releaseGroup).hbp.partialRequest = s.hbp.partialRequest ∧ (s.releaseGroup).hbp.requests = s.hbp.requests ∧
      (s.releaseGroup).hbp.inService = s.hbp.inService ∧ (s.releaseGroup).hbp.transmitter = s.hbp.transmitter ∧ (s.releaseGroup).hbp.lastKind = s.hbp.lastKind ∧
      (s.releaseGroup).hbp.requestsLost = s.hbp.requestsLost := by
  simp [State.releaseGroup]

/-- `State.notifyPieces` raises notices at most. -/
@[simp] theorem State.notifyPieces_bus (s : State) :
    (s.notifyPieces).hbp.node = s.hbp.node ∧ (s.notifyPieces).hbp.partialRequest = s.hbp.partialRequest ∧ (s.notifyPieces).hbp.requests = s.hbp.requests ∧
      (s.notifyPieces).hbp.inService = s.hbp.inService ∧ (s.notifyPieces).hbp.transmitter = s.hbp.transmitter ∧ (s.notifyPieces).hbp.lastKind = s.hbp.lastKind ∧
      (s.notifyPieces).hbp.requestsLost = s.hbp.requestsLost := by
  simp only [State.notifyPieces]
  exact ⟨foldl_kept (fun t : State => t.hbp.node) (by intros; simp) _ _,
    foldl_kept (fun t : State => t.hbp.partialRequest) (by intros; simp) _ _,
    foldl_kept (fun t : State => t.hbp.requests) (by intros; simp) _ _,
    foldl_kept (fun t : State => t.hbp.inService) (by intros; simp) _ _,
    foldl_kept (fun t : State => t.hbp.transmitter) (by intros; simp) _ _,
    foldl_kept (fun t : State => t.hbp.lastKind) (by intros; simp) _ _,
    foldl_kept (fun t : State => t.hbp.requestsLost) (by intros; simp) _ _⟩

/-- `State.recordPlannedCut` raises notices at most. -/
@[simp] theorem State.recordPlannedCut_bus (s : State) :
    (s.recordPlannedCut).hbp.node = s.hbp.node ∧ (s.recordPlannedCut).hbp.partialRequest = s.hbp.partialRequest ∧ (s.recordPlannedCut).hbp.requests = s.hbp.requests ∧
      (s.recordPlannedCut).hbp.inService = s.hbp.inService ∧ (s.recordPlannedCut).hbp.transmitter = s.hbp.transmitter ∧ (s.recordPlannedCut).hbp.lastKind = s.hbp.lastKind ∧
      (s.recordPlannedCut).hbp.requestsLost = s.hbp.requestsLost := by
  simp only [State.recordPlannedCut]
  (repeat' split) <;> simp

/-- `State.recordOffPlanCut` raises notices at most. -/
@[simp] theorem State.recordOffPlanCut_bus (s : State) :
    (s.recordOffPlanCut).hbp.node = s.hbp.node ∧ (s.recordOffPlanCut).hbp.partialRequest = s.hbp.partialRequest ∧ (s.recordOffPlanCut).hbp.requests = s.hbp.requests ∧
      (s.recordOffPlanCut).hbp.inService = s.hbp.inService ∧ (s.recordOffPlanCut).hbp.transmitter = s.hbp.transmitter ∧ (s.recordOffPlanCut).hbp.lastKind = s.hbp.lastKind ∧
      (s.recordOffPlanCut).hbp.requestsLost = s.hbp.requestsLost := by
  simp [State.recordOffPlanCut]

/-- `State.setSource` raises notices at most. -/
@[simp] theorem State.setSource_bus (s : State) (new : SourceState) (n : Nat) (c : SourceCause) :
    (s.setSource new n c).hbp.node = s.hbp.node ∧ (s.setSource new n c).hbp.partialRequest = s.hbp.partialRequest ∧ (s.setSource new n c).hbp.requests = s.hbp.requests ∧
      (s.setSource new n c).hbp.inService = s.hbp.inService ∧ (s.setSource new n c).hbp.transmitter = s.hbp.transmitter ∧ (s.setSource new n c).hbp.lastKind = s.hbp.lastKind ∧
      (s.setSource new n c).hbp.requestsLost = s.hbp.requestsLost := by
  simp only [State.setSource]
  (repeat' split) <;> simp

/-- `State.forceRoller` raises notices at most. -/
@[simp] theorem State.forceRoller_bus (s : State) (c : SourceCause) :
    (s.forceRoller c).hbp.node = s.hbp.node ∧ (s.forceRoller c).hbp.partialRequest = s.hbp.partialRequest ∧ (s.forceRoller c).hbp.requests = s.hbp.requests ∧
      (s.forceRoller c).hbp.inService = s.hbp.inService ∧ (s.forceRoller c).hbp.transmitter = s.hbp.transmitter ∧ (s.forceRoller c).hbp.lastKind = s.hbp.lastKind ∧
      (s.forceRoller c).hbp.requestsLost = s.hbp.requestsLost := by
  simp only [State.forceRoller]
  (repeat' split) <;> simp

/-- `State.judgedMove` raises notices at most. -/
@[simp] theorem State.judgedMove_bus (s : State) (d : Bool) :
    (s.judgedMove d).hbp.node = s.hbp.node ∧ (s.judgedMove d).hbp.partialRequest = s.hbp.partialRequest ∧ (s.judgedMove d).hbp.requests = s.hbp.requests ∧
      (s.judgedMove d).hbp.inService = s.hbp.inService ∧ (s.judgedMove d).hbp.transmitter = s.hbp.transmitter ∧ (s.judgedMove d).hbp.lastKind = s.hbp.lastKind ∧
      (s.judgedMove d).hbp.requestsLost = s.hbp.requestsLost := by
  simp only [State.judgedMove]
  (repeat' split) <;> simp

/-- `State.judgeWindow` raises notices at most. -/
@[simp] theorem State.judgeWindow_bus (s : State) :
    (s.judgeWindow).hbp.node = s.hbp.node ∧ (s.judgeWindow).hbp.partialRequest = s.hbp.partialRequest ∧ (s.judgeWindow).hbp.requests = s.hbp.requests ∧
      (s.judgeWindow).hbp.inService = s.hbp.inService ∧ (s.judgeWindow).hbp.transmitter = s.hbp.transmitter ∧ (s.judgeWindow).hbp.lastKind = s.hbp.lastKind ∧
      (s.judgeWindow).hbp.requestsLost = s.hbp.requestsLost := by
  simp only [State.judgeWindow]
  (repeat' split) <;> simp

/-- `State.endWindow` raises notices at most. -/
@[simp] theorem State.endWindow_bus (s : State) :
    (s.endWindow).hbp.node = s.hbp.node ∧ (s.endWindow).hbp.partialRequest = s.hbp.partialRequest ∧ (s.endWindow).hbp.requests = s.hbp.requests ∧
      (s.endWindow).hbp.inService = s.hbp.inService ∧ (s.endWindow).hbp.transmitter = s.hbp.transmitter ∧ (s.endWindow).hbp.lastKind = s.hbp.lastKind ∧
      (s.endWindow).hbp.requestsLost = s.hbp.requestsLost := by
  simp only [State.endWindow]
  (repeat' split) <;> simp

/-- `State.wheelBecomesFaulty` raises notices at most. -/
@[simp] theorem State.wheelBecomesFaulty_bus (s : State) :
    (s.wheelBecomesFaulty).hbp.node = s.hbp.node ∧ (s.wheelBecomesFaulty).hbp.partialRequest = s.hbp.partialRequest ∧ (s.wheelBecomesFaulty).hbp.requests = s.hbp.requests ∧
      (s.wheelBecomesFaulty).hbp.inService = s.hbp.inService ∧ (s.wheelBecomesFaulty).hbp.transmitter = s.hbp.transmitter ∧ (s.wheelBecomesFaulty).hbp.lastKind = s.hbp.lastKind ∧
      (s.wheelBecomesFaulty).hbp.requestsLost = s.hbp.requestsLost := by
  simp [State.wheelBecomesFaulty]

/-- `State.rollerBecomesFaulty` raises notices at most. -/
@[simp] theorem State.rollerBecomesFaulty_bus (s : State) :
    (s.rollerBecomesFaulty).hbp.node = s.hbp.node ∧ (s.rollerBecomesFaulty).hbp.partialRequest = s.hbp.partialRequest ∧ (s.rollerBecomesFaulty).hbp.requests = s.hbp.requests ∧
      (s.rollerBecomesFaulty).hbp.inService = s.hbp.inService ∧ (s.rollerBecomesFaulty).hbp.transmitter = s.hbp.transmitter ∧ (s.rollerBecomesFaulty).hbp.lastKind = s.hbp.lastKind ∧
      (s.rollerBecomesFaulty).hbp.requestsLost = s.hbp.requestsLost := by
  simp [State.rollerBecomesFaulty]

/-- `State.countQuadratureFault` raises notices at most. -/
@[simp] theorem State.countQuadratureFault_bus (s : State) (e : Encoder) :
    (s.countQuadratureFault e).hbp.node = s.hbp.node ∧ (s.countQuadratureFault e).hbp.partialRequest = s.hbp.partialRequest ∧ (s.countQuadratureFault e).hbp.requests = s.hbp.requests ∧
      (s.countQuadratureFault e).hbp.inService = s.hbp.inService ∧ (s.countQuadratureFault e).hbp.transmitter = s.hbp.transmitter ∧ (s.countQuadratureFault e).hbp.lastKind = s.hbp.lastKind ∧
      (s.countQuadratureFault e).hbp.requestsLost = s.hbp.requestsLost := by
  simp only [State.countQuadratureFault]
  (repeat' split) <;> simp

/-- `State.contactChanged` raises notices at most. -/
@[simp] theorem State.contactChanged_bus (s : State) (b : Bool) :
    (s.contactChanged b).hbp.node = s.hbp.node ∧ (s.contactChanged b).hbp.partialRequest = s.hbp.partialRequest ∧ (s.contactChanged b).hbp.requests = s.hbp.requests ∧
      (s.contactChanged b).hbp.inService = s.hbp.inService ∧ (s.contactChanged b).hbp.transmitter = s.hbp.transmitter ∧ (s.contactChanged b).hbp.lastKind = s.hbp.lastKind ∧
      (s.contactChanged b).hbp.requestsLost = s.hbp.requestsLost := by
  simp only [State.contactChanged]
  (repeat' split) <;> simp

/-- `State.datum` raises notices at most. -/
@[simp] theorem State.datum_bus (s : State) :
    (s.datum).hbp.node = s.hbp.node ∧ (s.datum).hbp.partialRequest = s.hbp.partialRequest ∧ (s.datum).hbp.requests = s.hbp.requests ∧
      (s.datum).hbp.inService = s.hbp.inService ∧ (s.datum).hbp.transmitter = s.hbp.transmitter ∧ (s.datum).hbp.lastKind = s.hbp.lastKind ∧
      (s.datum).hbp.requestsLost = s.hbp.requestsLost := by
  simp only [State.datum]
  (repeat' split) <;> simp

/-- `State.notifyState` raises notices at most. -/
@[simp] theorem State.notifyState_bus (s : State) (p : SeqState) :
    (s.notifyState p).hbp.node = s.hbp.node ∧ (s.notifyState p).hbp.partialRequest = s.hbp.partialRequest ∧ (s.notifyState p).hbp.requests = s.hbp.requests ∧
      (s.notifyState p).hbp.inService = s.hbp.inService ∧ (s.notifyState p).hbp.transmitter = s.hbp.transmitter ∧ (s.notifyState p).hbp.lastKind = s.hbp.lastKind ∧
      (s.notifyState p).hbp.requestsLost = s.hbp.requestsLost := by
  simp [State.notifyState]

/-- `State.enter` raises notices at most. -/
@[simp] theorem State.enter_bus (s : State) (st : SeqState) :
    (s.enter st).hbp.node = s.hbp.node ∧ (s.enter st).hbp.partialRequest = s.hbp.partialRequest ∧ (s.enter st).hbp.requests = s.hbp.requests ∧
      (s.enter st).hbp.inService = s.hbp.inService ∧ (s.enter st).hbp.transmitter = s.hbp.transmitter ∧ (s.enter st).hbp.lastKind = s.hbp.lastKind ∧
      (s.enter st).hbp.requestsLost = s.hbp.requestsLost := by
  simp [State.enter]

/-- `State.enterStop` raises notices at most. -/
@[simp] theorem State.enterStop_bus (s : State) (st : SeqState) (why : Option PauseReason) :
    (s.enterStop st why).hbp.node = s.hbp.node ∧ (s.enterStop st why).hbp.partialRequest = s.hbp.partialRequest ∧ (s.enterStop st why).hbp.requests = s.hbp.requests ∧
      (s.enterStop st why).hbp.inService = s.hbp.inService ∧ (s.enterStop st why).hbp.transmitter = s.hbp.transmitter ∧ (s.enterStop st why).hbp.lastKind = s.hbp.lastKind ∧
      (s.enterStop st why).hbp.requestsLost = s.hbp.requestsLost := by
  simp [State.enterStop]

/-- `State.enterPaused` raises notices at most. -/
@[simp] theorem State.enterPaused_bus (s : State) (why : PauseReason) :
    (s.enterPaused why).hbp.node = s.hbp.node ∧ (s.enterPaused why).hbp.partialRequest = s.hbp.partialRequest ∧ (s.enterPaused why).hbp.requests = s.hbp.requests ∧
      (s.enterPaused why).hbp.inService = s.hbp.inService ∧ (s.enterPaused why).hbp.transmitter = s.hbp.transmitter ∧ (s.enterPaused why).hbp.lastKind = s.hbp.lastKind ∧
      (s.enterPaused why).hbp.requestsLost = s.hbp.requestsLost := by
  simp [State.enterPaused]

/-- `State.enterSettling` raises notices at most. -/
@[simp] theorem State.enterSettling_bus (s : State) :
    (s.enterSettling).hbp.node = s.hbp.node ∧ (s.enterSettling).hbp.partialRequest = s.hbp.partialRequest ∧ (s.enterSettling).hbp.requests = s.hbp.requests ∧
      (s.enterSettling).hbp.inService = s.hbp.inService ∧ (s.enterSettling).hbp.transmitter = s.hbp.transmitter ∧ (s.enterSettling).hbp.lastKind = s.hbp.lastKind ∧
      (s.enterSettling).hbp.requestsLost = s.hbp.requestsLost := by
  simp [State.enterSettling]

/-- `State.arrivalTest` raises notices at most. -/
@[simp] theorem State.arrivalTest_bus (s : State) :
    (s.arrivalTest).hbp.node = s.hbp.node ∧ (s.arrivalTest).hbp.partialRequest = s.hbp.partialRequest ∧ (s.arrivalTest).hbp.requests = s.hbp.requests ∧
      (s.arrivalTest).hbp.inService = s.hbp.inService ∧ (s.arrivalTest).hbp.transmitter = s.hbp.transmitter ∧ (s.arrivalTest).hbp.lastKind = s.hbp.lastKind ∧
      (s.arrivalTest).hbp.requestsLost = s.hbp.requestsLost := by
  simp only [State.arrivalTest]
  (repeat' split) <;> simp

/-- `State.enterCreeping` raises notices at most. -/
@[simp] theorem State.enterCreeping_bus (s : State) :
    (s.enterCreeping).hbp.node = s.hbp.node ∧ (s.enterCreeping).hbp.partialRequest = s.hbp.partialRequest ∧ (s.enterCreeping).hbp.requests = s.hbp.requests ∧
      (s.enterCreeping).hbp.inService = s.hbp.inService ∧ (s.enterCreeping).hbp.transmitter = s.hbp.transmitter ∧ (s.enterCreeping).hbp.lastKind = s.hbp.lastKind ∧
      (s.enterCreeping).hbp.requestsLost = s.hbp.requestsLost := by
  simp [State.enterCreeping]

/-- `State.approachTest` raises notices at most. -/
@[simp] theorem State.approachTest_bus (s : State) :
    (s.approachTest).hbp.node = s.hbp.node ∧ (s.approachTest).hbp.partialRequest = s.hbp.partialRequest ∧ (s.approachTest).hbp.requests = s.hbp.requests ∧
      (s.approachTest).hbp.inService = s.hbp.inService ∧ (s.approachTest).hbp.transmitter = s.hbp.transmitter ∧ (s.approachTest).hbp.lastKind = s.hbp.lastKind ∧
      (s.approachTest).hbp.requestsLost = s.hbp.requestsLost := by
  simp only [State.approachTest]
  (repeat' split) <;> simp

/-- `State.enterFeeding` raises notices at most. -/
@[simp] theorem State.enterFeeding_bus (s : State) :
    (s.enterFeeding).hbp.node = s.hbp.node ∧ (s.enterFeeding).hbp.partialRequest = s.hbp.partialRequest ∧ (s.enterFeeding).hbp.requests = s.hbp.requests ∧
      (s.enterFeeding).hbp.inService = s.hbp.inService ∧ (s.enterFeeding).hbp.transmitter = s.hbp.transmitter ∧ (s.enterFeeding).hbp.lastKind = s.hbp.lastKind ∧
      (s.enterFeeding).hbp.requestsLost = s.hbp.requestsLost := by
  simp [State.enterFeeding]

/-- `State.enterWaiting` raises notices at most. -/
@[simp] theorem State.enterWaiting_bus (s : State) :
    (s.enterWaiting).hbp.node = s.hbp.node ∧ (s.enterWaiting).hbp.partialRequest = s.hbp.partialRequest ∧ (s.enterWaiting).hbp.requests = s.hbp.requests ∧
      (s.enterWaiting).hbp.inService = s.hbp.inService ∧ (s.enterWaiting).hbp.transmitter = s.hbp.transmitter ∧ (s.enterWaiting).hbp.lastKind = s.hbp.lastKind ∧
      (s.enterWaiting).hbp.requestsLost = s.hbp.requestsLost := by
  simp only [State.enterWaiting]
  (repeat' split) <;> simp

/-- `State.awaitPlan` raises notices at most. -/
@[simp] theorem State.awaitPlan_bus (s : State) :
    (s.awaitPlan).hbp.node = s.hbp.node ∧ (s.awaitPlan).hbp.partialRequest = s.hbp.partialRequest ∧ (s.awaitPlan).hbp.requests = s.hbp.requests ∧
      (s.awaitPlan).hbp.inService = s.hbp.inService ∧ (s.awaitPlan).hbp.transmitter = s.hbp.transmitter ∧ (s.awaitPlan).hbp.lastKind = s.hbp.lastKind ∧
      (s.awaitPlan).hbp.requestsLost = s.hbp.requestsLost := by
  simp only [State.awaitPlan]
  (repeat' split) <;> simp

/-- `State.enterReversing` raises notices at most. -/
@[simp] theorem State.enterReversing_bus (s : State) :
    (s.enterReversing).hbp.node = s.hbp.node ∧ (s.enterReversing).hbp.partialRequest = s.hbp.partialRequest ∧ (s.enterReversing).hbp.requests = s.hbp.requests ∧
      (s.enterReversing).hbp.inService = s.hbp.inService ∧ (s.enterReversing).hbp.transmitter = s.hbp.transmitter ∧ (s.enterReversing).hbp.lastKind = s.hbp.lastKind ∧
      (s.enterReversing).hbp.requestsLost = s.hbp.requestsLost := by
  simp [State.enterReversing]

/-- `State.startCut` raises notices at most. -/
@[simp] theorem State.startCut_bus (s : State) (k : CutKind) :
    (s.startCut k).hbp.node = s.hbp.node ∧ (s.startCut k).hbp.partialRequest = s.hbp.partialRequest ∧ (s.startCut k).hbp.requests = s.hbp.requests ∧
      (s.startCut k).hbp.inService = s.hbp.inService ∧ (s.startCut k).hbp.transmitter = s.hbp.transmitter ∧ (s.startCut k).hbp.lastKind = s.hbp.lastKind ∧
      (s.startCut k).hbp.requestsLost = s.hbp.requestsLost := by
  simp [State.startCut]

/-- `State.enterAtTarget` raises notices at most. -/
@[simp] theorem State.enterAtTarget_bus (s : State) :
    (s.enterAtTarget).hbp.node = s.hbp.node ∧ (s.enterAtTarget).hbp.partialRequest = s.hbp.partialRequest ∧ (s.enterAtTarget).hbp.requests = s.hbp.requests ∧
      (s.enterAtTarget).hbp.inService = s.hbp.inService ∧ (s.enterAtTarget).hbp.transmitter = s.hbp.transmitter ∧ (s.enterAtTarget).hbp.lastKind = s.hbp.lastKind ∧
      (s.enterAtTarget).hbp.requestsLost = s.hbp.requestsLost := by
  simp only [State.enterAtTarget]
  (repeat' split) <;> simp

/-- `State.endSawReturn` raises notices at most. -/
@[simp] theorem State.endSawReturn_bus (s : State) :
    (s.endSawReturn).hbp.node = s.hbp.node ∧ (s.endSawReturn).hbp.partialRequest = s.hbp.partialRequest ∧ (s.endSawReturn).hbp.requests = s.hbp.requests ∧
      (s.endSawReturn).hbp.inService = s.hbp.inService ∧ (s.endSawReturn).hbp.transmitter = s.hbp.transmitter ∧ (s.endSawReturn).hbp.lastKind = s.hbp.lastKind ∧
      (s.endSawReturn).hbp.requestsLost = s.hbp.requestsLost := by
  simp only [State.endSawReturn]
  (repeat' split) <;> simp

/-- `State.enterSawReturn` raises notices at most. -/
@[simp] theorem State.enterSawReturn_bus (s : State) :
    (s.enterSawReturn).hbp.node = s.hbp.node ∧ (s.enterSawReturn).hbp.partialRequest = s.hbp.partialRequest ∧ (s.enterSawReturn).hbp.requests = s.hbp.requests ∧
      (s.enterSawReturn).hbp.inService = s.hbp.inService ∧ (s.enterSawReturn).hbp.transmitter = s.hbp.transmitter ∧ (s.enterSawReturn).hbp.lastKind = s.hbp.lastKind ∧
      (s.enterSawReturn).hbp.requestsLost = s.hbp.requestsLost := by
  simp only [State.enterSawReturn]
  (repeat' split) <;> simp

/-- `State.completeCut` raises notices at most. -/
@[simp] theorem State.completeCut_bus (s : State) :
    (s.completeCut).hbp.node = s.hbp.node ∧ (s.completeCut).hbp.partialRequest = s.hbp.partialRequest ∧ (s.completeCut).hbp.requests = s.hbp.requests ∧
      (s.completeCut).hbp.inService = s.hbp.inService ∧ (s.completeCut).hbp.transmitter = s.hbp.transmitter ∧ (s.completeCut).hbp.lastKind = s.hbp.lastKind ∧
      (s.completeCut).hbp.requestsLost = s.hbp.requestsLost := by
  simp only [State.completeCut]
  (repeat' split) <;> simp

/-- `State.completeFelling` raises notices at most. -/
@[simp] theorem State.completeFelling_bus (s : State) :
    (s.completeFelling).hbp.node = s.hbp.node ∧ (s.completeFelling).hbp.partialRequest = s.hbp.partialRequest ∧ (s.completeFelling).hbp.requests = s.hbp.requests ∧
      (s.completeFelling).hbp.inService = s.hbp.inService ∧ (s.completeFelling).hbp.transmitter = s.hbp.transmitter ∧ (s.completeFelling).hbp.lastKind = s.hbp.lastKind ∧
      (s.completeFelling).hbp.requestsLost = s.hbp.requestsLost := by
  simp only [State.completeFelling]
  (repeat' split) <;> simp

/-- `State.abandonFelling` raises notices at most. -/
@[simp] theorem State.abandonFelling_bus (s : State) :
    (s.abandonFelling).hbp.node = s.hbp.node ∧ (s.abandonFelling).hbp.partialRequest = s.hbp.partialRequest ∧ (s.abandonFelling).hbp.requests = s.hbp.requests ∧
      (s.abandonFelling).hbp.inService = s.hbp.inService ∧ (s.abandonFelling).hbp.transmitter = s.hbp.transmitter ∧ (s.abandonFelling).hbp.lastKind = s.hbp.lastKind ∧
      (s.abandonFelling).hbp.requestsLost = s.hbp.requestsLost := by
  simp only [State.abandonFelling]
  (repeat' split) <;> simp

/-- `State.leaveFelling` raises notices at most. -/
@[simp] theorem State.leaveFelling_bus (s : State) :
    (s.leaveFelling).hbp.node = s.hbp.node ∧ (s.leaveFelling).hbp.partialRequest = s.hbp.partialRequest ∧ (s.leaveFelling).hbp.requests = s.hbp.requests ∧
      (s.leaveFelling).hbp.inService = s.hbp.inService ∧ (s.leaveFelling).hbp.transmitter = s.hbp.transmitter ∧ (s.leaveFelling).hbp.lastKind = s.hbp.lastKind ∧
      (s.leaveFelling).hbp.requestsLost = s.hbp.requestsLost := by
  simp only [State.leaveFelling]
  (repeat' split) <;> simp

/-- `State.enterIdle` raises notices at most. -/
@[simp] theorem State.enterIdle_bus (s : State) :
    (s.enterIdle).hbp.node = s.hbp.node ∧ (s.enterIdle).hbp.partialRequest = s.hbp.partialRequest ∧ (s.enterIdle).hbp.requests = s.hbp.requests ∧
      (s.enterIdle).hbp.inService = s.hbp.inService ∧ (s.enterIdle).hbp.transmitter = s.hbp.transmitter ∧ (s.enterIdle).hbp.lastKind = s.hbp.lastKind ∧
      (s.enterIdle).hbp.requestsLost = s.hbp.requestsLost := by
  simp [State.enterIdle]

/-- `State.sequencerGroupEnd` raises notices at most. -/
@[simp] theorem State.sequencerGroupEnd_bus (s : State) :
    (s.sequencerGroupEnd).hbp.node = s.hbp.node ∧ (s.sequencerGroupEnd).hbp.partialRequest = s.hbp.partialRequest ∧ (s.sequencerGroupEnd).hbp.requests = s.hbp.requests ∧
      (s.sequencerGroupEnd).hbp.inService = s.hbp.inService ∧ (s.sequencerGroupEnd).hbp.transmitter = s.hbp.transmitter ∧ (s.sequencerGroupEnd).hbp.lastKind = s.hbp.lastKind ∧
      (s.sequencerGroupEnd).hbp.requestsLost = s.hbp.requestsLost := by
  simp only [State.sequencerGroupEnd]
  (repeat' split) <;> simp

/-- `State.completionReport` raises notices at most. -/
@[simp] theorem State.completionReport_bus (s : State) :
    (s.completionReport).hbp.node = s.hbp.node ∧ (s.completionReport).hbp.partialRequest = s.hbp.partialRequest ∧ (s.completionReport).hbp.requests = s.hbp.requests ∧
      (s.completionReport).hbp.inService = s.hbp.inService ∧ (s.completionReport).hbp.transmitter = s.hbp.transmitter ∧ (s.completionReport).hbp.lastKind = s.hbp.lastKind ∧
      (s.completionReport).hbp.requestsLost = s.hbp.requestsLost := by
  simp only [State.completionReport]
  (repeat' split) <;> simp

/-- `State.targetTest` raises notices at most. -/
@[simp] theorem State.targetTest_bus (s : State) (b : Bool) :
    (s.targetTest b).hbp.node = s.hbp.node ∧ (s.targetTest b).hbp.partialRequest = s.hbp.partialRequest ∧ (s.targetTest b).hbp.requests = s.hbp.requests ∧
      (s.targetTest b).hbp.inService = s.hbp.inService ∧ (s.targetTest b).hbp.transmitter = s.hbp.transmitter ∧ (s.targetTest b).hbp.lastKind = s.hbp.lastKind ∧
      (s.targetTest b).hbp.requestsLost = s.hbp.requestsLost := by
  simp only [State.targetTest]
  (repeat' split) <;> simp

/-- `State.sequencerUpdate` raises notices at most. -/
@[simp] theorem State.sequencerUpdate_bus (s : State) (b : Bool) :
    (s.sequencerUpdate b).hbp.node = s.hbp.node ∧ (s.sequencerUpdate b).hbp.partialRequest = s.hbp.partialRequest ∧ (s.sequencerUpdate b).hbp.requests = s.hbp.requests ∧
      (s.sequencerUpdate b).hbp.inService = s.hbp.inService ∧ (s.sequencerUpdate b).hbp.transmitter = s.hbp.transmitter ∧ (s.sequencerUpdate b).hbp.lastKind = s.hbp.lastKind ∧
      (s.sequencerUpdate b).hbp.requestsLost = s.hbp.requestsLost := by
  simp [State.sequencerUpdate]

/-- `State.settleExpires` raises notices at most. -/
@[simp] theorem State.settleExpires_bus (s : State) :
    (s.settleExpires).hbp.node = s.hbp.node ∧ (s.settleExpires).hbp.partialRequest = s.hbp.partialRequest ∧ (s.settleExpires).hbp.requests = s.hbp.requests ∧
      (s.settleExpires).hbp.inService = s.hbp.inService ∧ (s.settleExpires).hbp.transmitter = s.hbp.transmitter ∧ (s.settleExpires).hbp.lastKind = s.hbp.lastKind ∧
      (s.settleExpires).hbp.requestsLost = s.hbp.requestsLost := by
  simp only [State.settleExpires]
  (repeat' split) <;> simp

/-- `State.notifySawFault` raises notices at most. -/
@[simp] theorem State.notifySawFault_bus (s : State) (c : SawFaultCause) (h : Nat) (k : Option CutKind) :
    (s.notifySawFault c h k).hbp.node = s.hbp.node ∧ (s.notifySawFault c h k).hbp.partialRequest = s.hbp.partialRequest ∧ (s.notifySawFault c h k).hbp.requests = s.hbp.requests ∧
      (s.notifySawFault c h k).hbp.inService = s.hbp.inService ∧ (s.notifySawFault c h k).hbp.transmitter = s.hbp.transmitter ∧ (s.notifySawFault c h k).hbp.lastKind = s.hbp.lastKind ∧
      (s.notifySawFault c h k).hbp.requestsLost = s.hbp.requestsLost := by
  simp [State.notifySawFault]

/-- `State.sawExpires` raises notices at most. -/
@[simp] theorem State.sawExpires_bus (s : State) :
    (s.sawExpires).hbp.node = s.hbp.node ∧ (s.sawExpires).hbp.partialRequest = s.hbp.partialRequest ∧ (s.sawExpires).hbp.requests = s.hbp.requests ∧
      (s.sawExpires).hbp.inService = s.hbp.inService ∧ (s.sawExpires).hbp.transmitter = s.hbp.transmitter ∧ (s.sawExpires).hbp.lastKind = s.hbp.lastKind ∧
      (s.sawExpires).hbp.requestsLost = s.hbp.requestsLost := by
  simp only [State.sawExpires]
  (repeat' split) <;> simp

/-- `State.homeExpires` raises notices at most. -/
@[simp] theorem State.homeExpires_bus (s : State) :
    (s.homeExpires).hbp.node = s.hbp.node ∧ (s.homeExpires).hbp.partialRequest = s.hbp.partialRequest ∧ (s.homeExpires).hbp.requests = s.hbp.requests ∧
      (s.homeExpires).hbp.inService = s.hbp.inService ∧ (s.homeExpires).hbp.transmitter = s.hbp.transmitter ∧ (s.homeExpires).hbp.lastKind = s.hbp.lastKind ∧
      (s.homeExpires).hbp.requestsLost = s.hbp.requestsLost := by
  simp [State.homeExpires]

/-- `State.stallExpires` raises notices at most. -/
@[simp] theorem State.stallExpires_bus (s : State) :
    (s.stallExpires).hbp.node = s.hbp.node ∧ (s.stallExpires).hbp.partialRequest = s.hbp.partialRequest ∧ (s.stallExpires).hbp.requests = s.hbp.requests ∧
      (s.stallExpires).hbp.inService = s.hbp.inService ∧ (s.stallExpires).hbp.transmitter = s.hbp.transmitter ∧ (s.stallExpires).hbp.lastKind = s.hbp.lastKind ∧
      (s.stallExpires).hbp.requestsLost = s.hbp.requestsLost := by
  simp [State.stallExpires]

/-- `State.abortMeasurements` raises notices at most. -/
@[simp] theorem State.abortMeasurements_bus (s : State) :
    (s.abortMeasurements).hbp.node = s.hbp.node ∧ (s.abortMeasurements).hbp.partialRequest = s.hbp.partialRequest ∧ (s.abortMeasurements).hbp.requests = s.hbp.requests ∧
      (s.abortMeasurements).hbp.inService = s.hbp.inService ∧ (s.abortMeasurements).hbp.transmitter = s.hbp.transmitter ∧ (s.abortMeasurements).hbp.lastKind = s.hbp.lastKind ∧
      (s.abortMeasurements).hbp.requestsLost = s.hbp.requestsLost := by
  simp only [State.abortMeasurements]
  (repeat' split) <;> simp

/-- `State.groupEnd` raises notices at most. -/
@[simp] theorem State.groupEnd_bus (s : State) :
    (s.groupEnd).hbp.node = s.hbp.node ∧ (s.groupEnd).hbp.partialRequest = s.hbp.partialRequest ∧ (s.groupEnd).hbp.requests = s.hbp.requests ∧
      (s.groupEnd).hbp.inService = s.hbp.inService ∧ (s.groupEnd).hbp.transmitter = s.hbp.transmitter ∧ (s.groupEnd).hbp.lastKind = s.hbp.lastKind ∧
      (s.groupEnd).hbp.requestsLost = s.hbp.requestsLost := by
  simp [State.groupEnd]

/-- `State.watchSlot` raises notices at most. -/
@[simp] theorem State.watchSlot_bus (s : State) (i : Nat) :
    (s.watchSlot i).hbp.node = s.hbp.node ∧ (s.watchSlot i).hbp.partialRequest = s.hbp.partialRequest ∧ (s.watchSlot i).hbp.requests = s.hbp.requests ∧
      (s.watchSlot i).hbp.inService = s.hbp.inService ∧ (s.watchSlot i).hbp.transmitter = s.hbp.transmitter ∧ (s.watchSlot i).hbp.lastKind = s.hbp.lastKind ∧
      (s.watchSlot i).hbp.requestsLost = s.hbp.requestsLost := by
  simp only [State.watchSlot]
  (repeat' split) <;> simp

/-- `State.watchMembers` raises notices at most. -/
@[simp] theorem State.watchMembers_bus (s : State) :
    (s.watchMembers).hbp.node = s.hbp.node ∧ (s.watchMembers).hbp.partialRequest = s.hbp.partialRequest ∧ (s.watchMembers).hbp.requests = s.hbp.requests ∧
      (s.watchMembers).hbp.inService = s.hbp.inService ∧ (s.watchMembers).hbp.transmitter = s.hbp.transmitter ∧ (s.watchMembers).hbp.lastKind = s.hbp.lastKind ∧
      (s.watchMembers).hbp.requestsLost = s.hbp.requestsLost := by
  simp only [State.watchMembers]
  exact ⟨foldl_kept (fun t : State => t.hbp.node) (by intros; simp) _ _,
    foldl_kept (fun t : State => t.hbp.partialRequest) (by intros; simp) _ _,
    foldl_kept (fun t : State => t.hbp.requests) (by intros; simp) _ _,
    foldl_kept (fun t : State => t.hbp.inService) (by intros; simp) _ _,
    foldl_kept (fun t : State => t.hbp.transmitter) (by intros; simp) _ _,
    foldl_kept (fun t : State => t.hbp.lastKind) (by intros; simp) _ _,
    foldl_kept (fun t : State => t.hbp.requestsLost) (by intros; simp) _ _⟩

/-- `State.stemEnd` raises notices at most. -/
@[simp] theorem State.stemEnd_bus (s : State) :
    (s.stemEnd).hbp.node = s.hbp.node ∧ (s.stemEnd).hbp.partialRequest = s.hbp.partialRequest ∧ (s.stemEnd).hbp.requests = s.hbp.requests ∧
      (s.stemEnd).hbp.inService = s.hbp.inService ∧ (s.stemEnd).hbp.transmitter = s.hbp.transmitter ∧ (s.stemEnd).hbp.lastKind = s.hbp.lastKind ∧
      (s.stemEnd).hbp.requestsLost = s.hbp.requestsLost := by
  simp [State.stemEnd]

/-- `State.deliverFeed` raises notices at most. -/
@[simp] theorem State.deliverFeed_bus (s : State) (q : FeedRequest) (a : Nat) (m : MeasureReport) :
    (s.deliverFeed q a m).hbp.node = s.hbp.node ∧ (s.deliverFeed q a m).hbp.partialRequest = s.hbp.partialRequest ∧ (s.deliverFeed q a m).hbp.requests = s.hbp.requests ∧
      (s.deliverFeed q a m).hbp.inService = s.hbp.inService ∧ (s.deliverFeed q a m).hbp.transmitter = s.hbp.transmitter ∧ (s.deliverFeed q a m).hbp.lastKind = s.hbp.lastKind ∧
      (s.deliverFeed q a m).hbp.requestsLost = s.hbp.requestsLost := by
  simp only [State.deliverFeed]
  (repeat' split) <;> simp

/-- `State.deliver` raises notices at most. -/
@[simp] theorem State.deliver_bus (s : State) (q : RunningSequence) (m : MeasureReport) :
    (s.deliver q m).hbp.node = s.hbp.node ∧ (s.deliver q m).hbp.partialRequest = s.hbp.partialRequest ∧ (s.deliver q m).hbp.requests = s.hbp.requests ∧
      (s.deliver q m).hbp.inService = s.hbp.inService ∧ (s.deliver q m).hbp.transmitter = s.hbp.transmitter ∧ (s.deliver q m).hbp.lastKind = s.hbp.lastKind ∧
      (s.deliver q m).hbp.requestsLost = s.hbp.requestsLost := by
  simp only [State.deliver]
  (repeat' split) <;> simp

/-- `State.finishSequence` raises notices at most. -/
@[simp] theorem State.finishSequence_bus (s : State) (q : RunningSequence) (r : Readings) :
    (s.finishSequence q r).hbp.node = s.hbp.node ∧ (s.finishSequence q r).hbp.partialRequest = s.hbp.partialRequest ∧ (s.finishSequence q r).hbp.requests = s.hbp.requests ∧
      (s.finishSequence q r).hbp.inService = s.hbp.inService ∧ (s.finishSequence q r).hbp.transmitter = s.hbp.transmitter ∧ (s.finishSequence q r).hbp.lastKind = s.hbp.lastKind ∧
      (s.finishSequence q r).hbp.requestsLost = s.hbp.requestsLost := by
  simp [State.finishSequence]

/-- `State.lengthUpdate` raises notices at most. -/
@[simp] theorem State.lengthUpdate_bus (s : State) (b : Bool) :
    (s.lengthUpdate b).hbp.node = s.hbp.node ∧ (s.lengthUpdate b).hbp.partialRequest = s.hbp.partialRequest ∧ (s.lengthUpdate b).hbp.requests = s.hbp.requests ∧
      (s.lengthUpdate b).hbp.inService = s.hbp.inService ∧ (s.lengthUpdate b).hbp.transmitter = s.hbp.transmitter ∧ (s.lengthUpdate b).hbp.lastKind = s.hbp.lastKind ∧
      (s.lengthUpdate b).hbp.requestsLost = s.hbp.requestsLost := by
  simp only [State.lengthUpdate]
  (repeat' split) <;> simp

/-- `State.updateLength` raises notices at most. -/
@[simp] theorem State.updateLength_bus (s : State) :
    (s.updateLength).hbp.node = s.hbp.node ∧ (s.updateLength).hbp.partialRequest = s.hbp.partialRequest ∧ (s.updateLength).hbp.requests = s.hbp.requests ∧
      (s.updateLength).hbp.inService = s.hbp.inService ∧ (s.updateLength).hbp.transmitter = s.hbp.transmitter ∧ (s.updateLength).hbp.lastKind = s.hbp.lastKind ∧
      (s.updateLength).hbp.requestsLost = s.hbp.requestsLost := by
  simp only [State.updateLength]
  (repeat' split) <;> simp

/-- `State.accountWindow` raises notices at most. -/
@[simp] theorem State.accountWindow_bus (s : State) (e : Encoder) (d : Direction) :
    (s.accountWindow e d).hbp.node = s.hbp.node ∧ (s.accountWindow e d).hbp.partialRequest = s.hbp.partialRequest ∧ (s.accountWindow e d).hbp.requests = s.hbp.requests ∧
      (s.accountWindow e d).hbp.inService = s.hbp.inService ∧ (s.accountWindow e d).hbp.transmitter = s.hbp.transmitter ∧ (s.accountWindow e d).hbp.lastKind = s.hbp.lastKind ∧
      (s.accountWindow e d).hbp.requestsLost = s.hbp.requestsLost := by
  simp only [State.accountWindow]
  (repeat' split) <;> simp

/-- `State.pulse` raises notices at most. -/
@[simp] theorem State.pulse_bus (s : State) (e : Encoder) (d : Direction) :
    (s.pulse e d).hbp.node = s.hbp.node ∧ (s.pulse e d).hbp.partialRequest = s.hbp.partialRequest ∧ (s.pulse e d).hbp.requests = s.hbp.requests ∧
      (s.pulse e d).hbp.inService = s.hbp.inService ∧ (s.pulse e d).hbp.transmitter = s.hbp.transmitter ∧ (s.pulse e d).hbp.lastKind = s.hbp.lastKind ∧
      (s.pulse e d).hbp.requestsLost = s.hbp.requestsLost := by
  simp only [State.pulse]
  (repeat' split) <;> simp

/-- `State.acceptFell` raises notices at most. -/
@[simp] theorem State.acceptFell_bus (s : State) (i sp : Nat) :
    (s.acceptFell i sp).hbp.node = s.hbp.node ∧ (s.acceptFell i sp).hbp.partialRequest = s.hbp.partialRequest ∧ (s.acceptFell i sp).hbp.requests = s.hbp.requests ∧
      (s.acceptFell i sp).hbp.inService = s.hbp.inService ∧ (s.acceptFell i sp).hbp.transmitter = s.hbp.transmitter ∧ (s.acceptFell i sp).hbp.lastKind = s.hbp.lastKind ∧
      (s.acceptFell i sp).hbp.requestsLost = s.hbp.requestsLost := by
  simp [State.acceptFell]

/-- `State.startGroup` raises notices at most. -/
@[simp] theorem State.startGroup_bus (s : State) :
    (s.startGroup).hbp.node = s.hbp.node ∧ (s.startGroup).hbp.partialRequest = s.hbp.partialRequest ∧ (s.startGroup).hbp.requests = s.hbp.requests ∧
      (s.startGroup).hbp.inService = s.hbp.inService ∧ (s.startGroup).hbp.transmitter = s.hbp.transmitter ∧ (s.startGroup).hbp.lastKind = s.hbp.lastKind ∧
      (s.startGroup).hbp.requestsLost = s.hbp.requestsLost := by
  simp [State.startGroup]

/-- `State.stopCut` raises notices at most. -/
@[simp] theorem State.stopCut_bus (s : State) :
    (s.stopCut).hbp.node = s.hbp.node ∧ (s.stopCut).hbp.partialRequest = s.hbp.partialRequest ∧ (s.stopCut).hbp.requests = s.hbp.requests ∧
      (s.stopCut).hbp.inService = s.hbp.inService ∧ (s.stopCut).hbp.transmitter = s.hbp.transmitter ∧ (s.stopCut).hbp.lastKind = s.hbp.lastKind ∧
      (s.stopCut).hbp.requestsLost = s.hbp.requestsLost := by
  simp [State.stopCut]

/-- `State.stopFelling` raises notices at most. -/
@[simp] theorem State.stopFelling_bus (s : State) :
    (s.stopFelling).hbp.node = s.hbp.node ∧ (s.stopFelling).hbp.partialRequest = s.hbp.partialRequest ∧ (s.stopFelling).hbp.requests = s.hbp.requests ∧
      (s.stopFelling).hbp.inService = s.hbp.inService ∧ (s.stopFelling).hbp.transmitter = s.hbp.transmitter ∧ (s.stopFelling).hbp.lastKind = s.hbp.lastKind ∧
      (s.stopFelling).hbp.requestsLost = s.hbp.requestsLost := by
  simp [State.stopFelling]

/-- `State.dropTop` raises notices at most. -/
@[simp] theorem State.dropTop_bus (s : State) :
    (s.dropTop).hbp.node = s.hbp.node ∧ (s.dropTop).hbp.partialRequest = s.hbp.partialRequest ∧ (s.dropTop).hbp.requests = s.hbp.requests ∧
      (s.dropTop).hbp.inService = s.hbp.inService ∧ (s.dropTop).hbp.transmitter = s.hbp.transmitter ∧ (s.dropTop).hbp.lastKind = s.hbp.lastKind ∧
      (s.dropTop).hbp.requestsLost = s.hbp.requestsLost := by
  simp only [State.dropTop]
  (repeat' split) <;> simp

/-- `State.release` raises notices at most. -/
@[simp] theorem State.release_bus (s : State) :
    (s.release).hbp.node = s.hbp.node ∧ (s.release).hbp.partialRequest = s.hbp.partialRequest ∧ (s.release).hbp.requests = s.hbp.requests ∧
      (s.release).hbp.inService = s.hbp.inService ∧ (s.release).hbp.transmitter = s.hbp.transmitter ∧ (s.release).hbp.lastKind = s.hbp.lastKind ∧
      (s.release).hbp.requestsLost = s.hbp.requestsLost := by
  simp only [State.release]
  (repeat' split) <;> simp

/-- `State.haltAsserts` raises notices at most. -/
@[simp] theorem State.haltAsserts_bus (s : State) :
    (s.haltAsserts).hbp.node = s.hbp.node ∧ (s.haltAsserts).hbp.partialRequest = s.hbp.partialRequest ∧ (s.haltAsserts).hbp.requests = s.hbp.requests ∧
      (s.haltAsserts).hbp.inService = s.hbp.inService ∧ (s.haltAsserts).hbp.transmitter = s.hbp.transmitter ∧ (s.haltAsserts).hbp.lastKind = s.hbp.lastKind ∧
      (s.haltAsserts).hbp.requestsLost = s.hbp.requestsLost := by
  simp only [State.haltAsserts]
  (repeat' split) <;> simp

/-- `State.haltReleases` raises notices at most. -/
@[simp] theorem State.haltReleases_bus (s : State) :
    (s.haltReleases).hbp.node = s.hbp.node ∧ (s.haltReleases).hbp.partialRequest = s.hbp.partialRequest ∧ (s.haltReleases).hbp.requests = s.hbp.requests ∧
      (s.haltReleases).hbp.inService = s.hbp.inService ∧ (s.haltReleases).hbp.transmitter = s.hbp.transmitter ∧ (s.haltReleases).hbp.lastKind = s.hbp.lastKind ∧
      (s.haltReleases).hbp.requestsLost = s.hbp.requestsLost := by
  simp only [State.haltReleases]
  (repeat' split) <;> simp

/-- `State.sawEndAsserts` raises notices at most. -/
@[simp] theorem State.sawEndAsserts_bus (s : State) :
    (s.sawEndAsserts).hbp.node = s.hbp.node ∧ (s.sawEndAsserts).hbp.partialRequest = s.hbp.partialRequest ∧ (s.sawEndAsserts).hbp.requests = s.hbp.requests ∧
      (s.sawEndAsserts).hbp.inService = s.hbp.inService ∧ (s.sawEndAsserts).hbp.transmitter = s.hbp.transmitter ∧ (s.sawEndAsserts).hbp.lastKind = s.hbp.lastKind ∧
      (s.sawEndAsserts).hbp.requestsLost = s.hbp.requestsLost := by
  simp only [State.sawEndAsserts]
  (repeat' split) <;> simp

/-- `State.sawHomeAsserts` raises notices at most. -/
@[simp] theorem State.sawHomeAsserts_bus (s : State) :
    (s.sawHomeAsserts).hbp.node = s.hbp.node ∧ (s.sawHomeAsserts).hbp.partialRequest = s.hbp.partialRequest ∧ (s.sawHomeAsserts).hbp.requests = s.hbp.requests ∧
      (s.sawHomeAsserts).hbp.inService = s.hbp.inService ∧ (s.sawHomeAsserts).hbp.transmitter = s.hbp.transmitter ∧ (s.sawHomeAsserts).hbp.lastKind = s.hbp.lastKind ∧
      (s.sawHomeAsserts).hbp.requestsLost = s.hbp.requestsLost := by
  simp only [State.sawHomeAsserts]
  (repeat' split) <;> simp

/-- `State.timerAtChange` raises notices at most. -/
@[simp] theorem State.timerAtChange_bus (s : State) (n : Nat) :
    (s.timerAtChange n).hbp.node = s.hbp.node ∧ (s.timerAtChange n).hbp.partialRequest = s.hbp.partialRequest ∧ (s.timerAtChange n).hbp.requests = s.hbp.requests ∧
      (s.timerAtChange n).hbp.inService = s.hbp.inService ∧ (s.timerAtChange n).hbp.transmitter = s.hbp.transmitter ∧ (s.timerAtChange n).hbp.lastKind = s.hbp.lastKind ∧
      (s.timerAtChange n).hbp.requestsLost = s.hbp.requestsLost := by
  simp only [State.timerAtChange]
  (repeat' split) <;> simp

/-- `State.storeParameter` raises notices at most. -/
@[simp] theorem State.storeParameter_bus (s : State) (n v : Nat) :
    (s.storeParameter n v).hbp.node = s.hbp.node ∧ (s.storeParameter n v).hbp.partialRequest = s.hbp.partialRequest ∧ (s.storeParameter n v).hbp.requests = s.hbp.requests ∧
      (s.storeParameter n v).hbp.inService = s.hbp.inService ∧ (s.storeParameter n v).hbp.transmitter = s.hbp.transmitter ∧ (s.storeParameter n v).hbp.lastKind = s.hbp.lastKind ∧
      (s.storeParameter n v).hbp.requestsLost = s.hbp.requestsLost := by
  simp only [State.storeParameter]
  (repeat' split) <;> simp

/-- `State.clearStems` raises notices at most. -/
@[simp] theorem State.clearStems_bus (s : State) :
    (s.clearStems).hbp.node = s.hbp.node ∧ (s.clearStems).hbp.partialRequest = s.hbp.partialRequest ∧ (s.clearStems).hbp.requests = s.hbp.requests ∧
      (s.clearStems).hbp.inService = s.hbp.inService ∧ (s.clearStems).hbp.transmitter = s.hbp.transmitter ∧ (s.clearStems).hbp.lastKind = s.hbp.lastKind ∧
      (s.clearStems).hbp.requestsLost = s.hbp.requestsLost := by
  simp only [State.clearStems]
  (repeat' split) <;> simp

end Sys2Proof.Machine
end

