-- ==== Sys2Proof/Laws/FramesStack.lean ====
section
/-! SUPPORT. What the operations leave of the group list and the next-handle counter. -/

namespace Sys2Proof.Machine

open Sys2Proof

/-- `State.setSlot` and the group list and next-handle counter. -/
@[simp] theorem State.setSlot_stack (s : State) (i : Nat) (r : Option StemRecord) :
    (s.setSlot i r).stb.group = s.stb.group ∧ (s.setSlot i r).stb.nextHandle = s.stb.nextHandle := by
  simp [State.setSlot]

/-- `State.modifySlot` and the group list and next-handle counter. -/
@[simp] theorem State.modifySlot_stack (s : State) (i : Nat) (f : StemRecord → StemRecord) :
    (s.modifySlot i f).stb.group = s.stb.group ∧ (s.modifySlot i f).stb.nextHandle = s.stb.nextHandle := by
  simp only [State.modifySlot]
  (repeat' split) <;> simp

/-- `State.modifyMembers` and the group list and next-handle counter. -/
@[simp] theorem State.modifyMembers_stack (s : State) (f : StemRecord → StemRecord) :
    (s.modifyMembers f).stb.group = s.stb.group ∧ (s.modifyMembers f).stb.nextHandle = s.stb.nextHandle := by
  simp only [State.modifyMembers]
  exact ⟨foldl_kept (fun t : State => t.stb.group) (by intros; simp) _ _,
    foldl_kept (fun t : State => t.stb.nextHandle) (by intros; simp) _ _⟩

/-- `State.modifyActive` and the group list and next-handle counter. -/
@[simp] theorem State.modifyActive_stack (s : State) (f : StemRecord → StemRecord) :
    (s.modifyActive f).stb.group = s.stb.group ∧ (s.modifyActive f).stb.nextHandle = s.stb.nextHandle := by
  simp only [State.modifyActive]
  (repeat' split) <;> simp

/-- `State.modifyLead` and the group list and next-handle counter. -/
@[simp] theorem State.modifyLead_stack (s : State) (f : StemRecord → StemRecord) :
    (s.modifyLead f).stb.group = s.stb.group ∧ (s.modifyLead f).stb.nextHandle = s.stb.nextHandle := by
  simp only [State.modifyLead]
  (repeat' split) <;> simp

/-- `State.install` and the group list and next-handle counter. -/
@[simp] theorem State.install_stack (s : State) (i : Nat) (r : StemRecord) (o : InstallOccasion) (res : PassResult) :
    (s.install i r o res).stb.group = s.stb.group ∧ (s.install i r o res).stb.nextHandle = s.stb.nextHandle := by
  simp [State.install]

/-- `State.checkPending` and the group list and next-handle counter. -/
@[simp] theorem State.checkPending_stack (s : State) :
    (s.checkPending).stb.group = s.stb.group ∧ (s.checkPending).stb.nextHandle = s.stb.nextHandle := by
  simp only [State.checkPending]
  (repeat' split) <;> simp

/-- `State.actOn` and the group list and next-handle counter. -/
@[simp] theorem State.actOn_stack (s : State) (h : Option Override) (res : PassResult) (o : PassOutcome) :
    (s.actOn h res o).stb.group = s.stb.group ∧ (s.actOn h res o).stb.nextHandle = s.stb.nextHandle := by
  simp only [State.actOn]
  (repeat' split) <;> simp

/-- `State.finishPass` and the group list and next-handle counter. -/
@[simp] theorem State.finishPass_stack (s : State) (p : Pass) :
    (s.finishPass p).stb.group = s.stb.group ∧ (s.finishPass p).stb.nextHandle = s.stb.nextHandle := by
  simp [State.finishPass]

/-- `State.pushRecord` and the group list and next-handle counter. -/
@[simp] theorem State.pushRecord_stack (s : State) (i : Nat) :
    (s.pushRecord i).stb.nextHandle = s.stb.nextHandle := by
  simp only [State.pushRecord]
  (repeat' split) <;> simp

/-- `State.closeRecord` and the group list and next-handle counter. -/
@[simp] theorem State.closeRecord_stack (s : State) (i : Nat) (st : StemState) (why : EndReason) :
    (s.closeRecord i st why).stb.nextHandle = s.stb.nextHandle := by
  simp only [State.closeRecord]
  (repeat' split) <;> simp

/-- `State.closeAll` and the group list and next-handle counter. -/
@[simp] theorem State.closeAll_stack (s : State) (l : List Nat) (st : StemRecord → StemState) (why : EndReason) :
    (s.closeAll l st why).stb.nextHandle = s.stb.nextHandle := by
  simp only [State.closeAll]
  exact foldl_kept (fun t : State => t.stb.nextHandle) (by intros; split <;> simp) _ _

/-- `State.releaseGroup` and the group list and next-handle counter. -/
@[simp] theorem State.releaseGroup_stack (s : State) :
    (s.releaseGroup).stb.nextHandle = s.stb.nextHandle := by
  simp [State.releaseGroup]

/-- `State.recordPieces` and the group list and next-handle counter. -/
@[simp] theorem State.recordPieces_stack (s : State) (f : StemRecord → Piece) :
    (s.recordPieces f).stb.group = s.stb.group ∧ (s.recordPieces f).stb.nextHandle = s.stb.nextHandle := by
  simp [State.recordPieces]

/-- `State.recordPlannedCut` and the group list and next-handle counter. -/
@[simp] theorem State.recordPlannedCut_stack (s : State) :
    (s.recordPlannedCut).stb.group = s.stb.group ∧ (s.recordPlannedCut).stb.nextHandle = s.stb.nextHandle := by
  simp only [State.recordPlannedCut]
  (repeat' split) <;> simp

/-- `State.recordOffPlanCut` and the group list and next-handle counter. -/
@[simp] theorem State.recordOffPlanCut_stack (s : State) :
    (s.recordOffPlanCut).stb.group = s.stb.group ∧ (s.recordOffPlanCut).stb.nextHandle = s.stb.nextHandle := by
  simp [State.recordOffPlanCut]

/-- `State.setSource` and the group list and next-handle counter. -/
@[simp] theorem State.setSource_stack (s : State) (new : SourceState) (n : Nat) (c : SourceCause) :
    (s.setSource new n c).stb.group = s.stb.group ∧ (s.setSource new n c).stb.nextHandle = s.stb.nextHandle := by
  simp only [State.setSource]
  (repeat' split) <;> simp

/-- `State.forceRoller` and the group list and next-handle counter. -/
@[simp] theorem State.forceRoller_stack (s : State) (c : SourceCause) :
    (s.forceRoller c).stb.group = s.stb.group ∧ (s.forceRoller c).stb.nextHandle = s.stb.nextHandle := by
  simp only [State.forceRoller]
  (repeat' split) <;> simp

/-- `State.judgedMove` and the group list and next-handle counter. -/
@[simp] theorem State.judgedMove_stack (s : State) (d : Bool) :
    (s.judgedMove d).stb.group = s.stb.group ∧ (s.judgedMove d).stb.nextHandle = s.stb.nextHandle := by
  simp only [State.judgedMove]
  (repeat' split) <;> simp

/-- `State.reportDisputed` and the group list and next-handle counter. -/
@[simp] theorem State.reportDisputed_stack (s : State) :
    (s.reportDisputed).stb.group = s.stb.group ∧ (s.reportDisputed).stb.nextHandle = s.stb.nextHandle := by
  simp only [State.reportDisputed]
  (repeat' split) <;> simp

/-- `State.judgeWindow` and the group list and next-handle counter. -/
@[simp] theorem State.judgeWindow_stack (s : State) :
    (s.judgeWindow).stb.group = s.stb.group ∧ (s.judgeWindow).stb.nextHandle = s.stb.nextHandle := by
  simp only [State.judgeWindow]
  (repeat' split) <;> simp

/-- `State.endWindow` and the group list and next-handle counter. -/
@[simp] theorem State.endWindow_stack (s : State) :
    (s.endWindow).stb.group = s.stb.group ∧ (s.endWindow).stb.nextHandle = s.stb.nextHandle := by
  simp only [State.endWindow]
  (repeat' split) <;> simp

/-- `State.wheelBecomesFaulty` and the group list and next-handle counter. -/
@[simp] theorem State.wheelBecomesFaulty_stack (s : State) :
    (s.wheelBecomesFaulty).stb.group = s.stb.group ∧ (s.wheelBecomesFaulty).stb.nextHandle = s.stb.nextHandle := by
  simp [State.wheelBecomesFaulty]

/-- `State.countQuadratureFault` and the group list and next-handle counter. -/
@[simp] theorem State.countQuadratureFault_stack (s : State) (e : Encoder) :
    (s.countQuadratureFault e).stb.group = s.stb.group ∧ (s.countQuadratureFault e).stb.nextHandle = s.stb.nextHandle := by
  simp only [State.countQuadratureFault]
  (repeat' split) <;> simp

/-- `State.contactChanged` and the group list and next-handle counter. -/
@[simp] theorem State.contactChanged_stack (s : State) (b : Bool) :
    (s.contactChanged b).stb.group = s.stb.group ∧ (s.contactChanged b).stb.nextHandle = s.stb.nextHandle := by
  simp only [State.contactChanged]
  (repeat' split) <;> simp

/-- `State.enterStop` and the group list and next-handle counter. -/
@[simp] theorem State.enterStop_stack (s : State) (st : SeqState) (why : Option PauseReason) :
    (s.enterStop st why).stb.group = s.stb.group ∧ (s.enterStop st why).stb.nextHandle = s.stb.nextHandle := by
  simp [State.enterStop]

/-- `State.enterPaused` and the group list and next-handle counter. -/
@[simp] theorem State.enterPaused_stack (s : State) (why : PauseReason) :
    (s.enterPaused why).stb.group = s.stb.group ∧ (s.enterPaused why).stb.nextHandle = s.stb.nextHandle := by
  simp [State.enterPaused]

/-- `State.enterSettling` and the group list and next-handle counter. -/
@[simp] theorem State.enterSettling_stack (s : State) :
    (s.enterSettling).stb.group = s.stb.group ∧ (s.enterSettling).stb.nextHandle = s.stb.nextHandle := by
  simp [State.enterSettling]

/-- `State.arrivalTest` and the group list and next-handle counter. -/
@[simp] theorem State.arrivalTest_stack (s : State) :
    (s.arrivalTest).stb.group = s.stb.group ∧ (s.arrivalTest).stb.nextHandle = s.stb.nextHandle := by
  simp only [State.arrivalTest]
  (repeat' split) <;> simp

/-- `State.enterCreeping` and the group list and next-handle counter. -/
@[simp] theorem State.enterCreeping_stack (s : State) :
    (s.enterCreeping).stb.group = s.stb.group ∧ (s.enterCreeping).stb.nextHandle = s.stb.nextHandle := by
  simp [State.enterCreeping]

/-- `State.commit` and the group list and next-handle counter. -/
@[simp] theorem State.commit_stack (s : State) :
    (s.commit).stb.group = s.stb.group ∧ (s.commit).stb.nextHandle = s.stb.nextHandle := by
  simp only [State.commit]
  (repeat' split) <;> simp

/-- `State.approachTest` and the group list and next-handle counter. -/
@[simp] theorem State.approachTest_stack (s : State) :
    (s.approachTest).stb.group = s.stb.group ∧ (s.approachTest).stb.nextHandle = s.stb.nextHandle := by
  simp only [State.approachTest]
  (repeat' split) <;> simp

/-- `State.enterFeeding` and the group list and next-handle counter. -/
@[simp] theorem State.enterFeeding_stack (s : State) :
    (s.enterFeeding).stb.group = s.stb.group ∧ (s.enterFeeding).stb.nextHandle = s.stb.nextHandle := by
  simp [State.enterFeeding]

/-- `State.enterWaiting` and the group list and next-handle counter. -/
@[simp] theorem State.enterWaiting_stack (s : State) :
    (s.enterWaiting).stb.group = s.stb.group ∧ (s.enterWaiting).stb.nextHandle = s.stb.nextHandle := by
  simp only [State.enterWaiting]
  (repeat' split) <;> simp

/-- `State.awaitPlan` and the group list and next-handle counter. -/
@[simp] theorem State.awaitPlan_stack (s : State) :
    (s.awaitPlan).stb.group = s.stb.group ∧ (s.awaitPlan).stb.nextHandle = s.stb.nextHandle := by
  simp only [State.awaitPlan]
  (repeat' split) <;> simp

/-- `State.enterAtTarget` and the group list and next-handle counter. -/
@[simp] theorem State.enterAtTarget_stack (s : State) :
    (s.enterAtTarget).stb.group = s.stb.group ∧ (s.enterAtTarget).stb.nextHandle = s.stb.nextHandle := by
  simp only [State.enterAtTarget]
  (repeat' split) <;> simp

/-- `State.endSawReturn` and the group list and next-handle counter. -/
@[simp] theorem State.endSawReturn_stack (s : State) :
    (s.endSawReturn).stb.group = s.stb.group ∧ (s.endSawReturn).stb.nextHandle = s.stb.nextHandle := by
  simp only [State.endSawReturn]
  (repeat' split) <;> simp

/-- `State.enterSawReturn` and the group list and next-handle counter. -/
@[simp] theorem State.enterSawReturn_stack (s : State) :
    (s.enterSawReturn).stb.group = s.stb.group ∧ (s.enterSawReturn).stb.nextHandle = s.stb.nextHandle := by
  simp only [State.enterSawReturn]
  (repeat' split) <;> simp

/-- `State.completeCut` and the group list and next-handle counter. -/
@[simp] theorem State.completeCut_stack (s : State) :
    (s.completeCut).stb.group = s.stb.group ∧ (s.completeCut).stb.nextHandle = s.stb.nextHandle := by
  simp only [State.completeCut]
  (repeat' split) <;> simp

/-- `State.completeFelling` and the group list and next-handle counter. -/
@[simp] theorem State.completeFelling_stack (s : State) :
    (s.completeFelling).stb.nextHandle = s.stb.nextHandle := by
  simp only [State.completeFelling]
  (repeat' split) <;> simp

/-- `State.abandonFelling` and the group list and next-handle counter. -/
@[simp] theorem State.abandonFelling_stack (s : State) :
    (s.abandonFelling).stb.nextHandle = s.stb.nextHandle := by
  simp only [State.abandonFelling]
  (repeat' split) <;> simp

/-- `State.completionReport` and the group list and next-handle counter. -/
@[simp] theorem State.completionReport_stack (s : State) :
    (s.completionReport).stb.group = s.stb.group ∧ (s.completionReport).stb.nextHandle = s.stb.nextHandle := by
  simp only [State.completionReport]
  (repeat' split) <;> simp

/-- `State.targetTest` and the group list and next-handle counter. -/
@[simp] theorem State.targetTest_stack (s : State) (b : Bool) :
    (s.targetTest b).stb.group = s.stb.group ∧ (s.targetTest b).stb.nextHandle = s.stb.nextHandle := by
  simp only [State.targetTest]
  (repeat' split) <;> simp

/-- `State.sequencerUpdate` and the group list and next-handle counter. -/
@[simp] theorem State.sequencerUpdate_stack (s : State) (b : Bool) :
    (s.sequencerUpdate b).stb.group = s.stb.group ∧ (s.sequencerUpdate b).stb.nextHandle = s.stb.nextHandle := by
  simp [State.sequencerUpdate]

/-- `State.settleExpires` and the group list and next-handle counter. -/
@[simp] theorem State.settleExpires_stack (s : State) :
    (s.settleExpires).stb.group = s.stb.group ∧ (s.settleExpires).stb.nextHandle = s.stb.nextHandle := by
  simp only [State.settleExpires]
  (repeat' split) <;> simp

/-- `State.sawExpires` and the group list and next-handle counter. -/
@[simp] theorem State.sawExpires_stack (s : State) :
    (s.sawExpires).stb.nextHandle = s.stb.nextHandle := by
  simp only [State.sawExpires]
  (repeat' split) <;> simp

/-- `State.homeExpires` and the group list and next-handle counter. -/
@[simp] theorem State.homeExpires_stack (s : State) :
    (s.homeExpires).stb.group = s.stb.group ∧ (s.homeExpires).stb.nextHandle = s.stb.nextHandle := by
  simp [State.homeExpires]

/-- `State.stallExpires` and the group list and next-handle counter. -/
@[simp] theorem State.stallExpires_stack (s : State) :
    (s.stallExpires).stb.group = s.stb.group ∧ (s.stallExpires).stb.nextHandle = s.stb.nextHandle := by
  simp [State.stallExpires]

/-- `State.raiseFeed` and the group list and next-handle counter. -/
@[simp] theorem State.raiseFeed_stack (s : State) (r : FeedRequest) :
    (s.raiseFeed r).stb.group = s.stb.group ∧ (s.raiseFeed r).stb.nextHandle = s.stb.nextHandle := by
  simp only [State.raiseFeed]
  (repeat' split) <;> simp

/-- `State.deliverTrim` and the group list and next-handle counter. -/
@[simp] theorem State.deliverTrim_stack (s : State) (t : TrimRequest) (a : Nat) (m : MeasureReport) :
    (s.deliverTrim t a m).stb.group = s.stb.group ∧ (s.deliverTrim t a m).stb.nextHandle = s.stb.nextHandle := by
  simp only [State.deliverTrim]
  (repeat' split) <;> simp

/-- `State.watchSlot` and the group list and next-handle counter. -/
@[simp] theorem State.watchSlot_stack (s : State) (i : Nat) :
    (s.watchSlot i).stb.group = s.stb.group ∧ (s.watchSlot i).stb.nextHandle = s.stb.nextHandle := by
  simp only [State.watchSlot]
  (repeat' split) <;> simp

/-- `State.watchMembers` and the group list and next-handle counter. -/
@[simp] theorem State.watchMembers_stack (s : State) :
    (s.watchMembers).stb.group = s.stb.group ∧ (s.watchMembers).stb.nextHandle = s.stb.nextHandle := by
  simp only [State.watchMembers]
  exact ⟨foldl_kept (fun t : State => t.stb.group) (by intros; simp) _ _,
    foldl_kept (fun t : State => t.stb.nextHandle) (by intros; simp) _ _⟩

/-- `State.appendSamples` and the group list and next-handle counter. -/
@[simp] theorem State.appendSamples_stack (s : State) (q : FeedRequest) (a : Nat) (m : MeasureReport) :
    (s.appendSamples q a m).stb.group = s.stb.group ∧ (s.appendSamples q a m).stb.nextHandle = s.stb.nextHandle := by
  simp only [State.appendSamples]
  (repeat' split) <;> simp

/-- `State.stemEnd` and the group list and next-handle counter. -/
@[simp] theorem State.stemEnd_stack (s : State) :
    (s.stemEnd).stb.nextHandle = s.stb.nextHandle := by
  simp [State.stemEnd]

/-- `State.deliverFeed` and the group list and next-handle counter. -/
@[simp] theorem State.deliverFeed_stack (s : State) (q : FeedRequest) (a : Nat) (m : MeasureReport) :
    (s.deliverFeed q a m).stb.nextHandle = s.stb.nextHandle := by
  simp only [State.deliverFeed]
  (repeat' split) <;> simp

/-- `State.deliver` and the group list and next-handle counter. -/
@[simp] theorem State.deliver_stack (s : State) (q : RunningSequence) (m : MeasureReport) :
    (s.deliver q m).stb.nextHandle = s.stb.nextHandle := by
  simp only [State.deliver]
  (repeat' split) <;> simp

/-- `State.finishSequence` and the group list and next-handle counter. -/
@[simp] theorem State.finishSequence_stack (s : State) (q : RunningSequence) (r : Readings) :
    (s.finishSequence q r).stb.nextHandle = s.stb.nextHandle := by
  simp [State.finishSequence]

/-- `State.triggerCheck` and the group list and next-handle counter. -/
@[simp] theorem State.triggerCheck_stack (s : State) :
    (s.triggerCheck).stb.group = s.stb.group ∧ (s.triggerCheck).stb.nextHandle = s.stb.nextHandle := by
  simp only [State.triggerCheck]
  (repeat' split) <;> simp

/-- `State.lengthUpdate` and the group list and next-handle counter. -/
@[simp] theorem State.lengthUpdate_stack (s : State) (b : Bool) :
    (s.lengthUpdate b).stb.group = s.stb.group ∧ (s.lengthUpdate b).stb.nextHandle = s.stb.nextHandle := by
  simp only [State.lengthUpdate]
  (repeat' split) <;> simp

/-- `State.updateLength` and the group list and next-handle counter. -/
@[simp] theorem State.updateLength_stack (s : State) :
    (s.updateLength).stb.group = s.stb.group ∧ (s.updateLength).stb.nextHandle = s.stb.nextHandle := by
  simp only [State.updateLength]
  (repeat' split) <;> simp

/-- `State.accountWindow` and the group list and next-handle counter. -/
@[simp] theorem State.accountWindow_stack (s : State) (e : Encoder) (d : Direction) :
    (s.accountWindow e d).stb.group = s.stb.group ∧ (s.accountWindow e d).stb.nextHandle = s.stb.nextHandle := by
  simp only [State.accountWindow]
  (repeat' split) <;> simp

/-- `State.pulse` and the group list and next-handle counter. -/
@[simp] theorem State.pulse_stack (s : State) (e : Encoder) (d : Direction) :
    (s.pulse e d).stb.group = s.stb.group ∧ (s.pulse e d).stb.nextHandle = s.stb.nextHandle := by
  simp only [State.pulse]
  (repeat' split) <;> simp

/-- `State.startMembers` and the group list and next-handle counter. -/
@[simp] theorem State.startMembers_stack (s : State) :
    (s.startMembers).stb.group = s.stb.group ∧ (s.startMembers).stb.nextHandle = s.stb.nextHandle := by
  simp only [State.startMembers]
  exact ⟨foldl_kept (fun t : State => t.stb.group) (by intros; simp) _ _,
    foldl_kept (fun t : State => t.stb.nextHandle) (by intros; simp) _ _⟩

/-- `State.startGroup` and the group list and next-handle counter. -/
@[simp] theorem State.startGroup_stack (s : State) :
    (s.startGroup).stb.group = s.stb.group ∧ (s.startGroup).stb.nextHandle = s.stb.nextHandle := by
  simp [State.startGroup]

/-- `State.stopCut` and the group list and next-handle counter. -/
@[simp] theorem State.stopCut_stack (s : State) :
    (s.stopCut).stb.group = s.stb.group ∧ (s.stopCut).stb.nextHandle = s.stb.nextHandle := by
  simp [State.stopCut]

/-- `State.stopFelling` and the group list and next-handle counter. -/
@[simp] theorem State.stopFelling_stack (s : State) :
    (s.stopFelling).stb.nextHandle = s.stb.nextHandle := by
  simp [State.stopFelling]

/-- `State.dropTop` and the group list and next-handle counter. -/
@[simp] theorem State.dropTop_stack (s : State) :
    (s.dropTop).stb.nextHandle = s.stb.nextHandle := by
  simp only [State.dropTop]
  (repeat' split) <;> simp

/-- `State.release` and the group list and next-handle counter. -/
@[simp] theorem State.release_stack (s : State) :
    (s.release).stb.nextHandle = s.stb.nextHandle := by
  simp only [State.release]
  (repeat' split) <;> simp

/-- `State.haltAsserts` and the group list and next-handle counter. -/
@[simp] theorem State.haltAsserts_stack (s : State) :
    (s.haltAsserts).stb.nextHandle = s.stb.nextHandle := by
  simp only [State.haltAsserts]
  (repeat' split) <;> simp

/-- `State.haltReleases` and the group list and next-handle counter. -/
@[simp] theorem State.haltReleases_stack (s : State) :
    (s.haltReleases).stb.group = s.stb.group ∧ (s.haltReleases).stb.nextHandle = s.stb.nextHandle := by
  simp only [State.haltReleases]
  (repeat' split) <;> simp

/-- `State.sawEndAsserts` and the group list and next-handle counter. -/
@[simp] theorem State.sawEndAsserts_stack (s : State) :
    (s.sawEndAsserts).stb.nextHandle = s.stb.nextHandle := by
  simp only [State.sawEndAsserts]
  (repeat' split) <;> simp

/-- `State.sawHomeAsserts` and the group list and next-handle counter. -/
@[simp] theorem State.sawHomeAsserts_stack (s : State) :
    (s.sawHomeAsserts).stb.group = s.stb.group ∧ (s.sawHomeAsserts).stb.nextHandle = s.stb.nextHandle := by
  simp only [State.sawHomeAsserts]
  (repeat' split) <;> simp

/-- `State.timerAtChange` and the group list and next-handle counter. -/
@[simp] theorem State.timerAtChange_stack (s : State) (n : Nat) :
    (s.timerAtChange n).stb.nextHandle = s.stb.nextHandle := by
  simp only [State.timerAtChange]
  (repeat' split) <;> simp

/-- `State.storeParameter` and the group list and next-handle counter. -/
@[simp] theorem State.storeParameter_stack (s : State) (n v : Nat) :
    (s.storeParameter n v).stb.nextHandle = s.stb.nextHandle := by
  simp only [State.storeParameter]
  (repeat' split) <;> simp

/-- `State.clearStems` and the group list and next-handle counter. -/
@[simp] theorem State.clearStems_stack (s : State) :
    (s.clearStems).stb.nextHandle = s.stb.nextHandle := by
  simp only [State.clearStems]
  (repeat' split) <;> simp

end Sys2Proof.Machine
end

