-- ==== Sys2Proof/Laws/Service.lean ====
section
/-! SUPPORT. What the Head Bus Port's operations can do, said once: an offered notice, an offered request, service and the
transmitter's choice. -/

namespace Sys2Proof.Machine

open Sys2Proof

/-- The codes and lengths of the catalogue, as the encoder uses them. -/
theorem catalogueLength_code (r : Request) : catalogueLength r.code = some r.payload.length := by
  cases r <;> simp [Request.code, Request.payload, catalogueLength, EntryImage.bytes, halfBytes]

/-- A notice is appended while there is room, and counted otherwise (R183). -/
theorem State.offerNotice_cases (s : State) (n : Notice) :
    (s.hbp.notices.length < 16 ∧ s.offerNotice n = { s with hbp.notices := s.hbp.notices ++ [n] }) ∨
      (16 ≤ s.hbp.notices.length ∧ s.offerNotice n = { s with hbp.noticesLost := saturate s.hbp.noticesLost }) := by
  simp only [State.offerNotice]
  split <;> simp_all

/-- An offered entry is served at once when nothing is in service and nothing waits (R180, R181, R184). -/
theorem State.offer_idle {s : State} (h : s.busIdle) (e : QueueEntry) :
    s.offer e = (handleEntry e s).1.answered e.code e.tag (handleEntry e s).2 := by
  obtain ⟨⟨node, part, requests, inService, notices, tx, kind, lost, lost'⟩, stb, lnu, lines, dsq, atb, bke, fcs, params,
    pending⟩ := s
  obtain ⟨h1, h2⟩ := h
  simp only at h1 h2
  subst h1 h2
  rfl

/-- The same for a request whose code and payload decode to it. -/
theorem State.submit_idle {s : State} (h : s.busIdle) (tag : Byte) (r : Request)
    (hr : decodeRequest r.code r.payload = .request r) :
    s.submit tag r = (handleRequest tag r s).1.answered r.code tag (handleRequest tag r s).2 := by
  rw [State.submit, State.offer_idle h]
  simp [handleEntry, hr, QueueEntry.code, QueueEntry.tag]

/-- A busy transmitter keeps its message (R184). -/
theorem State.transmit_busy {s : State} (h : s.hbp.transmitter.isSome) : s.transmit = s := by
  obtain ⟨t, ht⟩ := Option.isSome_iff_exists.mp h
  simp [State.transmit, ht]

/-- Nothing is taken into service while a request is in service (R181). -/
theorem State.serve_busy {s : State} (h : s.hbp.inService.isSome) : s.serve = s := by
  obtain ⟨t, ht⟩ := Option.isSome_iff_exists.mp h
  simp [State.serve, ht]

/-- With the bus settled, service and the transmitter find nothing to do. -/
theorem State.goOn_settled {s : State} (h : s.busSettled) : s.goOn = s := by
  obtain ⟨h1, h2⟩ := h
  have hs : s.serve = s := by
    cases hi : s.hbp.inService with
    | some r => exact State.serve_busy (by simp [hi])
    | none => simp [State.serve, hi, h1 hi]
  cases ht : s.hbp.transmitter with
  | some t => rw [State.goOn, hs, State.transmit_busy (by simp [ht])]
  | none =>
    obtain ⟨h3, h4⟩ := h2 ht
    rw [State.goOn, hs]
    simp [State.transmit, ht, h3, h4]

end Sys2Proof.Machine
end

