-- ==== Sys2Proof/Laws/State.lean ====
section
/-! SUPPORT. One lemma per field per record update, each true by rfl: what a stem record, the sequencer's items and the small
state updates hold afterwards. The frame of an operation over the whole state stands in Laws/Frames.lean. -/

namespace Sys2Proof.Machine

open Sys2Proof

/-! ### The plan and its value (R14) -/

@[simp] theorem StemRecord.setPlan_handle (r : StemRecord) (p : List PlanPiece) : (r.setPlan p).handle = r.handle := rfl
@[simp] theorem StemRecord.setPlan_state (r : StemRecord) (p : List PlanPiece) : (r.setPlan p).state = r.state := rfl
@[simp] theorem StemRecord.setPlan_endReason (r : StemRecord) (p : List PlanPiece) :
    (r.setPlan p).endReason = r.endReason := rfl
@[simp] theorem StemRecord.setPlan_species (r : StemRecord) (p : List PlanPiece) : (r.setPlan p).species = r.species := rfl
@[simp] theorem StemRecord.setPlan_fellingOrder (r : StemRecord) (p : List PlanPiece) :
    (r.setPlan p).fellingOrder = r.fellingOrder := rfl
@[simp] theorem StemRecord.setPlan_role (r : StemRecord) (p : List PlanPiece) : (r.setPlan p).role = r.role := rfl
@[simp] theorem StemRecord.setPlan_butt (r : StemRecord) (p : List PlanPiece) : (r.setPlan p).butt = r.butt := rfl
@[simp] theorem StemRecord.setPlan_profile (r : StemRecord) (p : List PlanPiece) : (r.setPlan p).profile = r.profile := rfl
@[simp] theorem StemRecord.setPlan_profileStep (r : StemRecord) (p : List PlanPiece) :
    (r.setPlan p).profileStep = r.profileStep := rfl
@[simp] theorem StemRecord.setPlan_plan (r : StemRecord) (p : List PlanPiece) : (r.setPlan p).plan = p := rfl
@[simp] theorem StemRecord.setPlan_pendingPlan (r : StemRecord) (p : List PlanPiece) :
    (r.setPlan p).pendingPlan = r.pendingPlan := rfl
@[simp] theorem StemRecord.setPlan_pieces (r : StemRecord) (p : List PlanPiece) : (r.setPlan p).pieces = r.pieces := rfl
@[simp] theorem StemRecord.setPlan_override (r : StemRecord) (p : List PlanPiece) :
    (r.setPlan p).override = r.override := rfl
@[simp] theorem StemRecord.setPlan_frozen (r : StemRecord) (p : List PlanPiece) : (r.setPlan p).frozen = r.frozen := rfl
@[simp] theorem StemRecord.setPlan_updateMode (r : StemRecord) (p : List PlanPiece) :
    (r.setPlan p).updateMode = r.updateMode := rfl
@[simp] theorem StemRecord.setPlan_topWatch (r : StemRecord) (p : List PlanPiece) :
    (r.setPlan p).topWatch = r.topWatch := rfl
@[simp] theorem StemRecord.setPlan_missedSamples (r : StemRecord) (p : List PlanPiece) :
    (r.setPlan p).missedSamples = r.missedSamples := rfl
@[simp] theorem StemRecord.setPlan_disputedWindows (r : StemRecord) (p : List PlanPiece) :
    (r.setPlan p).disputedWindows = r.disputedWindows := rfl
@[simp] theorem StemRecord.setPlan_lengthSummary (r : StemRecord) (p : List PlanPiece) :
    (r.setPlan p).lengthSummary = r.lengthSummary := rfl
@[simp] theorem StemRecord.setPlan_furthest (r : StemRecord) (p : List PlanPiece) :
    (r.setPlan p).furthest = r.furthest := rfl
@[simp] theorem StemRecord.setPlan_planValue (r : StemRecord) (p : List PlanPiece) :
    (r.setPlan p).planValue = (p.map fun x => x.value).sum := rfl
@[simp] theorem StemRecord.setPlan_lastPass (r : StemRecord) (p : List PlanPiece) :
    (r.setPlan p).lastPass = r.lastPass := rfl

/-! ### An installed result (R131) -/

@[simp] theorem StemRecord.installed_handle (r : StemRecord) (x : PassResult) : (r.installed x).handle = r.handle := rfl
@[simp] theorem StemRecord.installed_state (r : StemRecord) (x : PassResult) : (r.installed x).state = r.state := rfl
@[simp] theorem StemRecord.installed_endReason (r : StemRecord) (x : PassResult) :
    (r.installed x).endReason = r.endReason := rfl
@[simp] theorem StemRecord.installed_species (r : StemRecord) (x : PassResult) : (r.installed x).species = r.species := rfl
@[simp] theorem StemRecord.installed_fellingOrder (r : StemRecord) (x : PassResult) :
    (r.installed x).fellingOrder = r.fellingOrder := rfl
@[simp] theorem StemRecord.installed_role (r : StemRecord) (x : PassResult) : (r.installed x).role = r.role := rfl
@[simp] theorem StemRecord.installed_butt (r : StemRecord) (x : PassResult) : (r.installed x).butt = r.butt := rfl
@[simp] theorem StemRecord.installed_profile (r : StemRecord) (x : PassResult) : (r.installed x).profile = r.profile := rfl
@[simp] theorem StemRecord.installed_profileStep (r : StemRecord) (x : PassResult) :
    (r.installed x).profileStep = r.profileStep := rfl
@[simp] theorem StemRecord.installed_plan (r : StemRecord) (x : PassResult) :
    (r.installed x).plan = r.committed?.toList ++ x.pieces := rfl
@[simp] theorem StemRecord.installed_pendingPlan (r : StemRecord) (x : PassResult) :
    (r.installed x).pendingPlan = none := rfl
@[simp] theorem StemRecord.installed_pieces (r : StemRecord) (x : PassResult) : (r.installed x).pieces = r.pieces := rfl
@[simp] theorem StemRecord.installed_override (r : StemRecord) (x : PassResult) :
    (r.installed x).override = r.override := rfl
@[simp] theorem StemRecord.installed_frozen (r : StemRecord) (x : PassResult) : (r.installed x).frozen = r.frozen := rfl
@[simp] theorem StemRecord.installed_updateMode (r : StemRecord) (x : PassResult) :
    (r.installed x).updateMode = r.updateMode := rfl
@[simp] theorem StemRecord.installed_topWatch (r : StemRecord) (x : PassResult) :
    (r.installed x).topWatch = r.topWatch := rfl
@[simp] theorem StemRecord.installed_missedSamples (r : StemRecord) (x : PassResult) :
    (r.installed x).missedSamples = r.missedSamples := rfl
@[simp] theorem StemRecord.installed_disputedWindows (r : StemRecord) (x : PassResult) :
    (r.installed x).disputedWindows = r.disputedWindows := rfl
@[simp] theorem StemRecord.installed_lengthSummary (r : StemRecord) (x : PassResult) :
    (r.installed x).lengthSummary = r.lengthSummary := rfl
@[simp] theorem StemRecord.installed_furthest (r : StemRecord) (x : PassResult) :
    (r.installed x).furthest = r.furthest := rfl
@[simp] theorem StemRecord.installed_planValue (r : StemRecord) (x : PassResult) :
    (r.installed x).planValue = ((r.committed?.toList ++ x.pieces).map fun y => y.value).sum := rfl
@[simp] theorem StemRecord.installed_lastPass (r : StemRecord) (x : PassResult) :
    (r.installed x).lastPass = x.passNumber := rfl

/-! ### A butt measurement (R9) -/

@[simp] theorem StemRecord.withButt_handle (r : StemRecord) (n : Nat) (m : MeasureReport) :
    (r.withButt n m).handle = r.handle := rfl
@[simp] theorem StemRecord.withButt_state (r : StemRecord) (n : Nat) (m : MeasureReport) :
    (r.withButt n m).state = r.state := rfl
@[simp] theorem StemRecord.withButt_endReason (r : StemRecord) (n : Nat) (m : MeasureReport) :
    (r.withButt n m).endReason = r.endReason := rfl
@[simp] theorem StemRecord.withButt_species (r : StemRecord) (n : Nat) (m : MeasureReport) :
    (r.withButt n m).species = r.species := rfl
@[simp] theorem StemRecord.withButt_fellingOrder (r : StemRecord) (n : Nat) (m : MeasureReport) :
    (r.withButt n m).fellingOrder = r.fellingOrder := rfl
@[simp] theorem StemRecord.withButt_role (r : StemRecord) (n : Nat) (m : MeasureReport) :
    (r.withButt n m).role = r.role := rfl
@[simp] theorem StemRecord.withButt_butt (r : StemRecord) (n : Nat) (m : MeasureReport) :
    (r.withButt n m).butt = some m.result := rfl
@[simp] theorem StemRecord.withButt_profile (r : StemRecord) (n : Nat) (m : MeasureReport) :
    (r.withButt n m).profile = r.profile ++ [⟨0, m.result, none, n, .ofTrim m.disagree m.armLimit⟩] := rfl
@[simp] theorem StemRecord.withButt_profileStep (r : StemRecord) (n : Nat) (m : MeasureReport) :
    (r.withButt n m).profileStep = r.profileStep := rfl
@[simp] theorem StemRecord.withButt_plan (r : StemRecord) (n : Nat) (m : MeasureReport) :
    (r.withButt n m).plan = r.plan := rfl
@[simp] theorem StemRecord.withButt_pendingPlan (r : StemRecord) (n : Nat) (m : MeasureReport) :
    (r.withButt n m).pendingPlan = r.pendingPlan := rfl
@[simp] theorem StemRecord.withButt_pieces (r : StemRecord) (n : Nat) (m : MeasureReport) :
    (r.withButt n m).pieces = r.pieces := rfl
@[simp] theorem StemRecord.withButt_override (r : StemRecord) (n : Nat) (m : MeasureReport) :
    (r.withButt n m).override = r.override := rfl
@[simp] theorem StemRecord.withButt_frozen (r : StemRecord) (n : Nat) (m : MeasureReport) :
    (r.withButt n m).frozen = r.frozen := rfl
@[simp] theorem StemRecord.withButt_updateMode (r : StemRecord) (n : Nat) (m : MeasureReport) :
    (r.withButt n m).updateMode = r.updateMode := rfl
@[simp] theorem StemRecord.withButt_topWatch (r : StemRecord) (n : Nat) (m : MeasureReport) :
    (r.withButt n m).topWatch = r.topWatch := rfl
@[simp] theorem StemRecord.withButt_missedSamples (r : StemRecord) (n : Nat) (m : MeasureReport) :
    (r.withButt n m).missedSamples = r.missedSamples := rfl
@[simp] theorem StemRecord.withButt_disputedWindows (r : StemRecord) (n : Nat) (m : MeasureReport) :
    (r.withButt n m).disputedWindows = r.disputedWindows := rfl
@[simp] theorem StemRecord.withButt_lengthSummary (r : StemRecord) (n : Nat) (m : MeasureReport) :
    (r.withButt n m).lengthSummary = r.lengthSummary := rfl
@[simp] theorem StemRecord.withButt_furthest (r : StemRecord) (n : Nat) (m : MeasureReport) :
    (r.withButt n m).furthest = r.furthest := rfl
@[simp] theorem StemRecord.withButt_planValue (r : StemRecord) (n : Nat) (m : MeasureReport) :
    (r.withButt n m).planValue = r.planValue := rfl
@[simp] theorem StemRecord.withButt_lastPass (r : StemRecord) (n : Nat) (m : MeasureReport) :
    (r.withButt n m).lastPass = r.lastPass := rfl

/-! ### Thinning (R11) -/

@[simp] theorem StemRecord.thinned_handle (r : StemRecord) : (r.thinned).handle = r.handle := rfl
@[simp] theorem StemRecord.thinned_state (r : StemRecord) : (r.thinned).state = r.state := rfl
@[simp] theorem StemRecord.thinned_endReason (r : StemRecord) : (r.thinned).endReason = r.endReason := rfl
@[simp] theorem StemRecord.thinned_species (r : StemRecord) : (r.thinned).species = r.species := rfl
@[simp] theorem StemRecord.thinned_fellingOrder (r : StemRecord) : (r.thinned).fellingOrder = r.fellingOrder := rfl
@[simp] theorem StemRecord.thinned_role (r : StemRecord) : (r.thinned).role = r.role := rfl
@[simp] theorem StemRecord.thinned_butt (r : StemRecord) : (r.thinned).butt = r.butt := rfl
@[simp] theorem StemRecord.thinned_profile (r : StemRecord) : (r.thinned).profile = evenSamples r.profile := rfl
@[simp] theorem StemRecord.thinned_profileStep (r : StemRecord) :
    (r.thinned).profileStep = min 1600 (2 * r.profileStep) := rfl
@[simp] theorem StemRecord.thinned_plan (r : StemRecord) : (r.thinned).plan = r.plan := rfl
@[simp] theorem StemRecord.thinned_pendingPlan (r : StemRecord) : (r.thinned).pendingPlan = r.pendingPlan := rfl
@[simp] theorem StemRecord.thinned_pieces (r : StemRecord) : (r.thinned).pieces = r.pieces := rfl
@[simp] theorem StemRecord.thinned_override (r : StemRecord) : (r.thinned).override = r.override := rfl
@[simp] theorem StemRecord.thinned_frozen (r : StemRecord) : (r.thinned).frozen = r.frozen := rfl
@[simp] theorem StemRecord.thinned_updateMode (r : StemRecord) : (r.thinned).updateMode = r.updateMode := rfl
@[simp] theorem StemRecord.thinned_topWatch (r : StemRecord) : (r.thinned).topWatch = r.topWatch := rfl
@[simp] theorem StemRecord.thinned_missedSamples (r : StemRecord) : (r.thinned).missedSamples = r.missedSamples := rfl
@[simp] theorem StemRecord.thinned_disputedWindows (r : StemRecord) : (r.thinned).disputedWindows = r.disputedWindows := rfl
@[simp] theorem StemRecord.thinned_lengthSummary (r : StemRecord) : (r.thinned).lengthSummary = r.lengthSummary := rfl
@[simp] theorem StemRecord.thinned_furthest (r : StemRecord) : (r.thinned).furthest = r.furthest := rfl
@[simp] theorem StemRecord.thinned_planValue (r : StemRecord) : (r.thinned).planValue = r.planValue := rfl
@[simp] theorem StemRecord.thinned_lastPass (r : StemRecord) : (r.thinned).lastPass = r.lastPass := rfl

/-! ### A record closed or abandoned (R4) -/

@[simp] theorem StemRecord.ended_handle (r : StemRecord) (st : StemState) (why : EndReason) :
    (r.ended st why).handle = r.handle := rfl
@[simp] theorem StemRecord.ended_state (r : StemRecord) (st : StemState) (why : EndReason) :
    (r.ended st why).state = st := rfl
@[simp] theorem StemRecord.ended_endReason (r : StemRecord) (st : StemState) (why : EndReason) :
    (r.ended st why).endReason = some why := rfl
@[simp] theorem StemRecord.ended_species (r : StemRecord) (st : StemState) (why : EndReason) :
    (r.ended st why).species = r.species := rfl
@[simp] theorem StemRecord.ended_fellingOrder (r : StemRecord) (st : StemState) (why : EndReason) :
    (r.ended st why).fellingOrder = r.fellingOrder := rfl
@[simp] theorem StemRecord.ended_role (r : StemRecord) (st : StemState) (why : EndReason) :
    (r.ended st why).role = none := rfl
@[simp] theorem StemRecord.ended_butt (r : StemRecord) (st : StemState) (why : EndReason) :
    (r.ended st why).butt = r.butt := rfl
@[simp] theorem StemRecord.ended_profile (r : StemRecord) (st : StemState) (why : EndReason) :
    (r.ended st why).profile = r.profile := rfl
@[simp] theorem StemRecord.ended_profileStep (r : StemRecord) (st : StemState) (why : EndReason) :
    (r.ended st why).profileStep = r.profileStep := rfl
@[simp] theorem StemRecord.ended_plan (r : StemRecord) (st : StemState) (why : EndReason) :
    (r.ended st why).plan = [] := rfl
@[simp] theorem StemRecord.ended_pendingPlan (r : StemRecord) (st : StemState) (why : EndReason) :
    (r.ended st why).pendingPlan = none := rfl
@[simp] theorem StemRecord.ended_pieces (r : StemRecord) (st : StemState) (why : EndReason) :
    (r.ended st why).pieces = r.pieces := rfl
@[simp] theorem StemRecord.ended_override (r : StemRecord) (st : StemState) (why : EndReason) :
    (r.ended st why).override = r.override := rfl
@[simp] theorem StemRecord.ended_frozen (r : StemRecord) (st : StemState) (why : EndReason) :
    (r.ended st why).frozen = r.frozen := rfl
@[simp] theorem StemRecord.ended_updateMode (r : StemRecord) (st : StemState) (why : EndReason) :
    (r.ended st why).updateMode = r.updateMode := rfl
@[simp] theorem StemRecord.ended_topWatch (r : StemRecord) (st : StemState) (why : EndReason) :
    (r.ended st why).topWatch = r.topWatch := rfl
@[simp] theorem StemRecord.ended_missedSamples (r : StemRecord) (st : StemState) (why : EndReason) :
    (r.ended st why).missedSamples = r.missedSamples := rfl
@[simp] theorem StemRecord.ended_disputedWindows (r : StemRecord) (st : StemState) (why : EndReason) :
    (r.ended st why).disputedWindows = r.disputedWindows := rfl
@[simp] theorem StemRecord.ended_lengthSummary (r : StemRecord) (st : StemState) (why : EndReason) :
    (r.ended st why).lengthSummary = r.lengthSummary := rfl
@[simp] theorem StemRecord.ended_furthest (r : StemRecord) (st : StemState) (why : EndReason) :
    (r.ended st why).furthest = r.furthest := rfl
@[simp] theorem StemRecord.ended_planValue (r : StemRecord) (st : StemState) (why : EndReason) :
    (r.ended st why).planValue = 0 := rfl
@[simp] theorem StemRecord.ended_lastPass (r : StemRecord) (st : StemState) (why : EndReason) :
    (r.ended st why).lastPass = r.lastPass := rfl

/-! ### A sample appended (R10) -/

@[simp] theorem StemRecord.append_handle (r : StemRecord) (p : Sample) : (StemRecord.append p r).handle = r.handle := rfl
@[simp] theorem StemRecord.append_state (r : StemRecord) (p : Sample) : (StemRecord.append p r).state = r.state := rfl
@[simp] theorem StemRecord.append_endReason (r : StemRecord) (p : Sample) : (StemRecord.append p r).endReason = r.endReason := rfl
@[simp] theorem StemRecord.append_species (r : StemRecord) (p : Sample) : (StemRecord.append p r).species = r.species := rfl
@[simp] theorem StemRecord.append_fellingOrder (r : StemRecord) (p : Sample) : (StemRecord.append p r).fellingOrder = r.fellingOrder := rfl
@[simp] theorem StemRecord.append_role (r : StemRecord) (p : Sample) : (StemRecord.append p r).role = r.role := rfl
@[simp] theorem StemRecord.append_butt (r : StemRecord) (p : Sample) : (StemRecord.append p r).butt = r.butt := rfl
@[simp] theorem StemRecord.append_profile (r : StemRecord) (p : Sample) : (StemRecord.append p r).profile = r.profile ++ [p] := rfl
@[simp] theorem StemRecord.append_profileStep (r : StemRecord) (p : Sample) : (StemRecord.append p r).profileStep = r.profileStep := rfl
@[simp] theorem StemRecord.append_plan (r : StemRecord) (p : Sample) : (StemRecord.append p r).plan = r.plan := rfl
@[simp] theorem StemRecord.append_pendingPlan (r : StemRecord) (p : Sample) : (StemRecord.append p r).pendingPlan = r.pendingPlan := rfl
@[simp] theorem StemRecord.append_pieces (r : StemRecord) (p : Sample) : (StemRecord.append p r).pieces = r.pieces := rfl
@[simp] theorem StemRecord.append_override (r : StemRecord) (p : Sample) : (StemRecord.append p r).override = r.override := rfl
@[simp] theorem StemRecord.append_frozen (r : StemRecord) (p : Sample) : (StemRecord.append p r).frozen = r.frozen := rfl
@[simp] theorem StemRecord.append_updateMode (r : StemRecord) (p : Sample) : (StemRecord.append p r).updateMode = r.updateMode := rfl
@[simp] theorem StemRecord.append_topWatch (r : StemRecord) (p : Sample) : (StemRecord.append p r).topWatch = r.topWatch := rfl
@[simp] theorem StemRecord.append_missedSamples (r : StemRecord) (p : Sample) : (StemRecord.append p r).missedSamples = r.missedSamples := rfl
@[simp] theorem StemRecord.append_disputedWindows (r : StemRecord) (p : Sample) : (StemRecord.append p r).disputedWindows = r.disputedWindows := rfl
@[simp] theorem StemRecord.append_lengthSummary (r : StemRecord) (p : Sample) : (StemRecord.append p r).lengthSummary = r.lengthSummary := rfl
@[simp] theorem StemRecord.append_furthest (r : StemRecord) (p : Sample) : (StemRecord.append p r).furthest = r.furthest := rfl
@[simp] theorem StemRecord.append_planValue (r : StemRecord) (p : Sample) : (StemRecord.append p r).planValue = r.planValue := rfl
@[simp] theorem StemRecord.append_lastPass (r : StemRecord) (p : Sample) : (StemRecord.append p r).lastPass = r.lastPass := rfl

/-! ### The sequencer at rest in a state (R138, R141) -/

@[simp] theorem Sequencer.resting_state (f : Sequencer) (st : SeqState) : (f.resting st).state = st := rfl
@[simp] theorem Sequencer.resting_pause (f : Sequencer) (st : SeqState) : (f.resting st).pause = none := rfl
@[simp] theorem Sequencer.resting_reversals (f : Sequencer) (st : SeqState) : (f.resting st).reversals = f.reversals := rfl
@[simp] theorem Sequencer.resting_overshoot (f : Sequencer) (st : SeqState) : (f.resting st).overshoot = f.overshoot := rfl
@[simp] theorem Sequencer.resting_cutKind (f : Sequencer) (st : SeqState) : (f.resting st).cutKind = none := rfl
@[simp] theorem Sequencer.resting_stopped (f : Sequencer) (st : SeqState) : (f.resting st).stopped = f.stopped := rfl
@[simp] theorem Sequencer.resting_settleTimer (f : Sequencer) (st : SeqState) : (f.resting st).settleTimer = none := rfl
@[simp] theorem Sequencer.resting_sawTimer (f : Sequencer) (st : SeqState) : (f.resting st).sawTimer = none := rfl
@[simp] theorem Sequencer.resting_homeTimer (f : Sequencer) (st : SeqState) : (f.resting st).homeTimer = none := rfl
@[simp] theorem Sequencer.resting_stallTimer (f : Sequencer) (st : SeqState) : (f.resting st).stallTimer = none := rfl
@[simp] theorem Sequencer.resting_stallReference (f : Sequencer) (st : SeqState) :
    (f.resting st).stallReference = f.stallReference := rfl

/-! ### The sequencer paused -/

@[simp] theorem Sequencer.pausedBy_state (f : Sequencer) (why : PauseReason) : (f.pausedBy why).state = .paused := rfl
@[simp] theorem Sequencer.pausedBy_pause (f : Sequencer) (why : PauseReason) : (f.pausedBy why).pause = some why := rfl
@[simp] theorem Sequencer.pausedBy_reversals (f : Sequencer) (why : PauseReason) :
    (f.pausedBy why).reversals = f.reversals := rfl
@[simp] theorem Sequencer.pausedBy_overshoot (f : Sequencer) (why : PauseReason) :
    (f.pausedBy why).overshoot = f.overshoot := rfl
@[simp] theorem Sequencer.pausedBy_cutKind (f : Sequencer) (why : PauseReason) : (f.pausedBy why).cutKind = none := rfl
@[simp] theorem Sequencer.pausedBy_stopped (f : Sequencer) (why : PauseReason) : (f.pausedBy why).stopped = f.stopped := rfl
@[simp] theorem Sequencer.pausedBy_settleTimer (f : Sequencer) (why : PauseReason) :
    (f.pausedBy why).settleTimer = none := rfl
@[simp] theorem Sequencer.pausedBy_sawTimer (f : Sequencer) (why : PauseReason) : (f.pausedBy why).sawTimer = none := rfl
@[simp] theorem Sequencer.pausedBy_homeTimer (f : Sequencer) (why : PauseReason) : (f.pausedBy why).homeTimer = none := rfl
@[simp] theorem Sequencer.pausedBy_stallTimer (f : Sequencer) (why : PauseReason) :
    (f.pausedBy why).stallTimer = none := rfl
@[simp] theorem Sequencer.pausedBy_stallReference (f : Sequencer) (why : PauseReason) :
    (f.pausedBy why).stallReference = f.stallReference := rfl

/-! ### The sequencer feeding -/

@[simp] theorem Sequencer.feedingFrom_state (f : Sequencer) (st : SeqState) (l : Int) :
    (f.feedingFrom st l).state = st := rfl
@[simp] theorem Sequencer.feedingFrom_pause (f : Sequencer) (st : SeqState) (l : Int) :
    (f.feedingFrom st l).pause = none := rfl
@[simp] theorem Sequencer.feedingFrom_reversals (f : Sequencer) (st : SeqState) (l : Int) :
    (f.feedingFrom st l).reversals = f.reversals := rfl
@[simp] theorem Sequencer.feedingFrom_overshoot (f : Sequencer) (st : SeqState) (l : Int) :
    (f.feedingFrom st l).overshoot = f.overshoot := rfl
@[simp] theorem Sequencer.feedingFrom_cutKind (f : Sequencer) (st : SeqState) (l : Int) :
    (f.feedingFrom st l).cutKind = none := rfl
@[simp] theorem Sequencer.feedingFrom_stopped (f : Sequencer) (st : SeqState) (l : Int) :
    (f.feedingFrom st l).stopped = f.stopped := rfl
@[simp] theorem Sequencer.feedingFrom_settleTimer (f : Sequencer) (st : SeqState) (l : Int) :
    (f.feedingFrom st l).settleTimer = none := rfl
@[simp] theorem Sequencer.feedingFrom_sawTimer (f : Sequencer) (st : SeqState) (l : Int) :
    (f.feedingFrom st l).sawTimer = none := rfl
@[simp] theorem Sequencer.feedingFrom_homeTimer (f : Sequencer) (st : SeqState) (l : Int) :
    (f.feedingFrom st l).homeTimer = none := rfl
@[simp] theorem Sequencer.feedingFrom_stallTimer (f : Sequencer) (st : SeqState) (l : Int) :
    (f.feedingFrom st l).stallTimer = some 0 := rfl
@[simp] theorem Sequencer.feedingFrom_stallReference (f : Sequencer) (st : SeqState) (l : Int) :
    (f.feedingFrom st l).stallReference = l := rfl

/-! ### The sequencer settling -/

@[simp] theorem Sequencer.settles_state (f : Sequencer) : (f.settles).state = .settling := rfl
@[simp] theorem Sequencer.settles_pause (f : Sequencer) : (f.settles).pause = none := rfl
@[simp] theorem Sequencer.settles_reversals (f : Sequencer) : (f.settles).reversals = f.reversals := rfl
@[simp] theorem Sequencer.settles_overshoot (f : Sequencer) : (f.settles).overshoot = f.overshoot := rfl
@[simp] theorem Sequencer.settles_cutKind (f : Sequencer) : (f.settles).cutKind = none := rfl
@[simp] theorem Sequencer.settles_stopped (f : Sequencer) : (f.settles).stopped = f.stopped := rfl
@[simp] theorem Sequencer.settles_settleTimer (f : Sequencer) : (f.settles).settleTimer = some 0 := rfl
@[simp] theorem Sequencer.settles_sawTimer (f : Sequencer) : (f.settles).sawTimer = none := rfl
@[simp] theorem Sequencer.settles_homeTimer (f : Sequencer) : (f.settles).homeTimer = none := rfl
@[simp] theorem Sequencer.settles_stallTimer (f : Sequencer) : (f.settles).stallTimer = none := rfl
@[simp] theorem Sequencer.settles_stallReference (f : Sequencer) : (f.settles).stallReference = f.stallReference := rfl

/-! ### The sequencer cutting -/

@[simp] theorem Sequencer.cuts_state (f : Sequencer) (k : CutKind) : (f.cuts k).state = .cutting := rfl
@[simp] theorem Sequencer.cuts_pause (f : Sequencer) (k : CutKind) : (f.cuts k).pause = none := rfl
@[simp] theorem Sequencer.cuts_reversals (f : Sequencer) (k : CutKind) : (f.cuts k).reversals = f.reversals := rfl
@[simp] theorem Sequencer.cuts_overshoot (f : Sequencer) (k : CutKind) : (f.cuts k).overshoot = f.overshoot := rfl
@[simp] theorem Sequencer.cuts_cutKind (f : Sequencer) (k : CutKind) : (f.cuts k).cutKind = some k := rfl
@[simp] theorem Sequencer.cuts_stopped (f : Sequencer) (k : CutKind) : (f.cuts k).stopped = false := rfl
@[simp] theorem Sequencer.cuts_settleTimer (f : Sequencer) (k : CutKind) : (f.cuts k).settleTimer = none := rfl
@[simp] theorem Sequencer.cuts_sawTimer (f : Sequencer) (k : CutKind) : (f.cuts k).sawTimer = some 0 := rfl
@[simp] theorem Sequencer.cuts_homeTimer (f : Sequencer) (k : CutKind) : (f.cuts k).homeTimer = none := rfl
@[simp] theorem Sequencer.cuts_stallTimer (f : Sequencer) (k : CutKind) : (f.cuts k).stallTimer = none := rfl
@[simp] theorem Sequencer.cuts_stallReference (f : Sequencer) (k : CutKind) :
    (f.cuts k).stallReference = f.stallReference := rfl

/-! ### The sequencer returning the saw -/

@[simp] theorem Sequencer.returns_state (f : Sequencer) : (f.returns).state = .sawReturn := rfl
@[simp] theorem Sequencer.returns_pause (f : Sequencer) : (f.returns).pause = none := rfl
@[simp] theorem Sequencer.returns_reversals (f : Sequencer) : (f.returns).reversals = f.reversals := rfl
@[simp] theorem Sequencer.returns_overshoot (f : Sequencer) : (f.returns).overshoot = f.overshoot := rfl
@[simp] theorem Sequencer.returns_cutKind (f : Sequencer) : (f.returns).cutKind = f.cutKind := rfl
@[simp] theorem Sequencer.returns_stopped (f : Sequencer) : (f.returns).stopped = f.stopped := rfl
@[simp] theorem Sequencer.returns_settleTimer (f : Sequencer) : (f.returns).settleTimer = none := rfl
@[simp] theorem Sequencer.returns_sawTimer (f : Sequencer) : (f.returns).sawTimer = none := rfl
@[simp] theorem Sequencer.returns_homeTimer (f : Sequencer) : (f.returns).homeTimer = some 0 := rfl
@[simp] theorem Sequencer.returns_stallTimer (f : Sequencer) : (f.returns).stallTimer = none := rfl
@[simp] theorem Sequencer.returns_stallReference (f : Sequencer) : (f.returns).stallReference = f.stallReference := rfl

/-! ### Small updates of the state -/

@[simp] theorem State.setSlot_nextHandle (s : State) (i : Nat) (r : Option StemRecord) :
    (s.setSlot i r).stb.nextHandle = s.stb.nextHandle := rfl
@[simp] theorem State.setSlot_group (s : State) (i : Nat) (r : Option StemRecord) :
    (s.setSlot i r).stb.group = s.stb.group := rfl
@[simp] theorem State.setSlot_slots (s : State) (i : Nat) (r : Option StemRecord) :
    (s.setSlot i r).stb.slots = s.stb.slots.setIfInBounds i r := rfl
@[simp] theorem State.setEdit_edit (s : State) (n : Nat) (e : Option Assortment) :
    (s.setEdit n e).atb.edit = s.atb.edit.setIfInBounds n e := rfl
@[simp] theorem State.setEdit_active (s : State) (n : Nat) (e : Option Assortment) :
    (s.setEdit n e).atb.active = s.atb.active := rfl
@[simp] theorem State.setEdit_lockSize (s : State) (n : Nat) (e : Option Assortment) :
    (s.setEdit n e).atb.lockSize = s.atb.lockSize := rfl
@[simp] theorem State.setEdit_swapPending (s : State) (n : Nat) (e : Option Assortment) :
    (s.setEdit n e).atb.swapPending = s.atb.swapPending := rfl
@[simp] theorem State.setEdit_taper (s : State) (n : Nat) (e : Option Assortment) :
    (s.setEdit n e).atb.taper = s.atb.taper := rfl
@[simp] theorem State.startPass_inFlight (s : State) (r : StemRecord) :
    (s.startPass r).bke.inFlight = some ⟨s.bke.counter, r.handle, s.snapshot r, false⟩ := rfl
@[simp] theorem State.startPass_flag (s : State) (r : StemRecord) : (s.startPass r).bke.flag = false := rfl
@[simp] theorem State.startPass_counter (s : State) (r : StemRecord) :
    (s.startPass r).bke.counter = (s.bke.counter + 1) % 256 := rfl
@[simp] theorem State.startPass_lastOutcome (s : State) (r : StemRecord) :
    (s.startPass r).bke.lastOutcome = s.bke.lastOutcome := rfl
@[simp] theorem State.startPass_lastOutcomePass (s : State) (r : StemRecord) :
    (s.startPass r).bke.lastOutcomePass = s.bke.lastOutcomePass := rfl
@[simp] theorem State.voidPass_inFlight (s : State) :
    s.voidPass.bke.inFlight = s.bke.inFlight.map fun p => { p with void := true } := rfl
@[simp] theorem State.voidPass_flag (s : State) : s.voidPass.bke.flag = false := rfl
@[simp] theorem State.voidPass_counter (s : State) : s.voidPass.bke.counter = s.bke.counter := rfl
@[simp] theorem State.voidPass_lastOutcome (s : State) : s.voidPass.bke.lastOutcome = s.bke.lastOutcome := rfl
@[simp] theorem State.voidPass_lastOutcomePass (s : State) :
    s.voidPass.bke.lastOutcomePass = s.bke.lastOutcomePass := rfl
@[simp] theorem State.recordOutcome_lastOutcome (s : State) (o : PassOutcome) (n : Nat) :
    (s.recordOutcome o n).bke.lastOutcome = o := rfl
@[simp] theorem State.recordOutcome_lastOutcomePass (s : State) (o : PassOutcome) (n : Nat) :
    (s.recordOutcome o n).bke.lastOutcomePass = n := rfl
@[simp] theorem State.recordOutcome_inFlight (s : State) (o : PassOutcome) (n : Nat) :
    (s.recordOutcome o n).bke.inFlight = s.bke.inFlight := rfl
@[simp] theorem State.recordOutcome_flag (s : State) (o : PassOutcome) (n : Nat) :
    (s.recordOutcome o n).bke.flag = s.bke.flag := rfl
@[simp] theorem State.recordOutcome_counter (s : State) (o : PassOutcome) (n : Nat) :
    (s.recordOutcome o n).bke.counter = s.bke.counter := rfl
@[simp] theorem State.sendAnswer_transmitter (s : State) (r : InService) :
    (s.sendAnswer r).hbp.transmitter = some r.message := rfl
@[simp] theorem State.sendAnswer_lastKind (s : State) (r : InService) : (s.sendAnswer r).hbp.lastKind = .answer := rfl
@[simp] theorem State.sendAnswer_notices (s : State) (r : InService) :
    (s.sendAnswer r).hbp.notices = s.hbp.notices := rfl
@[simp] theorem State.sendAnswer_inService (s : State) (r : InService) :
    (s.sendAnswer r).hbp.inService = s.hbp.inService := rfl
@[simp] theorem State.sendAnswer_requests (s : State) (r : InService) :
    (s.sendAnswer r).hbp.requests = s.hbp.requests := rfl
@[simp] theorem State.sendNotice_transmitter (s : State) (n : Notice) (l : List Notice) :
    (s.sendNotice n l).hbp.transmitter = some n.message := rfl
@[simp] theorem State.sendNotice_lastKind (s : State) (n : Notice) (l : List Notice) :
    (s.sendNotice n l).hbp.lastKind = .notice := rfl
@[simp] theorem State.sendNotice_notices (s : State) (n : Notice) (l : List Notice) :
    (s.sendNotice n l).hbp.notices = l := rfl
@[simp] theorem State.sendNotice_inService (s : State) (n : Notice) (l : List Notice) :
    (s.sendNotice n l).hbp.inService = s.hbp.inService := rfl
@[simp] theorem State.sendNotice_requests (s : State) (n : Notice) (l : List Notice) :
    (s.sendNotice n l).hbp.requests = s.hbp.requests := rfl
@[simp] theorem State.moveTo_state (s : State) (st : SeqState) (p : Option PauseReason) :
    (s.moveTo st p).fcs.state = st := rfl
@[simp] theorem State.moveTo_reversals (s : State) (st : SeqState) (p : Option PauseReason) :
    (s.moveTo st p).fcs.reversals = s.fcs.reversals := rfl
@[simp] theorem State.moveTo_overshoot (s : State) (st : SeqState) (p : Option PauseReason) :
    (s.moveTo st p).fcs.overshoot = s.fcs.overshoot := rfl
@[simp] theorem State.moveTo_stopped (s : State) (st : SeqState) (p : Option PauseReason) :
    (s.moveTo st p).fcs.stopped = s.fcs.stopped := rfl

end Sys2Proof.Machine
end

