-- ==== Sys2Proof/Laws/Records.lean ====
section
/-! SUPPORT. The laws of slots, of members, of the lead and of told notices: what is read back after a slot is set, what
depends on the Stem Table alone, and that notices change nothing but the Head Bus Port. -/

namespace Sys2Proof.Machine

open Sys2Proof

/-! ### Slots -/

/-- Only the eight slots hold records (R1). -/
theorem State.record?_lt {s : State} {k : Nat} {r : StemRecord} (hk : s.record? k = some r) : k < 8 := by
  by_contra hc
  simp [State.record?, Vector.getElem?_eq_none (xs := s.stb.slots) (show 8 ≤ k by omega)] at hk

/-- A slot that is set reads back as set, and every other slot as before. -/
theorem State.record?_setSlot {s : State} {k : Nat} (hk : k < 8) (o : Option StemRecord) (i : Nat) :
    (s.setSlot k o).record? i = if i = k then o else s.record? i := by
  unfold State.record? State.setSlot
  by_cases hi : i = k
  · subst hi
    simp [hk]
  · simp [hi, Ne.symm hi]

/-- The record in a slot depends on the Stem Table alone. -/
theorem State.record?_congr {s t : State} (h : s.stb = t.stb) (i : Nat) : s.record? i = t.record? i := by
  simp only [State.record?, h]

/-- The members of the group depend on the Stem Table alone. -/
theorem State.members_congr {s t : State} (h : s.stb = t.stb) : s.members = t.members := by
  simp only [State.members, State.record?, h]

/-- The state of the group depends on the Stem Table alone. -/
theorem State.groupState_congr {s t : State} (h : s.stb = t.stb) : s.groupState = t.groupState := by
  simp only [State.groupState, State.members_congr h]

/-- The lead depends on the Stem Table alone. -/
theorem State.lead?_congr {s t : State} (h : s.stb = t.stb) : s.lead? = t.lead? := by
  simp only [State.lead?, State.groupState_congr h, State.members_congr h]

/-- The target depends on the Stem Table alone. -/
theorem State.target?_congr {s t : State} (h : s.stb = t.stb) : s.target? = t.target? := by
  simp only [State.target?, State.lead?_congr h]

/-! ### Members and the lead -/

/-- A member of the group is the record that its slot holds. -/
theorem State.mem_members {s : State} {i : Nat} {q : StemRecord} :
    (i, q) ∈ s.members ↔ i ∈ s.stb.group ∧ s.record? i = some q := by
  simp only [State.members, List.mem_filterMap, Option.map_eq_some_iff, Prod.mk.injEq]
  constructor
  · rintro ⟨j, hj, p, hp, rfl, rfl⟩
    exact ⟨hj, hp⟩
  · exact fun ⟨hi, hq⟩ => ⟨i, hi, q, hq, rfl, rfl⟩

/-- The lead is a member of the group. -/
theorem State.mem_of_lead? {s : State} {k : Nat} {r : StemRecord} (h : s.lead? = some (k, r)) : (k, r) ∈ s.members := by
  unfold State.lead? at h
  split at h
  · exact List.mem_of_find?_eq_some h
  · cases h

/-- A member's slot set to another record changes that member of the group and no other. -/
theorem State.members_setSlot {s : State} {k : Nat} {r : StemRecord} (hk : s.record? k = some r) (r' : StemRecord) :
    (s.setSlot k (some r')).members = s.members.map fun m => if m.1 = k then (k, r') else m := by
  have hg : (s.setSlot k (some r')).stb.group = s.stb.group := rfl
  simp only [State.members, hg, List.map_filterMap]
  refine List.filterMap_congr fun i _ => ?_
  rw [State.record?_setSlot (State.record?_lt hk)]
  by_cases hi : i = k
  · subst hi
    simp [hk]
  · cases hr : s.record? i <;> simp [hi]

/-- A search through a mapped list whose map keeps the test. -/
theorem find?_map_kept {α : Type} (g : α → α) (p : α → Bool) :
    ∀ l : List α, (∀ m ∈ l, p (g m) = p m) → (l.map g).find? p = (l.find? p).map g
  | [], _ => rfl
  | m :: l, h => by
    rw [List.map_cons, List.find?_cons, List.find?_cons, h m List.mem_cons_self,
      find?_map_kept g p l fun n hn => h n (List.mem_cons_of_mem m hn)]
    cases p m <;> rfl

/-- The lead's slot set to a record of its state and role holds the lead. -/
theorem State.lead?_setSlot {s : State} {k : Nat} {r r' : StemRecord} (h : s.lead? = some (k, r)) (hs : r'.state = r.state)
    (hr : r'.role = r.role) : (s.setSlot k (some r')).lead? = some (k, r') := by
  have hk := (State.mem_members.mp (State.mem_of_lead? h)).2
  have hm : ∀ m ∈ s.members, m.1 = k → m.2 = r := fun m hm hi => by
    have := (State.mem_members.mp hm).2
    rw [hi, hk] at this
    exact (Option.some.inj this).symm
  unfold State.lead? State.groupState at h ⊢
  rw [State.members_setSlot hk r']
  generalize s.members = l at h hm
  rw [find?_map_kept]
  · cases l with
    | nil => simp at h
    | cons m l =>
      have hst : (if m.1 = k then (k, r') else m).2.state = m.2.state := by
        split
        · rw [hs, hm m List.mem_cons_self ‹_›]
        · rfl
      simp only [List.map_cons, hst] at h ⊢
      by_cases hp : m.2.state = .processing
      · simp only [hp, if_true] at h ⊢
        rw [h]
        simp
      · simp [hp] at h
  · intro m hmem
    split
    · rw [hr, hm m hmem ‹_›]
    · rfl

/-! ### Notices -/

/-- Told notices change the Head Bus Port and nothing else. -/
theorem State.told_frame (s : State) (l : List Notice) :
    (s.told l).stb = s.stb ∧ (s.told l).lnu = s.lnu ∧ (s.told l).lines = s.lines ∧ (s.told l).dsq = s.dsq ∧
      (s.told l).atb = s.atb ∧ (s.told l).bke = s.bke ∧ (s.told l).fcs = s.fcs ∧ (s.told l).params = s.params ∧
      (s.told l).pending = s.pending := by
  unfold State.told
  exact ⟨foldl_kept (fun t : State => t.stb) (by intros; simp) _ _,
    foldl_kept (fun t : State => t.lnu) (by intros; simp) _ _,
    foldl_kept (fun t : State => t.lines) (by intros; simp) _ _,
    foldl_kept (fun t : State => t.dsq) (by intros; simp) _ _,
    foldl_kept (fun t : State => t.atb) (by intros; simp) _ _,
    foldl_kept (fun t : State => t.bke) (by intros; simp) _ _,
    foldl_kept (fun t : State => t.fcs) (by intros; simp) _ _,
    foldl_kept (fun t : State => t.params) (by intros; simp) _ _,
    foldl_kept (fun t : State => t.pending) (by intros; simp) _ _⟩

/-- A told state is the state with another Head Bus Port. -/
theorem State.told_eq (s : State) (l : List Notice) : s.told l = { s with hbp := (s.told l).hbp } := by
  have h := State.told_frame s l
  cases h' : s.told l
  simp_all

/-- What the told notices leave in the Head Bus Port depends on the Head Bus Port alone. -/
theorem State.told_hbp {s t : State} (h : s.hbp = t.hbp) (l : List Notice) : (s.told l).hbp = (t.told l).hbp := by
  induction l generalizing s t with
  | nil => exact h
  | cons n l ih => exact ih (by simp only [State.offerNotice, h]; split <;> simp)

/-- Notices told one list after another are told as one list. -/
theorem State.told_told (s : State) (l m : List Notice) : (s.told l).told m = s.told (l ++ m) := by
  simp [State.told]

/-! ### The sequencer -/

/-- Without a pending plan the check at a stop changes nothing (R133). -/
theorem State.checkPending_none {s : State} (h : s.noPending) : s.checkPending = s := by
  unfold State.checkPending
  split
  · rfl
  · rename_i k r hl
    simp [h k r hl]

/-- An entry into a state that is no stop state: the move and its notice (R140). -/
theorem State.enter_eq (s : State) (st : SeqState) :
    s.enter st = (s.moveTo st none).told [.fcsState s.fcs.state st none s.lnu.length s.target?] := by
  have : (if st = SeqState.paused then none else none : Option PauseReason) = none := by split <;> rfl
  simp only [State.enter, State.notifyState, State.told, List.foldl, State.moveTo, this]
  rfl

/-- An entry into a stop state without a pending plan: the move and its notice (R133, R140). -/
theorem State.enterStop_eq {s : State} (h : s.noPending) (st : SeqState) (p : Option PauseReason) :
    s.enterStop st p =
      (s.moveTo st p).told [.fcsState s.fcs.state st (if st = .paused then p else none) s.lnu.length s.target?] := by
  have h' : (s.moveTo st p).noPending := h
  unfold State.enterStop
  rw [State.checkPending_none h']
  rfl

end Sys2Proof.Machine
end

