-- ==== Sys2Proof/Laws/Operations.lean ====
section
/-! SUPPORT. What each shared operation can do, said once in the words of Safety.lean, so that a proof cites it in place of
unfolding the operation: requests for a pass, arbitration, the request queue, the transmitter, the check of a pending plan,
changes of every member, changes of the sequencer's state, the Length Unit's conversions, the line filters, and items of a
payload. -/

namespace Sys2Proof.Machine

open Sys2Proof

/-! ### Passes (R123, R124, R133) -/

/-- A requested pass changes the Bucking Engine as `State.Asks` says, and nothing else. -/
theorem State.requestPass_asks (s : State) : s.Asks s.requestPass.bke ∧ s.requestPass = { s with bke := s.requestPass.bke } := by
  unfold State.Asks State.requestPass
  cases hp : s.plannable? with
  | none => exact ⟨by simp, rfl⟩
  | some r =>
    cases hf : s.bke.inFlight with
    | some p => exact ⟨by simp [BuckingEngine.Asked, hf], by simp⟩
    | none =>
      refine ⟨?_, by simp [State.startPass]⟩
      simp only [Option.isSome_some, if_true, BuckingEngine.Asked, hf, Option.isSome_none, Bool.false_eq_true, if_false]
      exact ⟨_, rfl, rfl, rfl⟩

/-- The check of a pending plan at a stop: nothing without one; else it goes with a request, or is installed. -/
theorem State.checkPending_cases (s : State) :
    s.noPending ∧ s.checkPending = s ∨
      ∃ k r res, s.lead? = some (k, r) ∧ r.pendingPlan = some res ∧
        ((r.stale res || s.late r res) = true ∧
            s.checkPending = (s.setSlot k (some { r with pendingPlan := none })).requestPass ∨
          (r.stale res || s.late r res) = false ∧
            s.checkPending = (s.install k r .fromPending res).recordOutcome .installed res.passNumber) := by
  cases hl : s.lead? with
  | none => exact .inl ⟨fun k r h => by simp [hl] at h, by simp [State.checkPending, hl]⟩
  | some p =>
    obtain ⟨k, r⟩ := p
    cases hp : r.pendingPlan with
    | none =>
      refine .inl ⟨fun k' r' h => ?_, by simp [State.checkPending, hl, hp]⟩
      obtain ⟨rfl, rfl⟩ := Prod.mk.inj (Option.some.inj (hl.symm.trans h))
      exact hp
    | some res =>
      refine .inr ⟨k, r, res, rfl, hp, ?_⟩
      cases hc : (r.stale res || s.late r res) with
      | true => exact .inl ⟨rfl, by simp [State.checkPending, hl, hp, hc]⟩
      | false => exact .inr ⟨rfl, by simp [State.checkPending, hl, hp, hc]⟩

/-! ### Results and plans (R101, R128, R129, R131, R133) -/

/-- The COMMITTED first piece, as a list. -/
theorem StemRecord.held_eq (r : StemRecord) : r.held = r.committed?.toList := by
  unfold StemRecord.held StemRecord.committed?
  cases r.plan with
  | nil => rfl
  | cons p rest => by_cases h : p.status = .committed <;> simp [h]

/-- The origin is the position a pass plans from. -/
theorem StemRecord.origin_eq (r : StemRecord) : r.origin = r.plansFrom := by
  simp only [StemRecord.origin, StemRecord.plansFrom, StemRecord.held_eq, originOf, StemRecord.lastCut?]
  cases r.committed? <;> rfl

/-- The STALE test. -/
theorem StemRecord.stale_iff (r : StemRecord) (res : PassResult) : r.stale res = true ↔ r.plansFrom ≠ res.origin := by
  simp [StemRecord.stale, StemRecord.origin_eq]

/-- The LATE test. -/
theorem State.late_iff (s : State) (r : StemRecord) (res : PassResult) : s.late r res = true ↔ s.TooLate r res := by
  simp only [State.late, State.TooLate, StemRecord.held_eq]
  cases r.committed? <;> cases res.pieces <;> simp

/-- An installed result is the lead's plan. -/
theorem StemRecord.installed_eq (r : StemRecord) (res : PassResult) : r.installed res = r.takes res := by
  simp [StemRecord.installed, StemRecord.takes, StemRecord.setPlan, StemRecord.held_eq]

/-- The check of a pending plan leaves what `State.PendingChecked` says (R133). -/
theorem State.checkPending_checked {s : State} {k : Nat} {r : StemRecord} {res : PassResult} (hl : s.lead? = some (k, r))
    (hp : r.pendingPlan = some res) : s.PendingChecked k r res s.checkPending := by
  have hn : ¬s.noPending := fun h => by simp [h k r hl] at hp
  obtain ⟨h, -⟩ | ⟨k', r', res', hl', hp', hc⟩ := s.checkPending_cases
  · exact absurd h hn
  obtain ⟨rfl, rfl⟩ := Prod.mk.inj (Option.some.inj (hl'.symm.trans hl))
  obtain rfl := Option.some.inj (hp'.symm.trans hp)
  rw [Bool.or_eq_true, Bool.or_eq_false_iff, StemRecord.stale_iff, State.late_iff, ← Bool.not_eq_true, ← Bool.not_eq_true,
    StemRecord.stale_iff, State.late_iff] at hc
  refine ⟨fun ho hnl => ?_, fun hd => ?_⟩
  · obtain ⟨h | h, -⟩ | ⟨-, h⟩ := hc
    · exact absurd ho.symm h
    · exact absurd h hnl
    rw [h]
    simp [State.install, State.recordOutcome, StemRecord.installed_eq, StemRecord.installNotice, StemRecord.tells,
      State.told, StemRecord.takes, State.offerNotice]
    split <;> rfl
  · obtain ⟨-, h⟩ | ⟨⟨h1, h2⟩, -⟩ := hc
    · obtain ⟨ha, he⟩ := (s.setSlot k' (some { r' with pendingPlan := none })).requestPass_asks
      have hl2 := State.lead?_setSlot (r' := { r' with pendingPlan := none }) hl' rfl rfl
      have hpl : (s.setSlot k' (some { r' with pendingPlan := none })).plannable?.isSome = s.plannable?.isSome := by
        simp only [State.plannable?, hl2, hl']
        split <;> rfl
      unfold State.Asks at ha
      rw [hpl] at ha
      exact ⟨_, ha, h.trans he⟩
    · exact absurd hd (by tauto)

/-! ### The Diameter Sequencer (R70, R71, R74) -/

/-- A freed sequencer arbitrates (R74). -/
theorem State.arbitrate_freed (s : State) :
    State.arbitrate { s with dsq.running := none } = { s with dsq := s.dsq.freed s.params } := by
  unfold State.arbitrate DiameterSequencer.freed
  simp only
  split <;> rename_i h1 <;> simp_all [RunningSequence.starting, RunningSequence.fresh]

/-- A raised FEED request changes the Diameter Sequencer as `DiameterSequencer.fed` says. -/
theorem State.raiseFeed_dsq (s : State) (f : FeedRequest) : (s.raiseFeed f).dsq = s.dsq.fed s.params f := by
  unfold State.raiseFeed DiameterSequencer.fed DiameterSequencer.feedBusy
  by_cases hb : s.dsq.feedPending ≠ none ∨ s.dsq.stateNumber = 1
  · have : (s.dsq.feedPending.isSome || s.dsq.stateNumber == 1) = true := by
      rcases hb with h | h
      · simp [Option.isSome_iff_ne_none.mpr h]
      · simp [h]
    simp [hb, this]
  · have : (s.dsq.feedPending.isSome || s.dsq.stateNumber == 1) = false := by
      simp only [not_or, not_not] at hb
      simp [hb.1, hb.2]
    rw [this, if_neg hb, if_neg (by simp)]
    cases hr : s.dsq.running with
    | some q => simp [State.arbitrate, hr]
    | none =>
      simp only [not_or, not_not] at hb
      simp [State.arbitrate, hr, hb.1, RunningSequence.starting, RunningSequence.fresh]
/-- A running sequence is not disturbed by arbitration. -/
theorem State.arbitrate_running {s : State} (h : s.dsq.running.isSome) : s.arbitrate = s := by
  obtain ⟨q, hq⟩ := Option.isSome_iff_exists.mp h
  simp [State.arbitrate, hq]

/-! ### The request queue and the transmitter (R180, R184) -/

/-- An offered entry waits last, or is lost, counted and told (R180). -/
theorem State.offerRequest_cases (s : State) (e : QueueEntry) :
    s.hbp.requests.length < 8 ∧ s.offerRequest e = { s with hbp.requests := s.hbp.requests ++ [e] } ∨
      8 ≤ s.hbp.requests.length ∧ s.offerRequest e =
        State.offerNotice { s with hbp.requestsLost := saturate s.hbp.requestsLost }
          (.requestsLost (saturate s.hbp.requestsLost) e.code e.tag) := by
  simp only [State.offerRequest]
  split
  · exact .inl ⟨‹_›, rfl⟩
  · exact .inr ⟨by omega, rfl⟩

/-- A transmitter keeps its message, or takes the answer in service, or the first notice, or finds nothing (R184). -/
theorem State.transmit_cases (s : State) :
    s.hbp.transmitter.isSome ∧ s.transmit = s ∨
      s.hbp.transmitter = none ∧
        ((∃ r, s.hbp.inService = some r ∧ (s.hbp.notices = [] ∨ s.hbp.lastKind = .notice) ∧ s.transmit = s.sendAnswer r) ∨
          (∃ n rest, s.hbp.notices = n :: rest ∧ (s.hbp.inService = none ∨ s.hbp.lastKind = .answer) ∧
            s.transmit = s.sendNotice n rest) ∨
          s.hbp.inService = none ∧ s.hbp.notices = [] ∧ s.transmit = s) := by
  cases ht : s.hbp.transmitter with
  | some t => exact .inl ⟨rfl, State.transmit_busy (by simp [ht])⟩
  | none =>
    refine .inr ⟨rfl, ?_⟩
    cases hi : s.hbp.inService with
    | none =>
      cases hn : s.hbp.notices with
      | nil => exact .inr (.inr ⟨rfl, rfl, by simp [State.transmit, ht, hi, hn]⟩)
      | cons n rest => exact .inr (.inl ⟨n, rest, rfl, .inl rfl, by simp [State.transmit, ht, hi, hn]⟩)
    | some r =>
      cases hn : s.hbp.notices with
      | nil => exact .inl ⟨r, rfl, .inl rfl, by simp [State.transmit, ht, hi, hn]⟩
      | cons n rest =>
        cases hk : s.hbp.lastKind with
        | notice => exact .inl ⟨r, rfl, .inr rfl, by simp [State.transmit, ht, hi, hn, hk]⟩
        | answer => exact .inr (.inl ⟨n, rest, rfl, .inr rfl, by simp [State.transmit, ht, hi, hn, hk]⟩)

/-! ### Members -/

/-- A changed slot reads back as the changed record, and every other slot as before. -/
theorem State.record?_modifySlot (s : State) (k : Nat) (f : StemRecord → StemRecord) (i : Nat) :
    (s.modifySlot k f).record? i = if i = k then (s.record? i).map f else s.record? i := by
  unfold State.modifySlot
  cases hr : s.record? k with
  | none =>
    by_cases hi : i = k
    · subst hi
      simp [hr]
    · simp [hi]
  | some r =>
    simp only [State.record?_setSlot (State.record?_lt hr)]
    split
    · subst_vars
      simp [hr]
    · rfl

/-- A change of every member reaches the group's records once each, and no other (R28). -/
theorem State.record?_modifyMembers {s : State} (h : s.stb.group.Nodup) (f : StemRecord → StemRecord) (i : Nat) :
    (s.modifyMembers f).record? i = if i ∈ s.stb.group then (s.record? i).map f else s.record? i := by
  unfold State.modifyMembers
  generalize s.stb.group = l at h
  induction l generalizing s with
  | nil => simp
  | cons k l ih =>
    obtain ⟨hk, hl⟩ := List.nodup_cons.mp h
    rw [List.foldl_cons, ih hl, State.record?_modifySlot]
    by_cases hi : i = k
    · subst hi
      simp [hk]
    · simp [hi]

/-! ### The sequencer's state (R138, R141) -/

/-- PAUSED with a reason. -/
theorem State.moveTo_paused (s : State) (why : PauseReason) :
    s.moveTo .paused (some why) = { s with fcs := s.fcs.pausedBy why } := rfl

/-- A state without a timer, a pause reason and a cut kind. -/
theorem State.moveTo_resting (s : State) {st : SeqState} (p : Option PauseReason)
    (h : st ∉ [.felling, .feeding, .creeping, .settling, .reversing, .cutting, .sawReturn, .paused]) :
    s.moveTo st p = { s with fcs := s.fcs.resting st } := by
  cases st <;> simp at h <;> rfl

/-- FEEDING, CREEPING or REVERSING at the length as it stands. -/
theorem State.moveTo_feeding (s : State) {st : SeqState} (p : Option PauseReason)
    (h : st = .feeding ∨ st = .creeping ∨ st = .reversing) :
    s.moveTo st p = { s with fcs := s.fcs.feedingFrom st s.lnu.length } := by
  rcases h with rfl | rfl | rfl <;> rfl

/-- SETTLING with its timer. -/
theorem State.moveTo_settling (s : State) (p : Option PauseReason) :
    s.moveTo .settling p = { s with fcs := s.fcs.settles } := rfl

/-- SAW_RETURN with its timer and the cut kind. -/
theorem State.moveTo_sawReturn (s : State) (p : Option PauseReason) :
    s.moveTo .sawReturn p = { s with fcs := s.fcs.returns } := rfl

/-! ### The Length Unit (R46, R48, R55) -/

/-- A new window starts at the length as it stands. -/
theorem State.newWindow_eq (s : State) : s.newWindow = { s with lnu := s.lnu.reopened s.params } := rfl

/-- Millimetres of a pulse count: the integer division toward zero, which gives 0 for a constant of 0. -/
theorem pulsesToMm_eq (count : Int) (constant : Nat) : pulsesToMm count constant = (count * 10000).tdiv constant := by
  unfold pulsesToMm towardZero
  split
  · simp_all
  · rfl

/-- A clamp as a maximum of a minimum. -/
theorem clampInt_eq {lo hi : Int} (h : lo ≤ hi) (x : Int) : clampInt lo hi x = max lo (min hi x) := by
  unfold clampInt
  split
  · omega
  · split <;> omega

/-- The unclamped length, by the encoder that gives the length (R46). -/
theorem State.unclamped_eq (s : State) :
    s.unclamped = s.lnu.base + if s.lnu.onWheel then (s.lnu.wheelRun * 10000).tdiv s.params.wheelConstant
      else (s.lnu.rollerRun * 10000).tdiv s.params.rollerConstant := by
  simp only [State.unclamped, pulsesToMm_eq]
  cases hs : s.lnu.source <;> simp [LengthUnit.onWheel, SourceState.usesWheel, hs]

/-- The length as the active encoder's run gives it. -/
theorem State.recompute_eq (s : State) : s.recompute = { s with lnu := s.lnu.converted s.params } := by
  have hd : ∀ u : Int, decide (u < -2000 ∨ 60000 < u) = decide (u ≠ max (-2000) (min 60000 u)) := fun u =>
    decide_eq_decide.mpr (by omega)
  simp only [State.recompute, State.unclamped_eq, clampInt_eq (show (-2000 : Int) ≤ 60000 by decide), hd]
  rfl

/-! ### Lines (R42, R43) -/

/-- A sample accepts the other level of a ripe line; else the run of that level grows or is broken. -/
theorem LineFilter.sample_cases (n : Nat) (f : LineFilter) :
    (f.ripe n → f.sample n = .settled f.pin) ∧ (¬f.ripe n → f.sample n = f.heard) := by
  unfold LineFilter.ripe LineFilter.sample LineFilter.heard LineFilter.settled
  by_cases hp : f.pin = f.accepted <;> by_cases hn : n ≤ f.run + 1 <;> simp [hp, hn]

/-- A sample leaves a line that stands at its accepted level. -/
theorem LineFilter.sample_quiet (n : Nat) {f : LineFilter} (h : f.quiet) : f.sample n = f := by
  unfold LineFilter.quiet at h
  unfold LineFilter.sample
  rw [h]
  simp

/-! ### Items of a payload (R187) -/

/-- An absent optional list has its presence byte and no count. -/
@[simp] theorem optListBytes_none : optListBytes none = u8 0 := rfl

/-- A present optional list has its presence byte before the list. -/
@[simp] theorem optListBytes_some (entries : List (List Byte)) :
    optListBytes (some entries) = u8 1 ++ listBytes entries := rfl

end Sys2Proof.Machine
end

