-- ==== Sys2Proof/Laws/PerInstr.lean ====
section
/-! SUPPORT. The family RequestWire: the request that a command stands for has a code of the catalogue, and the length that
the catalogue gives for the code (file 10, section 10.6). -/

namespace Sys2Proof.Laws.RequestWire

open Sys2Proof Sys2Proof.Machine

/-- The request of a command, where it is one, has a catalogued code and the payload length of that code. -/
def Statement (i : Instr) : Prop :=
  ∀ tag r, i.request? = some (tag, r) → catalogueLength r.code = some r.payload.length

/-- Every request of the catalogue, whatever command stands for it. -/
theorem of_request (i : Instr) : Statement i := fun _ r _ => catalogueLength_code r

theorem powerOn (node : BitVec 3) (pins : PinLevels) : Statement (.powerOn node pins) := of_request _
theorem firstFrame (frame : Frame) : Statement (.firstFrame frame) := of_request _
theorem continuationFrame (frame : Frame) : Statement (.continuationFrame frame) := of_request _
theorem gapTimerExpiry : Statement (.gapTimerExpiry) := of_request _
theorem frameSent : Statement (.frameSent) := of_request _
theorem segmentErrorAnswer (code : Byte) (tag : Byte) : Statement (.segmentErrorAnswer code tag) := of_request _
theorem unknownRequest (code : Byte) (tag : Byte) (payload : List Byte) :
    Statement (.unknownRequest code tag payload) := of_request _
theorem setParameter (tag : Byte) (number : Byte) (value : Half) :
    Statement (.setParameter tag number value) := of_request _
theorem readParameter (tag : Byte) (number : Byte) : Statement (.readParameter tag number) := of_request _
theorem loadArmPoint (tag : Byte) (arm : Byte) (index : Byte) (raw : Half) (contribution : Half) :
    Statement (.loadArmPoint tag arm index raw contribution) := of_request _
theorem readArmTable (tag : Byte) (arm : Byte) : Statement (.readArmTable tag arm) := of_request _
theorem setSpeciesTaper (tag : Byte) (species : Byte) (tmin : Byte) (tdefault : Byte) (tmax : Byte) :
    Statement (.setSpeciesTaper tag species tmin tdefault tmax) := of_request _
theorem readSpeciesTaper (tag : Byte) (species : Byte) : Statement (.readSpeciesTaper tag species) := of_request _
theorem writeAssortment (tag : Byte) (number : Byte) (image : EntryImage) :
    Statement (.writeAssortment tag number image) := of_request _
theorem retireAssortment (tag : Byte) (number : Byte) : Statement (.retireAssortment tag number) := of_request _
theorem readAssortment (tag : Byte) (bank : Byte) (number : Byte) :
    Statement (.readAssortment tag bank number) := of_request _
theorem swapBanks (tag : Byte) : Statement (.swapBanks tag) := of_request _
theorem setLockSize (tag : Byte) (size : Byte) : Statement (.setLockSize tag size) := of_request _
theorem listStems (tag : Byte) : Statement (.listStems tag) := of_request _
theorem readStem (tag : Byte) (handle : Half) : Statement (.readStem tag handle) := of_request _
theorem readProfile (tag : Byte) (handle : Half) (first : Byte) (count : Byte) :
    Statement (.readProfile tag handle first count) := of_request _
theorem readPlan (tag : Byte) (handle : Half) (which : Byte) : Statement (.readPlan tag handle which) := of_request _
theorem readPieces (tag : Byte) (handle : Half) : Statement (.readPieces tag handle) := of_request _
theorem setSpecies (tag : Byte) (handle : Half) (species : Byte) :
    Statement (.setSpecies tag handle species) := of_request _
theorem setOverride (tag : Byte) (handle : Half) (assortment : Byte) (length : Half) :
    Statement (.setOverride tag handle assortment length) := of_request _
theorem clearOverride (tag : Byte) (handle : Half) : Statement (.clearOverride tag handle) := of_request _
theorem freezePlan (tag : Byte) (handle : Half) : Statement (.freezePlan tag handle) := of_request _
theorem thawPlan (tag : Byte) (handle : Half) : Statement (.thawPlan tag handle) := of_request _
theorem setUpdateMode (tag : Byte) (handle : Half) (mode : Byte) :
    Statement (.setUpdateMode tag handle mode) := of_request _
theorem replan (tag : Byte) (handle : Half) : Statement (.replan tag handle) := of_request _
theorem setTopWatch (tag : Byte) (handle : Half) (threshold : Half) (mode : Byte) :
    Statement (.setTopWatch tag handle threshold mode) := of_request _
theorem retireStem (tag : Byte) (handle : Half) : Statement (.retireStem tag handle) := of_request _
theorem fell (tag : Byte) (species : Byte) : Statement (.fell tag species) := of_request _
theorem feed (tag : Byte) : Statement (.feed tag) := of_request _
theorem stop (tag : Byte) : Statement (.stop tag) := of_request _
theorem cut (tag : Byte) : Statement (.cut tag) := of_request _
theorem cutHere (tag : Byte) : Statement (.cutHere tag) := of_request _
theorem drop (tag : Byte) : Statement (.drop tag) := of_request _
theorem release (tag : Byte) : Statement (.release tag) := of_request _
theorem cabMeasure (tag : Byte) (mask : Byte) (count : Byte) : Statement (.cabMeasure tag mask count) := of_request _
theorem readStatus (tag : Byte) : Statement (.readStatus tag) := of_request _
theorem reinitialiseStems (tag : Byte) : Statement (.reinitialiseStems tag) := of_request _
theorem reinitialiseAll (tag : Byte) : Statement (.reinitialiseAll tag) := of_request _
theorem encoderPulse (encoder : Encoder) (direction : Direction) :
    Statement (.encoderPulse encoder direction) := of_request _
theorem quadratureFault (encoder : Encoder) : Statement (.quadratureFault encoder) := of_request _
theorem wheelContactChange (asserted : Bool) : Statement (.wheelContactChange asserted) := of_request _
theorem sawEndAsserted (edge : Edge) : Statement (.sawEndAsserted edge) := of_request _
theorem sawHomeAsserted (edge : Edge) : Statement (.sawHomeAsserted edge) := of_request _
theorem haltAsserted : Statement (.haltAsserted) := of_request _
theorem haltReleased : Statement (.haltReleased) := of_request _
theorem settleTimerExpiry : Statement (.settleTimerExpiry) := of_request _
theorem sawTimerExpiry : Statement (.sawTimerExpiry) := of_request _
theorem homeTimerExpiry : Statement (.homeTimerExpiry) := of_request _
theorem stallTimerExpiry : Statement (.stallTimerExpiry) := of_request _
theorem sequenceComplete (readings : Readings) : Statement (.sequenceComplete readings) := of_request _
theorem passComplete : Statement (.passComplete) := of_request _

end Sys2Proof.Laws.RequestWire
end

