-- ==== Sys2Proof/Tests/Slice0.lean ====
section
/-! SUPPORT. Tests: words of the catalogue, ill-formed commands, worked examples of the manual, small steps of commands, and
for every statement with hypotheses a state and operands that meet them. -/

namespace Sys2Proof.Tests

open Sys2Proof Sys2Proof.Machine

/-! ### Small states -/

/-- A HELD record, earliest felled, with a butt of 400 mm. -/
def stem : StemRecord where
  handle := 1
  state := .held
  endReason := none
  species := 2
  fellingOrder := 1
  role := none
  butt := some 400
  profile := [⟨0, 400, none, 4, ⟨true, false, false, false, false, false⟩⟩]
  profileStep := 100
  plan := []
  pendingPlan := none
  pieces := []
  override := none
  frozen := false
  updateMode := .immediate
  topWatch := ⟨0, .fall, true, .default⟩
  missedSamples := 0
  disputedWindows := 0
  lengthSummary := .wheelOnly
  furthest := 0
  planValue := 0
  lastPass := 0

/-- The record being felled. -/
def felled : StemRecord := { stem with handle := 3, state := .felling, butt := none, profile := [] }

/-- A PLANNED piece of 3000 mm. -/
def planned : PlanPiece := ⟨3, 3000, 3000, 300, 90, .planned, .optimizer⟩

/-- A result with one piece. -/
def found : PassResult := ⟨[⟨3, 4000, 4000, 300, 120, .planned, .optimizer⟩], 7, 0, some 9000, 10, ⟨false, false, false, false⟩⟩

/-- The lead of a group being processed. -/
def lead : StemRecord :=
  { stem with state := .processing, role := some .lead, plan := [planned], planValue := 90 }

/-- The lead with its first piece COMMITTED. -/
def leadNear : StemRecord := { lead with plan := [{ planned with status := .committed }] }

/-- The lead without a plan. -/
def leadBare : StemRecord := { lead with plan := [], planValue := 0 }

/-- A member of a group being processed that does not lead. -/
def second : StemRecord :=
  { stem with handle := 2, state := .processing, fellingOrder := 2, role := some .member, butt := some 200 }

/-- The machine after reset, with records in the first slots, the first n of them in the group, and the sequencer in a
state. -/
def bunch (records : List StemRecord) (n : Nat) (st : SeqState) : State :=
  { State.reset with
    stb.slots := Vector.ofFn fun i => records[i.val]?
    stb.nextHandle := 9
    stb.group := List.range n
    fcs.state := st
    lines.sawHome := .settled true }

/-- A pass in flight for the record with handle 1. -/
def flight (s : State) : State :=
  { s with bke := ⟨some ⟨7, 1, ⟨0, 300, 200, 500, [], 0, none, none, none, Vector.replicate 32 none⟩, false⟩, false, 8, .none, 0⟩ }

/-- A complete table: raw 100 to 3300, contributions 0 to 4000. -/
def table : ArmTable := Vector.ofFn fun i => some ⟨100 + 400 * i.val, 500 * i.val⟩

/-- The state with all four tables complete. -/
def calibrated (s : State) : State :=
  { s with dsq.ukl := table, dsq.ukr := table, dsq.frl := table, dsq.frr := table }

/-- An entry's content in range and in order. -/
def image : EntryImage :=
  ⟨7, 65535, 100, 900, 2, #v[3000, 4900, 0, 0, 0, 0], 20, #v[10, 20, 30, 40, 50, 60, 70, 80], 1⟩

/-- The state with one DEFINED entry, numbered 3, in both banks. -/
def stocked (s : State) : State :=
  let bank : Bank := (Vector.replicate 32 none).setIfInBounds 3 (some (EntryImage.assortment image))
  { s with atb.active := bank, atb.edit := bank }

/-- A configured part (R173). -/
def configured (s : State) : State :=
  { calibrated (stocked s) with params.wheelConstant := 20000, params.rollerConstant := 40000 }

/-- The state with both encoder constants set. -/
def rolling (s : State) : State := { s with params.wheelConstant := 20000, params.rollerConstant := 40000 }

/-- A sequence that is running. -/
def measuring (target : SequenceTarget) (s : State) : State :=
  { s with dsq.running := some (.fresh target .knives 4 50) }

/-- Eight equal readings of each channel. -/
def readings (raw : BitVec 12) : Readings :=
  ⟨Vector.replicate 8 raw, Vector.replicate 8 raw, Vector.replicate 8 raw, Vector.replicate 8 raw⟩

/-- The next state, or the same where a command does not answer one. -/
def after (c : Instr) (s : State) : State :=
  match exec c s with
  | .next t => t
  | .fault _ => s
  | .refused _ => s

/-- The answer in service. -/
def answer? (s : State) : Option (Byte × Answer) := s.hbp.inService.map fun r => (r.code, r.answer)

/-! ### The laws as checks -/

/-- The occupied slots. -/
def held (s : State) : List (Nat × StemRecord) := (List.range 8).filterMap fun i => (s.record? i).map fun r => (i, r)

/-- The law of one record, as a check. -/
def recordOk (r : StemRecord) : Bool :=
  decide (r.role.isSome ↔ r.state = .processing) && decide (r.endReason.isSome ↔ r.state = .closed ∨ r.state = .abandoned) &&
    decide (r.role ≠ some .lead → r.plan = [] ∧ r.pendingPlan = none) &&
    decide (r.planValue = (r.plan.map fun p => p.value).sum) &&
    decide (r.state = .felling ∨ r.state = .held → r.frozen = false ∧ r.pieces = [])

/-- The group's records in a state, as a check. -/
def groupOk (s : State) (st : StemState) : Bool := s.stb.group.all fun i => (s.record? i).all fun r => r.state == st

/-- The law of the feed group, as a check. -/
def stemOk (s : State) : Bool :=
  (held s).all (fun m => recordOk m.2) && decide s.stb.group.Nodup && decide (s.stb.group.length ≤ 4) &&
    (s.stb.group.all fun i => (s.record? i).any fun r => r.state == .held || r.state == .processing) &&
    ((held s).all fun m => !(m.2.state == .held || m.2.state == .processing) || s.stb.group.contains m.1) &&
    (match s.lead? with
      | some p => (held s).all fun m => m.2.role != some .lead || m.1 == p.1
      | none => s.groupState != .processing) &&
    (s.fcs.state == .felling || (held s).all fun m => m.2.state != .felling) &&
    match s.fcs.state with
    | .idle => s.stb.group == []
    | .felling => groupOk s .held && decide (s.stb.group.length ≤ 3) && ((held s).any fun m => m.2.state == .felling &&
        (held s).all fun q => q.2.state != .felling || q.1 == m.1)
    | .holding => s.stb.group != [] && groupOk s .held
    | .waiting | .feeding | .creeping | .settling | .reversing | .atTarget | .cutting | .sawReturn | .paused =>
      s.stb.group != [] && groupOk s .processing
    | .halted => groupOk s .held || groupOk s .processing

theorem mem_held {s : State} {i : Nat} {r : StemRecord} : (i, r) ∈ held s ↔ s.record? i = some r := by
  simp only [held, List.mem_filterMap, List.mem_range, Option.map_eq_some_iff, Prod.mk.injEq]
  constructor
  · rintro ⟨j, -, q, hq, rfl, rfl⟩
    exact hq
  · intro h
    exact ⟨i, State.record?_lt h, r, h, rfl, rfl⟩

theorem groupAll_of_ok {s : State} {st : StemState} (h : groupOk s st = true) : s.groupAll st := by
  intro i hi r hr
  have := List.all_eq_true.mp h i hi
  simpa [hr] using this

theorem stemLaw_of_ok {s : State} (h : stemOk s = true) : s.StemLaw := by
  simp only [stemOk, Bool.and_eq_true] at h
  obtain ⟨⟨⟨⟨⟨⟨⟨h1, h2⟩, h3⟩, h4⟩, h5⟩, h6⟩, h7⟩, h8⟩ := h
  refine ⟨fun i r hr => ?_, of_decide_eq_true h2, of_decide_eq_true h3, fun i => ⟨fun hi => ?_, fun ⟨r, hr, hs⟩ => ?_⟩,
    fun hg => ?_, fun hf i r hr => ?_, ?_⟩
  · have := List.all_eq_true.mp h1 (i, r) (mem_held.mpr hr)
    simp only [recordOk, Bool.and_eq_true, decide_eq_true_eq] at this
    exact ⟨this.1.1.1.1, this.1.1.1.2, this.1.1.2, this.1.2, this.2⟩
  · have := List.all_eq_true.mp h4 i hi
    cases hr : s.record? i with
    | none => simp [hr] at this
    | some r => exact ⟨r, rfl, by simpa [hr] using this⟩
  · have := List.all_eq_true.mp h5 (i, r) (mem_held.mpr hr)
    rcases hs with hs | hs <;> simpa [hs] using this
  · cases hl : s.lead? with
    | none => simp [hl, hg] at h6
    | some p =>
      obtain ⟨k, r⟩ := p
      refine ⟨k, r, rfl, fun j q hq hrole => ?_⟩
      rw [hl] at h6
      have := List.all_eq_true.mp h6 (j, q) (mem_held.mpr hq)
      simpa [hrole] using this
  · rcases Bool.or_eq_true_iff.mp h7 with h7 | h7
    · exact absurd (by simpa using h7) hf
    · simpa using List.all_eq_true.mp h7 (i, r) (mem_held.mpr hr)
  · cases hst : s.fcs.state <;> simp only [hst, Bool.and_eq_true, Bool.or_eq_true] at h8 ⊢
    case idle => simpa using h8
    case felling =>
      refine ⟨groupAll_of_ok h8.1.1, of_decide_eq_true h8.1.2, ?_⟩
      obtain ⟨⟨k, r⟩, hk, hm⟩ := List.any_eq_true.mp h8.2
      simp only [Bool.and_eq_true, beq_iff_eq] at hm
      refine ⟨k, r, mem_held.mp hk, hm.1, fun j q hq hs => ?_⟩
      simpa [hs] using List.all_eq_true.mp hm.2 (j, q) (mem_held.mpr hq)
    case halted => exact h8.imp groupAll_of_ok groupAll_of_ok
    all_goals exact ⟨by simpa using h8.1, groupAll_of_ok h8.2⟩

/-- No pending plan, as a check. -/
theorem noPending_of_ok {s : State} (h : (s.lead?.all fun m => m.2.pendingPlan.isNone) = true) : s.noPending := by
  intro k r hl
  simpa [hl] using h

/-! ### Witnesses: the bus -/

/-- A bus with a request in service, a busy transmitter, and n and m entries waiting. -/
def busy (n m : Nat) : State :=
  { State.reset with
    hbp.inService := some ⟨48, 5, ⟨.ok, []⟩⟩
    hbp.transmitter := some ⟨.answer, 48, 5, [0], 0⟩
    hbp.lastKind := .answer
    hbp.requests := List.replicate n (.request 53 9 [])
    hbp.notices := List.replicate m (.requestsLost 1 2 3) }

/-- A bus with a partial request of 16 bytes whose first seven bytes and n continuations have arrived. -/
def joining (n : Nat) : State :=
  { State.reset with hbp.partialRequest := some ⟨16, 5, 16, List.replicate (7 + 7 * (n - 1)) 1, n, 0⟩ }

theorem witness_stepRunsFrontCommand :
    ({ State.reset with pending := [.stop 1, .feed 2] } : State).pending = .stop 1 :: [.feed 2] := rfl

theorem witness_requestServedAtOnce :
    State.reset.busIdle ∧ (Instr.drop 9).request? = some (9, .drop) ∧ catalogueLength 7 = none ∧
      catalogueLength 49 = some 0 ∧ ([1] : List Byte).length ≠ 0 ∧ ([1] : List Byte).length ≤ 7 ∧
      State.reset.hbp.partialRequest = none :=
  ⟨⟨rfl, rfl⟩, rfl, rfl, rfl, by decide⟩

theorem witness_requestWaitsOrIsLost :
    queueEntry? (.drop 9) = some (.request 53 9 []) ∧ queueEntry? (.segmentErrorAnswer 16 5) = some (.error 16 5) ∧
      (busy 7 0).hbp.inService.isSome ∧ (busy 7 0).hbp.transmitter.isSome ∧ (busy 7 0).hbp.requests.length < 8 ∧
      8 ≤ (busy 8 15).hbp.requests.length ∧ (busy 8 15).hbp.notices.length < 16 ∧
      8 ≤ (busy 8 16).hbp.requests.length ∧ 16 ≤ (busy 8 16).hbp.notices.length := by decide

theorem witness_requestFramesArrive :
    (List.replicate 255 (1 : Byte)).length ≤ 255 ∧ State.reset.hbp.partialRequest = none ∧ State.reset.busSettled :=
  ⟨(List.length_replicate ..).le, rfl, by unfold State.busSettled; decide⟩

theorem witness_framesJoinOrDiscard :
    (requestFrame 3 7 16 5 [1] 0).ident.extractLsb' 8 3 ≠ State.reset.hbp.node ∧
      (let f := requestFrame 3 0 16 5 [1] 0
       f.extended = true ∧ f.remote = false ∧ f.ident.extractLsb' 11 5 = 0 ∧ f.ident.extractLsb' 8 3 = State.reset.hbp.node ∧
         f.ident.extractLsb' 24 2 = 0 ∧ f.data = 1 :: [1] ∧ ([1] : List Byte).length = (1 : Byte).toNat ∧ (7 : Byte).toNat < 8) ∧
      State.reset.busSettled ∧ State.reset.hbp.partialRequest = none ∧
      (requestFrame 3 0 16 5 (List.replicate 8 1) 0).data = 8 :: List.replicate 7 1 ∧ 8 ≤ (8 : Byte).toNat ∧
      ({ requestFrame 3 0 16 5 [] 0 with data := [] } : Frame).data = [] ∧
      ([1, 2] : List Byte).length ≠ (if (1 : Byte).toNat < 8 then (1 : Byte).toNat else 7) ∧
      (List.replicate 6 (1 : Byte)).length ≠ (if (8 : Byte).toNat < 8 then (8 : Byte).toNat else 7) ∧
      (joining 1).busSettled ∧ (joining 1).hbp.partialRequest = some ⟨16, 5, 16, List.replicate 7 1, 1, 0⟩ ∧
      (continuation 3 0 16 5 1 (List.replicate 7 2)).ident.extractLsb' 24 2 = 3 ∧
      (continuation 3 0 16 5 1 (List.replicate 7 2)).data = 1 :: List.replicate 7 2 ∧
      (1 : Byte).toNat = 1 ∧ 1 ≠ continuations 16 ∧ (joining 2).busSettled ∧ 2 = continuations 16 ∧
      (joining 2).hbp.partialRequest = some ⟨16, 5, 16, List.replicate 14 1, 2, 0⟩ ∧
      ¬((16 : Byte) = 16 ∧ (5 : Byte) = 5 ∧ (continuation 3 0 16 5 2 (List.replicate 7 2)).data.length = 8 ∧
        (byteAt (continuation 3 0 16 5 2 (List.replicate 7 2)).data 0).toNat = 1) := by
  unfold State.busSettled
  decide

theorem witness_frameSentGoesOn :
    (busy 1 1).busSettled ∧ (busy 0 1).busSettled ∧ (busy 0 0).busSettled ∧
      (busy 0 0).hbp.transmitter = some ⟨.answer, 48, 5, [0], 0⟩ ∧ continuations 1 ≤ 0 ∧ 0 < continuations 8 ∧
      (let s : State := { busy 0 1 with hbp.transmitter := some ⟨.notice, 131, 0, [1, 2, 3], 0⟩, hbp.lastKind := .notice }
       s.busSettled ∧ s.hbp.inService ≠ none) ∧
      (let s : State := { busy 0 1 with
        hbp.inService := none, hbp.transmitter := some ⟨.notice, 131, 0, [1, 2, 3], 0⟩, hbp.lastKind := .notice }
       s.busSettled ∧ s.hbp.notices ≠ []) ∧
      (let s : State := { busy 0 0 with
        hbp.inService := none, hbp.transmitter := some ⟨.notice, 131, 0, [1, 2, 3], 0⟩, hbp.lastKind := .notice }
       s.busSettled ∧ s.hbp.notices = []) := by
  unfold State.busSettled
  decide

theorem witness_busLawKept : (busy 8 16).BusLaw ∧ step (busy 8 16) = .next (busy 8 16).idle :=
  ⟨by
    refine ⟨by decide, by decide, by decide, by decide, by unfold State.busSettled; decide, fun t ht _ => ?_⟩
    rfl, rfl⟩

theorem witness_requestCodesAgree :
    decodeRequest 1 [13, 0x20, 0x4E] = .request (.setParameter 13 20000) := by decide

theorem witness_sentFramesCarryMessage :
    (List.replicate 255 (1 : Byte)).length ≤ 255 ∧ (List.replicate 7 (1 : Byte)).length ≤ 7 ∧
      8 ≤ (List.replicate 8 (1 : Byte)).length ∧ 1 ≤ 36 ∧ 36 ≤ continuations 255 :=
  ⟨(List.length_replicate ..).le, by decide⟩

/-- The machine after reset with other lines. -/
def lined (f : InputLines → InputLines) : State := { State.reset with lines := f State.reset.lines }

/-- The machine after reset with a partial request whose gap timer has counted n. -/
def waiting (n : Nat) : State := { State.reset with hbp.partialRequest := some ⟨16, 5, 16, List.replicate 7 1, 1, n⟩ }

/-- A line that shows the other level for a first sample. -/
def other : LineFilter := ⟨true, false, 0⟩

theorem witness_millisecondCountsTimers :
    let s (f : Sequencer → Sequencer) : State := { State.reset with fcs := f State.reset.fcs }
    State.reset.pending = [] ∧ State.reset.encodersQuiet ∧ State.reset.switchesQuiet ∧ State.reset.busSettled ∧
      State.reset.countTimers.nothingDue ∧ State.reset.hbp.partialRequest = none ∧
      timerDue (s fun f => { f with settleTimer := some 148 }).countTimers.fcs.settleTimer 150 = false ∧
      timerDue (s fun f => { f with settleTimer := some 149 }).countTimers.fcs.settleTimer 150 = true ∧
      State.reset.params.settleTime = 150 ∧
      timerDue (s fun f => { f with sawTimer := some 2499 }).countTimers.fcs.sawTimer State.reset.params.sawTimeout ∧
      timerDue (s fun f => { f with homeTimer := some 1499 }).countTimers.fcs.homeTimer State.reset.params.homeTimeout ∧
      timerDue (s fun f => { f with stallTimer := some 1499 }).countTimers.fcs.stallTimer State.reset.params.stallTime := by
  unfold State.encodersQuiet State.switchesQuiet State.busSettled State.nothingDue LineFilter.quiet
  decide

theorem witness_millisecondCountsTimers_lines :
    (waiting 99).busSettled ∧ (waiting 99).countTimers.nothingDue ∧ 100 ≤ 99 + 1 ∧ 98 + 1 < 100 ∧
      State.reset.params.switchFilter = 5 ∧ ¬other.ripe 5 ∧ LineFilter.ripe 5 ⟨true, false, 4⟩ ∧
      ¬LineFilter.ripe 5 ⟨true, false, 3⟩ ∧ (lined fun l => { l with halt := ⟨true, false, 4⟩ }).encodersQuiet ∧
      ¬(lined fun l => { l with sawEnd := ⟨true, false, 4⟩ }).lines.halt.ripe 5 ∧
      State.reset.params.encFilter ≤ 8 ∧ (lined fun l => { l with wheelA := other }).switchesQuiet ∧
      (lined fun l => { l with wheelA := other }).lines.wheelB.quiet ∧ other.pin ≠ other.accepted ∧
      turned .forward (false, false) = (true, false) ∧ turned .reverse (false, false) = (false, true) ∧
      (lined fun l => { l with rollerA := other, rollerB := other }).lines.wheelA.quiet := by
  unfold State.encodersQuiet State.switchesQuiet State.busSettled State.nothingDue LineFilter.quiet LineFilter.ripe
  decide

/-! ### Witnesses: settings and assortments -/

theorem witness_powerOnState : (15 : Byte).toNat ≤ 15 ∧ (parameterInfo 22).isSome := by decide

/-- A target of each requester. -/
def feedTarget : SequenceTarget := .feed ⟨600, .wheel⟩
def trimTarget : SequenceTarget := .trim ⟨0, 1⟩
def cabTarget : SequenceTarget := .cab ⟨.knives, 4, 9⟩

theorem witness_setParameterStoresOrRefuses :
    State.reset.busIdle ∧ 22 < (23 : Byte).toNat ∧
      (bunch [lead] 1 .waiting).busIdle ∧ (bunch [lead] 1 .waiting).processingCount ≠ 0 ∧
      (measuring feedTarget State.reset).dsq.running.isSome ∧
      (∃ q f, (measuring feedTarget State.reset).dsq.running = some q ∧ q.target = .feed f) ∧
      (∃ q t, (measuring trimTarget State.reset).dsq.running = some q ∧ q.target = .trim t) ∧
      (4 : Half).toNat > 3 ∧ (2 : Half).toNat > 1 ∧ parameterInfo 5 = some ⟨50, 1000, 150⟩ ∧
      State.reset.params.get 5 = 150 ∧ State.reset.params.get 5 ≠ 50 ∧
      timerDue (some 50) 50 = true ∧ timerDue (some 49) 50 = false :=
  ⟨⟨rfl, rfl⟩, by decide, ⟨rfl, rfl⟩, by decide, by decide, ⟨_, _, rfl, rfl⟩, ⟨_, _, rfl, rfl⟩, by decide⟩

theorem witness_constantChangeRebases :
    State.reset.busIdle ∧ State.reset.processingCount = 0 ∧
      (configured State.reset).params.wheelConstant = max 1000 (min 60000 (20000 : Half).toNat) ∧
      (configured State.reset).params.rollerConstant = max 1000 (min 60000 (40000 : Half).toNat) ∧
      State.reset.params.wheelConstant ≠ max 1000 (min 60000 (0 : Half).toNat) ∧
      State.reset.params.rollerConstant ≠ max 1000 (min 60000 (65535 : Half).toNat) ∧
      ¬(State.reset.lnu.source = .wheel ∨ State.reset.lnu.source = .disputed) ∧
      (let s : State := { State.reset with lnu.source := .disputed }
       s.processingCount = 0 ∧ (s.lnu.source = .wheel ∨ s.lnu.source = .disputed)) :=
  ⟨⟨rfl, rfl⟩, by decide⟩

theorem witness_settingReadsAnswer :
    State.reset.busIdle ∧ (parameterInfo (22 : Byte).toNat).isSome ∧ 22 < (23 : Byte).toNat ∧
      Channel.ofNumber (3 : Byte).toNat = some .frr ∧ 3 < (4 : Byte).toNat ∧ 1 < (2 : Byte).toNat ∧
      31 < (32 : Byte).toNat ∧ (1 : Byte).toNat ≤ 1 ∧ (31 : Byte).toNat = (31 : Fin 32).val ∧
      (stocked State.reset).atb.active[(31 : Fin 32)] = none ∧
      (stocked State.reset).atb.active[(3 : Fin 32)] = some (EntryImage.assortment image) :=
  ⟨⟨rfl, rfl⟩, by decide⟩

theorem witness_armPointLoadsInOrder :
    State.reset.busIdle ∧ 3 < (4 : Byte).toNat ∧ 8 < (9 : Byte).toNat ∧ 4095 < (4096 : Half).toNat ∧
      5000 < (5001 : Half).toNat ∧ (measuring feedTarget State.reset).dsq.running.isSome ∧
      Channel.ofNumber (2 : Byte).toNat = some .frl ∧ (calibrated State.reset).dsq.running = none ∧
      (8 : Byte).toNat ≤ 8 ∧ (4095 : Half).toNat ≤ 4095 ∧ (5000 : Half).toNat ≤ 5000 ∧
      (calibrated State.reset).dsq.frl[(7 : Fin 9)] = some ⟨2900, 3500⟩ ∧ 2900 < (4095 : Half).toNat ∧
      ¬2900 < (2900 : Half).toNat :=
  ⟨⟨rfl, rfl⟩, by decide⟩

theorem witness_contributionInterpolates :
    (∀ i : Fin 9, table[i] = some ⟨100 + 400 * i.val, 500 * i.val⟩) ∧ armOrdered table ∧ armInRange table ∧
      (99 < 100) ∧ (500 ≤ 500 ∧ 500 ≤ 900) ∧ 3300 < 3301 := by
  have h : ∀ i : Fin 9, table[i] = some ⟨100 + 400 * i.val, 500 * i.val⟩ := by decide
  refine ⟨h, fun i j p q hij hp hq => ?_, fun i p hp => ?_, by decide⟩
  · rw [h] at hp hq
    obtain ⟨rfl⟩ := hp
    obtain ⟨rfl⟩ := hq
    exact ⟨by simp only; omega, by simp only; omega⟩
  · rw [h] at hp
    obtain ⟨rfl⟩ := hp
    exact ⟨by simp only; omega, by simp only; omega⟩

theorem calibrated_law (s : State) (h : ∀ i : Fin 16, s.atb.taper[i].tmin ≤ s.atb.taper[i].tdefault ∧
    s.atb.taper[i].tdefault ≤ s.atb.taper[i].tmax ∧ s.atb.taper[i].tmax ≤ 40) : (calibrated s).CalibrationLaw := by
  have ho := witness_contributionInterpolates
  exact ⟨fun c => by cases c <;> exact ⟨ho.2.1, ho.2.2.1⟩, h⟩

theorem witness_settingsLawsKept :
    (calibrated State.reset).CalibrationLaw ∧
      ({ stocked State.reset with atb.lockSize := 16 } : State).LockLaw ∧
      step (calibrated State.reset) = .next (calibrated State.reset).idle :=
  ⟨calibrated_law _ (by decide), ⟨by decide, by decide⟩, rfl⟩

theorem witness_speciesTaperWritesAndReads :
    State.reset.busIdle ∧ 15 < (16 : Byte).toNat ∧ 40 < (41 : Byte).toNat ∧ (15 : Byte).toNat ≤ 15 ∧
      ¬((5 : Byte).toNat ≤ (4 : Byte).toNat) ∧ ((40 : Byte).toNat ≤ 40 ∧ (0 : Byte).toNat ≤ (40 : Byte).toNat) ∧
      (15 : Fin 16).val = (15 : Byte).toNat :=
  ⟨⟨rfl, rfl⟩, by decide⟩

theorem witness_entryEdits :
    State.reset.busIdle ∧ 31 < (32 : Byte).toNat ∧ (31 : Byte).toNat ≤ 31 ∧
      (3 : Byte).toNat < ({ State.reset with atb.lockSize := 4 } : State).atb.lockSize ∧
      ({ State.reset with atb.lockSize := 4 } : State).atb.lockSize ≤ (4 : Byte).toNat ∧
      ({ State.reset with atb.swapPending := true } : State).atb.swapPending = true ∧
      State.reset.atb.swapPending = false ∧
      (image.speciesMask ≠ 0 ∧ (30 ≤ image.minTop.toNat ∧ image.minTop.toNat ≤ 600) ∧
        (50 ≤ image.maxButt.toNat ∧ image.maxButt.toNat ≤ 999) ∧
        (1 ≤ image.lengthCount.toNat ∧ image.lengthCount.toNat ≤ 6) ∧
        (∀ i : Fin 6, i.val < image.lengthCount.toNat → 500 ≤ image.lengthSlots[i].toNat ∧
          image.lengthSlots[i].toNat ≤ 9900 ∧ image.lengthSlots[i].toNat % 100 = 0) ∧
        (10 ≤ image.classWidth.toNat ∧ image.classWidth.toNat ≤ 100) ∧
        (image.groupAllowed = 0 ∨ image.groupAllowed = 1)) ∧
      (image.minTop.toNat < image.maxButt.toNat ∧ ∀ i j : Fin 6, i < j → j.val < image.lengthCount.toNat →
        image.lengthSlots[i].toNat < image.lengthSlots[j].toNat) ∧
      ¬(({ image with classWidth := 9 } : EntryImage).classWidth.toNat ≥ 10) ∧
      ¬(({ image with maxButt := 100 } : EntryImage).minTop.toNat <
        ({ image with maxButt := 100 } : EntryImage).maxButt.toNat) :=
  ⟨⟨rfl, rfl⟩, by decide⟩

theorem witness_swapBanks :
    State.reset.busIdle ∧ (bunch [lead] 1 .waiting).busIdle ∧ 0 < (bunch [lead] 1 .waiting).processingCount ∧
      State.reset.processingCount = 0 ∧ State.reset.hbp.notices.length < 16 ∧
      (let s : State := { State.reset with hbp.notices := List.replicate 16 (.requestsLost 1 2 3) }
       s.busIdle ∧ s.processingCount = 0 ∧ 16 ≤ s.hbp.notices.length) :=
  ⟨⟨rfl, rfl⟩, ⟨rfl, rfl⟩, by decide, by decide, by decide, ⟨rfl, rfl⟩, by decide⟩

theorem witness_lockSizeOnlyRises :
    State.reset.busIdle ∧ ¬((5 : Byte).toNat = 0 ∨ (5 : Byte).toNat = 4 ∨ (5 : Byte).toNat = 8 ∨ (5 : Byte).toNat = 16) ∧
      (let s : State := { State.reset with atb.lockSize := 8 }
       s.busIdle ∧ (4 : Byte).toNat < s.atb.lockSize ∧ (8 : Byte).toNat = s.atb.lockSize ∧
         s.atb.lockSize < (16 : Byte).toNat ∧ s.atb.swapPending = false) ∧
      (let s : State := { State.reset with atb.swapPending := true }
       s.busIdle ∧ s.atb.lockSize < (4 : Byte).toNat ∧ s.atb.swapPending = true) :=
  ⟨⟨rfl, rfl⟩, by decide, ⟨⟨rfl, rfl⟩, by decide⟩, ⟨⟨rfl, rfl⟩, by decide⟩⟩

theorem witness_activeBankFixed :
    ∃ t, step { bunch [lead] 1 .waiting with pending := [.swapBanks 5] } = .next t ∧ 0 < t.processingCount :=
  ⟨after (.swapBanks 5) (bunch [lead] 1 .waiting), rfl, by decide⟩

/-! ### Witnesses: records and passes -/

theorem witness_stemRequestsCheckHandleAndState :
    (Instr.retireStem 5 1).request? = some (5, .retireStem 1) ∧
      onRecord? (.retireStem 1) = some (1, StemRecord.finished) ∧ State.reset.busIdle ∧
      (∀ k r, State.reset.record? k = some r → r.handle ≠ (1 : Half).toNat) ∧
      (bunch [lead] 1 .waiting).busIdle ∧ (bunch [lead] 1 .waiting).record? 0 = some lead ∧
      lead.handle = (1 : Half).toNat ∧ (bunch [lead] 1 .waiting).findRecord (1 : Half).toNat = some (0, lead) ∧
      lead.finished = false := by
  refine ⟨rfl, rfl, ⟨rfl, rfl⟩, fun k r h => ?_, ⟨rfl, rfl⟩, by decide⟩
  have hs : held State.reset = [] := by decide
  have hm := mem_held.mpr h
  simp [hs] at hm

theorem witness_stemReadsAnswer :
    (bunch [lead] 1 .waiting).busIdle ∧ (bunch [lead] 1 .waiting).findRecord (1 : Half).toNat = some (0, lead) ∧
      (1 ≤ (32 : Byte).toNat ∧ (32 : Byte).toNat ≤ 32 ∧ (1 : Byte).toNat ≤ lead.profile.length) ∧
      ¬(2 : Byte).toNat ≤ lead.profile.length ∧ lead.pendingPlan = none ∧
      (let r := { lead with pendingPlan := some found }
       (bunch [r] 1 .waiting).findRecord (1 : Half).toNat = some (0, r) ∧ r.pendingPlan = some found) ∧
      1 < (2 : Byte).toNat :=
  ⟨⟨rfl, rfl⟩, by decide⟩

theorem witness_layoutsReadBack :
    EntryImage.rangesOk image = true ∧
      (let p : Sample := ⟨60000, 999, some 999, 8, ⟨true, true, true, true, true, true⟩⟩
       p.position ≤ 60000 ∧ p.diameter ≤ 999 ∧ p.averaging = 8) ∧
      (let p : PlanPiece := ⟨31, 9900, 65535, 999, 4294967295, .committed, .override⟩
       p.assortment ≤ 31 ∧ p.nominal ≤ 9900 ∧ 0 ≤ p.cutPosition ∧ p.cutPosition ≤ 65535 ∧ p.topDiameter ≤ 999 ∧
         p.value < 4294967296) ∧
      (let p : Piece := ⟨.wasteCut, none, 0, 65535, none, some (-70000), 999, some 4294967294, ⟨true, true, true⟩⟩
       (∀ a, p.assortment = some a → a ≤ 31) ∧ 0 ≤ p.cutPosition ∧ p.actual ≤ 65535 ∧
         (∀ n, p.nominal = some n → n ≤ 9900) ∧ (∀ e, p.lengthError = some e → e.natAbs ≤ 70000) ∧
         ∀ v, p.value = some v → v < 4294967295) :=
  ⟨by decide, by decide, by decide, by simp⟩

theorem witness_setSpeciesStores :
    (bunch [lead] 1 .waiting).busIdle ∧ (bunch [lead] 1 .waiting).findRecord (1 : Half).toNat = some (0, lead) ∧
      lead.inGroup = true ∧ 15 < (16 : Byte).toNat ∧ (2 : Byte).toNat = lead.species ∧
      (bunch [stem] 1 .holding).findRecord (1 : Half).toNat = some (0, stem) ∧ stem.state = .held ∧
      (15 : Byte).toNat ≤ 15 ∧ (15 : Byte).toNat ≠ stem.species ∧ lead.state = .processing ∧
      (stocked State.reset).atb.active[(3 : Fin 32)] = some (EntryImage.assortment image) ∧
      (EntryImage.assortment image).speciesMask.getLsbD 2 = true :=
  ⟨⟨rfl, rfl⟩, by decide⟩

theorem witness_overrideSetAndCleared :
    let s := stocked (bunch [lead] 1 .waiting)
    s.busIdle ∧ s.findRecord (1 : Half).toNat = some (0, lead) ∧ s.lead? = some (0, lead) ∧ lead.state = .processing ∧
      31 < (32 : Byte).toNat ∧ (4 : Fin 32).val = (4 : Byte).toNat ∧ s.atb.active[(4 : Fin 32)] = none ∧
      s.atb.active[(3 : Fin 32)] = some (EntryImage.assortment image) ∧
      (4300 : Half).toNat ∉ (EntryImage.assortment image).lengths ∧
      (4900 : Half).toNat ∈ (EntryImage.assortment image).lengths ∧ lead.override = none ∧
      (let r := { lead with override := some ⟨3, 4900⟩ }
       (bunch [r] 1 .waiting).lead? = some (0, r) ∧ r.override ≠ none) :=
  ⟨⟨rfl, rfl⟩, by decide⟩

theorem witness_freezeAndThaw :
    let s := flight (bunch [lead] 1 .waiting)
    s.busIdle ∧ s.findRecord (1 : Half).toNat = some (0, lead) ∧ s.lead? = some (0, lead) ∧ lead.state = .processing ∧
      lead.frozen = false ∧ (∀ p, s.bke.inFlight = some p → p.lead = lead.handle) ∧
      (let r := { lead with frozen := true }
       (bunch [r] 1 .waiting).lead? = some (0, r) ∧ r.frozen = true) := by
  refine ⟨⟨rfl, rfl⟩, by decide, by decide, rfl, rfl, fun p hp => ?_, by decide⟩
  obtain ⟨rfl⟩ := hp
  rfl

theorem witness_modeAndWatchSet :
    let s := bunch [lead, second] 2 .waiting
    s.busIdle ∧ s.findRecord (1 : Half).toNat = some (0, lead) ∧ s.findRecord (2 : Half).toNat = some (1, second) ∧
      lead.inGroup = true ∧ second.inGroup = true ∧ 1 < (2 : Byte).toNat ∧ lead.updateMode = .immediate ∧
      (let r := { lead with updateMode := .atStop }
       (bunch [r] 1 .waiting).findRecord (1 : Half).toNat = some (0, r) ∧ (bunch [r] 1 .waiting).record? 0 = some r ∧
         r.leads = true) ∧
      (let r := { second with updateMode := .atStop }
       (bunch [lead, r] 2 .waiting).findRecord (2 : Half).toNat = some (1, r) ∧ r.leads = false) ∧
      (999 < (1000 : Half).toNat ∧ (1000 : Half) ≠ 65535) ∧ (999 : Half).toNat ≤ 999 ∧ (1 : Byte).toNat ≤ 1 :=
  ⟨⟨rfl, rfl⟩, by decide⟩

theorem witness_replanAndRetire :
    let s := bunch [leadNear] 1 .settling
    s.busIdle ∧ s.findRecord (1 : Half).toNat = some (0, leadNear) ∧ leadNear.state = .processing ∧
      leadNear.role = some .lead ∧ leadNear.frozen = false ∧ s.lead? = some (0, leadNear) ∧ s.bke.inFlight = none ∧
      (flight s).bke.inFlight ≠ none ∧
      leadNear.plan = { planned with status := .committed } :: [] ∧ lead.plan = planned :: [] ∧
      planned.status = .planned ∧ (bunch [lead] 1 .feeding).lead? = some (0, lead) ∧
      (let r := { lead with frozen := true }
       (bunch [r] 1 .waiting).findRecord (1 : Half).toNat = some (0, r) ∧ r.role = some .lead ∧ r.frozen = true) ∧
      (let r := lead.ended .closed .released
       (bunch [r] 0 .idle).findRecord (1 : Half).toNat = some (0, r) ∧ r.state = .closed) :=
  ⟨⟨rfl, rfl⟩, by decide⟩

theorem witness_handleLawKept :
    (bunch [lead, second] 2 .waiting).HandleLaw ∧
      step (bunch [lead, second] 2 .waiting) = .next (bunch [lead, second] 2 .waiting).idle := by
  have hs : held (bunch [lead, second] 2 .waiting) = [(0, lead), (1, second)] := by decide
  have hm : ∀ i r, (bunch [lead, second] 2 .waiting).record? i = some r → (i, r) = (0, lead) ∨ (i, r) = (1, second) := by
    intro i r h
    simpa [hs] using mem_held.mpr h
  refine ⟨⟨by decide, fun i r h => ?_, fun i j r q hr hq he => ?_⟩, rfl⟩
  · rcases hm i r h with h | h <;> obtain ⟨rfl, rfl⟩ := Prod.mk.inj h <;> decide
  · rcases hm i r hr with h | h <;> obtain ⟨rfl, rfl⟩ := Prod.mk.inj h <;>
      rcases hm j q hq with h | h <;> obtain ⟨rfl, rfl⟩ := Prod.mk.inj h <;>
      first | rfl | exact absurd he (by decide)

theorem witness_passCompletes :
    let s := flight (bunch [lead] 1 .creeping)
    s.bke.inFlight = some ⟨7, 1, ⟨0, 300, 200, 500, [], 0, none, none, none, Vector.replicate 32 none⟩, false⟩ ∧
      s.fcs.state ≠ .waiting ∧ s.fcs.state ≠ .feeding ∧ s.lead? = some (0, lead) ∧
      (∀ p, s.bke.inFlight = some p → p.void = false ∧ (p.snapshot.result p.number).origin = 0 ∧
        (p.snapshot.result p.number).pieces = []) ∧
      (flight State.reset).lead? = none ∧ lead.updateMode = .immediate ∧
      (let r := { lead with updateMode := .atStop }
       (flight (bunch [r] 1 .creeping)).lead? = some (0, r) ∧ r.updateMode = .atStop) ∧
      (bunch [leadNear] 1 .settling).fcs.state = .settling ∧
      (leadNear.plan.head?.map (·.cutPosition)).getD 0 ≠ 0 := by
  refine ⟨rfl, by decide, by decide, by decide, fun p hp => ?_, by decide⟩
  obtain ⟨rfl⟩ := hp
  decide +kernel

theorem witness_plansReachSequencer :
    let s := flight (bunch [leadBare] 1 .waiting)
    let v : State := { s with bke.inFlight := s.bke.inFlight.map fun p => { p with void := true } }
    (v.lead? = some (0, leadBare) ∧ v.bke.flag = false ∧ v.fcs.state = .waiting ∧ leadBare.plan = [] ∧
      leadBare.pendingPlan = none ∧ ∀ p, v.bke.inFlight = some p → p.void = true) ∧
      ∀ p, s.bke.inFlight = some p → p.void = false ∧ (p.snapshot.result p.number).origin = 0 ∧
        (p.snapshot.result p.number).pieces = [] := by
  refine ⟨by decide, fun p hp => ?_⟩
  obtain ⟨rfl⟩ := hp
  decide +kernel

theorem witness_optimizerIsOptimal :
    0 < ([[⟨3, 300, 1, 9⟩], []] : List (List Candidate)).length ∧
      IsChain [[⟨3, 300, 1, 9⟩], []] 0 [⟨3, 300, 1, 9⟩] ∧ ([⟨3, 300, 1, 9⟩] : List Candidate).length ≤ 1 := by
  refine ⟨by decide, ⟨by decide, trivial⟩, by decide⟩

/-- R114: of two pieces of one value the one tried first is chosen. -/
theorem test_optimizer_tie :
    optimizerTrace [[⟨1, 900, 1, 9⟩, ⟨3, 900, 1, 9⟩], []] 0 300 1 = [⟨1, 900, 1, 9⟩] := by decide

/-- A snapshot of one thick member, on a bank with one entry. -/
def snap (o : Option Override) : Snapshot :=
  ⟨0, 300, 200, 2000, [⟨2, 1, true, [(0, 400), (100, 399), (200, 398)], ⟨4, 10, 20⟩⟩], 0, none, none, o,
    (stocked State.reset).atb.active⟩

theorem witness_plannedPiecesAreValid :
    (∀ i : Fin 32, ((snap none).bank[i]).all fun a => a.lengths.all fun l => l % 100 = 0 ∧ 0 < l) ∧
      ((snap none).result 7).pieces ≠ [] ∧
      (((snap (some ⟨3, 3000⟩)).result 7).pieces.head?.map fun p => p.source) = some .override := by
  decide +kernel

/-- A pass in flight on that snapshot, for the record with handle 1. -/
def flown (s : State) : State := { s with bke := ⟨some ⟨7, 1, snap none, false⟩, false, 8, .none, 0⟩ }

theorem witness_passCompletes_late :
    let s : State := { flown (bunch [lead] 1 .creeping) with lnu.length := 4800 }
    s.lead? = some (0, lead) ∧ ((snap none).result 7).origin = lead.plansFrom ∧ lead.held = [] ∧
      (((snap none).result 7).pieces.head?.map fun x => decide (x.cutPosition < s.lnu.length + s.params.slowDistance)) =
        some true := by
  decide +kernel

theorem notTooLate_of_ok {s : State} {r : StemRecord} {res : PassResult}
    (h : (res.pieces.head?.all fun x => decide (s.lnu.length + s.params.slowDistance ≤ x.cutPosition)) = true) :
    ¬s.TooLate r res := by
  rintro ⟨-, x, rest, hx, hl⟩
  rw [hx] at h
  exact absurd (of_decide_eq_true h) (by omega)

/-- WAITING stays where the next pass follows, and FEEDING where the plan is not empty. -/
theorem witness_passCompletes_rests :
    (let s : State := { flight (bunch [leadBare] 1 .waiting) with bke.flag := true }
     s.fcs.state = .waiting ∧ s.lead? = some (0, leadBare) ∧ leadBare.plan = [] ∧ s.plannable?.isSome) ∧
      (let s := flown (bunch [lead] 1 .feeding)
       s.fcs.state = .feeding ∧ s.lead? = some (0, lead) ∧ lead.plan ≠ [] ∧ ¬s.TooLate lead ((snap none).result 7) ∧
         (lead.takes ((snap none).result 7)).plan ≠ []) :=
  ⟨by decide, by decide, by decide, by decide, notTooLate_of_ok (by decide +kernel), by decide +kernel⟩

theorem witness_plansReachSequencer_installs :
    (let s := flown (bunch [leadBare] 1 .waiting)
     s.lead? = some (0, leadBare) ∧ s.fcs.state = .waiting ∧ ((snap none).result 7).origin = leadBare.plansFrom ∧
       ¬s.TooLate leadBare ((snap none).result 7) ∧
       (((snap none).result 7).pieces.head?.map fun x => (decide (s.lnu.length < x.cutPosition - s.params.slowDistance),
         x.status, x.cutPosition)) = some (true, .planned, 3000)) ∧
      (let s : State := { flown (bunch [leadBare] 1 .waiting) with lnu.length := 2700 }
       ¬s.TooLate leadBare ((snap none).result 7) ∧ s.lnu.length = 3000 - s.params.slowDistance ∧
         0 < s.params.slowDistance) ∧
      (let s : State := { flight (bunch [lead] 1 .feeding) with bke.flag := true }
       s.fcs.state = .feeding ∧ s.lead? = some (0, lead) ∧ lead.updateMode = .immediate ∧ lead.held = [] ∧
         ∀ p, s.bke.inFlight = some p → p.void = false ∧ ¬s.TooLate lead (p.snapshot.result p.number) ∧
           (lead.takes (p.snapshot.result p.number)).plan = []) := by
  refine ⟨⟨by decide, rfl, by decide +kernel, notTooLate_of_ok (by decide +kernel), by decide +kernel⟩,
    ⟨notTooLate_of_ok (by decide +kernel), by decide⟩, rfl, by decide, rfl, by decide, fun p hp => ?_⟩
  obtain ⟨rfl⟩ := hp
  exact ⟨rfl, notTooLate_of_ok (by decide +kernel), by decide +kernel⟩

/-- A pending plan at STOP, reached in time and too late, at the arrival, at the settle timer and at the end of the saw
return. -/
theorem witness_plansReachSequencer_pending :
    (let r := { lead with pendingPlan := some found }
     let s := bunch [r] 1 .feeding
     s.busIdle ∧ s.lead? = some (0, r) ∧ found.origin = r.plansFrom ∧ ¬s.TooLate r found ∧
       ({ s with lnu.length := 3701 } : State).TooLate r found) ∧
      (let r := { leadNear with pendingPlan := some found }
       let s (st : SeqState) (run length : Int) : State :=
         { rolling (bunch [r] 1 st) with
           lnu.source := .wheel, lnu.wheelRun := run, lnu.length := length, lnu.trigger := 9000 }
       let reached (s : State) (d : Direction) : Int := ((s.lnu.counted .wheel d).converted s.params).length
       (s .creeping 5999 2999).StemLaw ∧ (s .creeping 5999 2999).lead? = some (0, r) ∧
         (s .creeping 5999 2999).lnu.onWheel = true ∧ reached (s .creeping 5999 2999) .forward = 3000 ∧
         (s .creeping 5999 2999).target? = some 3000 ∧ (s .reversing 6002 3001).StemLaw ∧
         reached (s .reversing 6002 3001) .reverse = 3000 ∧ r.plansFrom = 3000 ∧ found.origin ≠ 3000 ∧ r.plan ≠ []) ∧
      (let r := { leadNear with pendingPlan := some found }
       let s : State := { bunch [r] 1 .settling with lnu.length := 3020, fcs.settleTimer := some 150 }
       s.lead? = some (0, r) ∧ s.target? = some 3000 ∧ s.params.overshootTol = 20 ∧
         s.lines.sawHome.accepted = true) ∧
      (let r := { leadBare with pendingPlan := some found }
       let s := flight (bunch [r] 1 .sawReturn)
       s.lead? = some (0, r) ∧ s.fcs.stopped = false ∧ s.bke.inFlight ≠ none ∧ found.origin = r.plansFrom ∧
         (0 : Int) < 4000 - s.params.slowDistance) :=
  ⟨⟨⟨rfl, rfl⟩, by decide, rfl, notTooLate_of_ok (by decide), ⟨by decide, _, _, rfl, by decide⟩⟩,
    ⟨stemLaw_of_ok (by decide), by decide, by decide, by decide, by decide, stemLaw_of_ok (by decide), by decide⟩,
    by decide, by decide⟩

/-- An override of 500 is placed at the earliest first cut, one of 400 is dropped. -/
theorem witness_plannedPiecesAreValid_clauses :
    (let p : List (Nat × Nat) := [(0, 400), (100, 399), (200, 398)]
     p.Pairwise (fun a b => a.1 < b.1) ∧ p = [(0, 400)] ++ (100, 399) :: (200, 398) :: [] ∧ p.getLast? = some (200, 398) ∧
       (4 : Nat) ≤ 20 ∧ 0 < 200) ∧
      (∀ i : Fin 32, ((snap none).bank[i]).all fun a => 100 ≤ a.minTop ∧ a.lengths.Pairwise (· < ·)) ∧
      ((snap none).bank[(3 : Fin 32)].map fun a => (a.minTop, a.groupAllowed)) = some (100, true) ∧
      ((snap none).members.find? fun m => m.isLead).isSome ∧ ((snap none).result 7).usableEnd = some 30000 ∧
      ((snap (some ⟨3, 500⟩)).result 7).flags.overrideDropped = false ∧
      ((snap (some ⟨3, 400⟩)).result 7).flags.overrideDropped = true := by
  decide +kernel

/-- R80, R187: a COMPLETE result carries its channels as a list that is present, an ABORTED one an absent list. -/
theorem test_measureResult_optional_list :
    (Notice.measureResult 9 .knives 2 (some ⟨50, [⟨1130, 714, false⟩, ⟨1090, 699, false⟩], some 141, none, 141, false,
      false⟩)).payload = [0, 9, 1, 2, 50, 0, 1, 2, 0x6A, 4, 0xCA, 2, 0, 0x42, 4, 0xBB, 2, 0, 141, 0, 255, 255, 141, 0, 0] ∧
    (Notice.measureResult 9 .knives 2 none).payload =
      [1, 9, 1, 2, 255, 255, 0, 255, 255, 255, 255, 255, 255, 255] := by decide
/-! ### Witnesses: the operating requests -/

/-- Seven occupied slots. -/
def seven : List StemRecord :=
  List.replicate 7 (stem.ended .closed .released)

theorem witness_fellOpensRecord :
    let s := configured (bunch seven 0 .idle)
    s.busIdle ∧ s.fcs.state = .idle ∧ (15 : Byte).toNat ≤ 15 ∧
      (∀ (c : Channel) (i : Fin 9), (s.dsq.table c)[i].isSome) ∧ s.params.wheelConstant ≠ 0 ∧
      s.params.rollerConstant ≠ 0 ∧ (∃ i : Fin 32, s.atb.active[i].isSome) ∧ 7 < 8 ∧ s.record? 7 = none ∧
      (∀ j, j < 7 → (s.record? j).isSome) ∧ s.stb.group.length < 4 ∧ s.dsq.trimPending = none ∧
      s.dsq.stateNumber ≠ 2 ∧ s.lines.sawHome.accepted = true ∧ s.groupState ≠ .processing ∧ s.dsq.running = none ∧
      s.dsq.feedPending = none ∧ (measuring cabTarget s).dsq.stateNumber ≠ 2 ∧
      (measuring cabTarget s).dsq.running.isSome := by
  refine ⟨⟨rfl, rfl⟩, by decide, by decide, fun c => by cases c <;> decide, by decide, by decide, by decide, by decide,
    by decide⟩

theorem witness_fellOpensRecord_holding :
    let s := configured (bunch [stem, stem, stem] 3 .holding)
    s.fcs.state = .holding ∧ s.stb.group.length = 3 ∧ s.record? 3 = none ∧ s.groupState = .held := by decide

theorem witness_fellChecksInOrder :
    let s := configured (bunch [] 0 .idle)
    s.busIdle ∧ ¬((bunch [lead] 1 .waiting).fcs.state = .idle ∨ (bunch [lead] 1 .waiting).fcs.state = .holding) ∧
      s.fcs.state = .idle ∧ 15 < (16 : Byte).toNat ∧ (15 : Byte).toNat ≤ 15 ∧
      ¬(∃ i : Fin 32, State.reset.atb.active[i].isSome) ∧
      (∀ (c : Channel) (i : Fin 9), (s.dsq.table c)[i].isSome) ∧ s.params.wheelConstant ≠ 0 ∧
      s.params.rollerConstant ≠ 0 ∧ (∃ i : Fin 32, s.atb.active[i].isSome) ∧
      ¬((configured (bunch [stem, stem, stem, stem] 4 .holding)).stb.group.length < 4) ∧ s.record? 0 = none ∧
      s.stb.group.length < 4 ∧ s.dsq.trimPending = none ∧ s.dsq.stateNumber ≠ 2 ∧
      ¬((measuring trimTarget s).dsq.stateNumber ≠ 2) ∧
      ({ s with lines.sawHome := .settled false } : State).lines.sawHome.accepted = false :=
  ⟨⟨rfl, rfl⟩, by decide, by decide, by decide, by decide, by decide, fun c => by cases c <;> decide, by decide, by decide,
    by decide⟩

theorem witness_feedStartsGroup :
    let s := bunch [stem, { stem with handle := 2, fellingOrder := 2 }] 2 .holding
    s.busIdle ∧ s.fcs.state = .holding ∧ s.StemLaw ∧ s.lines.sawHome.accepted = true ∧
      (∀ m ∈ s.members, m.2.butt ≠ none) ∧
      (let u : State := { s with lines.sawHome := .settled false }
       u.busIdle ∧ u.StemLaw ∧ u.lines.sawHome.accepted = false) ∧
      (let u := bunch [{ stem with butt := none }] 1 .holding
       u.busIdle ∧ u.StemLaw ∧ ∃ m ∈ u.members, m.2.butt = none) :=
  ⟨⟨rfl, rfl⟩, by decide, stemLaw_of_ok (by decide), by decide, by decide,
    ⟨⟨rfl, rfl⟩, stemLaw_of_ok (by decide), by decide⟩, ⟨rfl, rfl⟩, stemLaw_of_ok (by decide), by decide⟩

/-- The sequencer paused, with the length at a place. -/
def paused (records : List StemRecord) (n : Nat) (length : Int) : State :=
  { bunch records n .paused with fcs.pause := some .stopRequest, lnu.length := length }

theorem witness_feedResumes :
    let s := paused [lead] 1 0
    s.busIdle ∧ s.fcs.state = .paused ∧ s.lead? = some (0, lead) ∧ s.record? 0 = some lead ∧ lead.pendingPlan = none ∧
      s.stb.group.Nodup ∧ s.lines.sawHome.accepted = true ∧ lead.plan = planned :: [] ∧
      ({ s with lines.sawHome := .settled false } : State).lines.sawHome.accepted = false ∧
      (let u := paused [leadBare] 1 0
       u.lead? = some (0, leadBare) ∧ leadBare.plan = [] ∧ u.bke.inFlight = none ∧ u.bke.flag = false ∧
         (flight u).bke.inFlight ≠ none) ∧
      (paused [lead] 1 2699).lnu.length < planned.cutPosition - 300 ∧
      (planned.cutPosition - 300 ≤ (paused [lead] 1 2700).lnu.length ∧ (2999 : Int) < planned.cutPosition) ∧
      planned.cutPosition ≤ (paused [lead] 1 3000).lnu.length ∧ s.params.slowDistance = 300 :=
  ⟨⟨rfl, rfl⟩, by decide⟩

theorem witness_stopByState :
    (bunch [lead] 1 .feeding).busIdle ∧ (bunch [lead] 1 .feeding).noPending ∧
      (bunch [lead] 1 .feeding).fcs.state = .feeding ∧
      (let s : State := { bunch [leadNear] 1 .cutting with fcs.cutKind := some .planned }
       s.noPending ∧ s.lines.sawHome.accepted = true ∧
       ({ s with lines.sawHome := .settled false } : State).lines.sawHome.accepted = false) ∧
      (let s := bunch [stem, felled] 1 .felling
       s.noPending ∧ s.fcs.state = .felling ∧ s.StemLaw ∧ s.record? 1 = some felled ∧ felled.state = .felling) :=
  ⟨⟨rfl, rfl⟩, noPending_of_ok (by decide), by decide, ⟨noPending_of_ok (by decide), by decide⟩,
    noPending_of_ok (by decide), by decide, stemLaw_of_ok (by decide), by decide⟩

/-- A record with twelve pieces. -/
def full : StemRecord :=
  { leadBare with pieces := List.replicate 12 ⟨.operatorCut, none, 700, 700, none, none, 300, none, ⟨false, false, false⟩⟩ }

/-- A record with one piece. -/
def once : StemRecord := { full with pieces := full.pieces.take 1 }

theorem witness_cutsStart :
    (bunch [leadNear] 1 .atTarget).busIdle ∧ (bunch [leadNear] 1 .atTarget).fcs.state = .atTarget ∧
      (let s := paused [leadNear] 1 3020
       s.lead? = some (0, leadNear) ∧ (s.lnu.length - 3000).natAbs ≤ s.params.overshootTol ∧
         s.lines.sawHome.accepted = true) ∧
      ¬(((paused [leadNear] 1 3021).lnu.length - 3000).natAbs ≤ State.reset.params.overshootTol) ∧
      ((bunch [lead] 1 .feeding).fcs.state ≠ .paused ∧ (bunch [lead] 1 .feeding).fcs.state ≠ .atTarget) ∧
      ((paused [full] 1 0).lead? = some (0, full) ∧ 12 ≤ full.pieces.length) ∧
      ((paused [once] 1 700).lead? = some (0, once) ∧ once.pieces.length < 12 ∧
        (paused [once] 1 700).lnu.length ≤ (once.pieces.getLast?.map (·.cutPosition)).getD 0) ∧
      ((once.pieces.getLast?.map (·.cutPosition)).getD 0 < (paused [once] 1 701).lnu.length ∧
        (paused [once] 1 701).lines.sawHome.accepted = true) :=
  ⟨⟨rfl, rfl⟩, by decide⟩

theorem witness_dropAndRelease :
    (let s := bunch [stem] 1 .holding
     s.busIdle ∧ s.StemLaw ∧ s.fcs.state = .holding ∧ s.stb.group = [] ++ [0] ∧ s.record? 0 = some stem) ∧
      (let s : State := { measuring feedTarget (paused [lead, second] 2 0) with
        atb.swapPending := true, dsq.cabPending := some ⟨.knives, 4, 9⟩ }
       s.busIdle ∧ s.StemLaw ∧ s.fcs.state = .paused ∧ s.dsq.stateNumber = 1) ∧
      (let s := bunch [lead] 1 .waiting
       s.busIdle ∧ s.StemLaw ∧ s.fcs.state = .waiting ∧ s.dsq.stateNumber ≠ 1) ∧
      (bunch [leadNear] 1 .atTarget).fcs.state = .atTarget :=
  ⟨⟨⟨rfl, rfl⟩, stemLaw_of_ok (by decide), by decide⟩, ⟨⟨rfl, rfl⟩, stemLaw_of_ok (by decide), by decide⟩,
    ⟨⟨rfl, rfl⟩, stemLaw_of_ok (by decide), by decide⟩, by decide⟩

theorem witness_requestsRefusedByState :
    (bunch [] 0 .halted).busIdle ∧ (bunch [] 0 .halted).fcs.state ∉ [.idle, .holding] ∧
      (bunch [] 0 .halted).fcs.state ∉ [.holding, .paused] ∧
      (bunch [] 0 .halted).fcs.state ∈ [.idle, .holding, .atTarget, .sawReturn, .paused, .halted] ∧
      (bunch [] 0 .halted).fcs.state ∉ [.atTarget, .paused] ∧ (bunch [] 0 .halted).fcs.state ≠ .holding ∧
      (bunch [] 0 .halted).fcs.state ∉ [.holding, .waiting, .atTarget, .paused] :=
  ⟨⟨rfl, rfl⟩, by decide⟩

/-- The sequencer's law at a state, as a check. -/
theorem sequencerLaw_of {s : State} (h : (s.fcs.state = .halted ↔ s.lines.halt.accepted = true) ∧
    (s.fcs.pause.isSome ↔ s.fcs.state = .paused) ∧
    (s.fcs.cutKind.isSome ↔ s.fcs.state = .cutting ∨ s.fcs.state = .sawReturn) ∧
    (s.fcs.settleTimer.isSome → s.fcs.state = .settling) ∧
    (s.fcs.sawTimer.isSome → s.fcs.state = .felling ∨ s.fcs.state = .cutting) ∧
    (s.fcs.homeTimer.isSome → s.fcs.state = .sawReturn) ∧
    (s.fcs.stallTimer.isSome → s.fcs.state = .feeding ∨ s.fcs.state = .creeping ∨ s.fcs.state = .reversing) ∧
    s.fcs.reversals ≤ 2 ∧ s.demandsSafe = true) : s.SequencerLaw := h

theorem witness_stemLawKept :
    (bunch [lead, second] 2 .waiting).SequencerLaw ∧ (bunch [lead, second] 2 .waiting).StemLaw ∧
      step (bunch [lead, second] 2 .waiting) = .next (bunch [lead, second] 2 .waiting).idle :=
  ⟨sequencerLaw_of (by decide), stemLaw_of_ok (by decide), rfl⟩

theorem witness_sequencerLawKept :
    let s : State := { paused [leadNear] 1 3000 with fcs.reversals := 2, pending := [.cut 5] }
    s.SequencerLaw ∧ step s = .next (after (.cut 5) { s with pending := [] }) :=
  ⟨sequencerLaw_of (by decide), rfl⟩

/-! ### Witnesses: measurement and length -/

theorem witness_cabMeasureStarts :
    State.reset.busIdle ∧ ¬(1 ≤ (0 : Byte).toNat ∧ (0 : Byte).toNat ≤ 3) ∧
      ¬((3 : Byte).toNat = 1 ∨ (3 : Byte).toNat = 2 ∨ (3 : Byte).toNat = 4 ∨ (3 : Byte).toNat = 8) ∧
      Mask.both.code = (3 : Byte).toNat ∧ ¬(∀ c ∈ Mask.both.channels, ∀ i : Fin 9, (State.reset.dsq.table c)[i].isSome) ∧
      (∀ c ∈ Mask.both.channels, ∀ i : Fin 9, ((calibrated State.reset).dsq.table c)[i].isSome) ∧
      ¬((measuring cabTarget (calibrated State.reset)).dsq.stateNumber ≠ 3) ∧
      (measuring trimTarget (calibrated State.reset)).dsq.cabPending = none ∧
      (measuring trimTarget (calibrated State.reset)).dsq.stateNumber ≠ 3 ∧
      (measuring trimTarget (calibrated State.reset)).dsq.running.isSome ∧ State.reset.dsq.running = none ∧
      State.reset.dsq.feedPending = none ∧ State.reset.dsq.trimPending = none :=
  ⟨⟨rfl, rfl⟩, by decide⟩

theorem witness_sequenceResults :
    (measuring cabTarget State.reset).dsq.running = some (.fresh cabTarget .knives 4 50) ∧
      (let s := measuring trimTarget (bunch [stem] 1 .holding)
       s.dsq.running = some (.fresh trimTarget .knives 4 50) ∧ s.record? 0 = some stem ∧ stem.handle = 1 ∧
         stem.state = .held) ∧
      (let s := measuring trimTarget (bunch [second] 1 .waiting)
       s.record? 0 = some second ∧ second.handle ≠ 1) := by decide

/-- A lead whose last sample stands at 600 mm, and its second. -/
def sampled : StemRecord :=
  { lead with profile := lead.profile ++ [⟨600, 390, none, 2, ⟨false, false, false, false, false, false⟩⟩] }

theorem witness_feedResult :
    (let s := measuring feedTarget (bunch [] 0 .idle)
     s.dsq.running = some (.fresh feedTarget .knives 4 50) ∧ s.StemLaw ∧ s.SequencerLaw ∧ s.groupState ≠ .processing) ∧
      (let s := measuring feedTarget (bunch [sampled, second] 2 .feeding)
       s.StemLaw ∧ s.SequencerLaw ∧ s.lead? = some (0, sampled) ∧
         (sampled.profile.getLast?.map fun p => decide ((600 : Int) ≤ p.position)) = some true) ∧
      (let s : State := { measuring feedTarget (bunch [lead, second] 2 .halted) with
        lines.halt := .settled true, atb.swapPending := true }
       s.StemLaw ∧ s.SequencerLaw ∧ s.lead? = some (0, lead) ∧
         (lead.profile.getLast?.map fun p => decide ((p.position : Int) < 600)) = some true) :=
  ⟨⟨by decide, stemLaw_of_ok (by decide), sequencerLaw_of (by decide), by decide⟩,
    ⟨stemLaw_of_ok (by decide), sequencerLaw_of (by decide), by decide⟩,
    ⟨stemLaw_of_ok (by decide), sequencerLaw_of (by decide), by decide⟩⟩

theorem witness_requesterLawKept :
    (measuring feedTarget State.reset).RequesterLaw ∧
      step (measuring feedTarget State.reset) = .next (measuring feedTarget State.reset).idle :=
  ⟨⟨by decide, by decide, by decide, by decide, by decide, by decide, fun p hp => by cases hp⟩, rfl⟩

theorem witness_encoderPulseMeasures :
    let s : State := { rolling (bunch [lead] 1 .settling) with lnu.rollerRun := 3, lnu.trigger := 1 }
    let l := s.lnu.counted .roller .forward
    s.fcs.state ≠ .feeding ∧ s.fcs.state ≠ .creeping ∧ s.fcs.state ≠ .reversing ∧ s.StemLaw ∧
      (l.window.rollerCount * 10000).tdiv s.params.rollerConstant < l.window.size ∧ s.lnu.onWheel = false ∧
      (l.converted s.params).length ≠ s.lnu.length ∧ s.lead? = some (0, lead) ∧ s.Fires (l.converted s.params).length ∧
      (s.dsq.feedPending = none ∧ s.dsq.stateNumber ≠ 1) ∧ s.dsq.running = none ∧
      ((measuring feedTarget s).dsq.stateNumber = 1) ∧ (measuring cabTarget s).dsq.running.isSome ∧
      (measuring cabTarget s).dsq.stateNumber ≠ 1 ∧
      ((s.lnu.counted .wheel .forward).length = s.lnu.length) :=
  ⟨by decide, by decide, by decide, stemLaw_of_ok (by decide), by decide⟩

/-- A feed to the target, with the roller's run at a count. -/
def nearing (r : StemRecord) (st : SeqState) (run : Int) (length : Int) : State :=
  { rolling (bunch [r] 1 st) with lnu.rollerRun := run, lnu.length := length, lnu.trigger := 9000 }

theorem witness_pulseReachesTarget :
    (let s : State := { nearing lead .feeding 10799 2699 with lnu.trigger := 2700 }
     let m := (s.lnu.counted .roller .forward).converted s.params
     s.StemLaw ∧ s.lead? = some (0, lead) ∧ lead.plan = planned :: [] ∧ s.lnu.onWheel = false ∧
       m.length ≠ s.lnu.length ∧ s.Fires m.length ∧ s.dsq.feedPending = none ∧ s.dsq.stateNumber ≠ 1 ∧
       (measuring feedTarget s).dsq.stateNumber = 1 ∧
       (m.window.rollerCount * 10000).tdiv s.params.rollerConstant < m.window.size ∧
       planned.cutPosition - s.params.slowDistance ≤ m.length ∧ m.length < planned.cutPosition ∧
       s.lnu.length < m.length) ∧
      (let s := nearing lead .feeding 11999 2999
       s.lnu.length < ((s.lnu.counted .roller .forward).converted s.params).length ∧
         planned.cutPosition ≤ ((s.lnu.counted .roller .forward).converted s.params).length ∧ lead.pendingPlan = none) ∧
      (let s := nearing lead .feeding 10795 2698
       s.StemLaw ∧ ((s.lnu.counted .roller .forward).converted s.params).length = 2699 ∧ ¬s.Fires 2699) ∧
      (let s := nearing leadNear .creeping 11999 2999
       s.StemLaw ∧ s.fcs.state = .creeping ∧ leadNear.pendingPlan = none ∧
         planned.cutPosition ≤ ((s.lnu.counted .roller .forward).converted s.params).length) ∧
      (let s := nearing leadNear .creeping 11995 2998
       ((s.lnu.counted .roller .forward).converted s.params).length = 2999) ∧
      (let s := nearing leadNear .reversing 12004 3001
       s.StemLaw ∧ s.fcs.state = .reversing ∧
         ((s.lnu.counted .roller .reverse).converted s.params).length = 3000) ∧
      (let s := nearing leadNear .reversing 12008 3002
       ((s.lnu.counted .roller .reverse).converted s.params).length = 3001) :=
  ⟨⟨stemLaw_of_ok (by decide), by decide⟩, by decide, ⟨stemLaw_of_ok (by decide), by decide⟩,
    ⟨stemLaw_of_ok (by decide), by decide⟩, by decide, ⟨stemLaw_of_ok (by decide), by decide⟩, by decide⟩

/-- A window whose next forward roller pulse ends it, with the wheel's count, in a source state with its n. -/
def ending (source : SourceState) (n : Nat) (wheel : Int) : State :=
  { rolling (bunch [lead] 1 .settling) with
    lnu.source := source, lnu.n := n, lnu.window := ⟨0, 0, 0, wheel, 999, 250⟩
    lines.wheelContact := .settled true }

/-- The judgement that a window's end makes: the roller's delta, and whether the wheel's is disputed. -/
def judgement (s : State) : Int × Bool :=
  let roller := (((s.lnu.counted .roller .forward).window.rollerCount * 10000).tdiv s.params.rollerConstant : Int)
  let wheel := (((s.lnu.counted .roller .forward).window.wheelCount * 10000).tdiv s.params.wheelConstant : Int)
  (roller, decide (s.params.slipTol * roller < |wheel - roller| * 100))

theorem witness_windowEndJudges :
    (ending .wheel 0 440).StemLaw ∧ (ending .wheel 0 440).lnu.onWheel = true ∧
      judgement (ending .wheel 0 440) = (250, false) ∧ judgement (ending .wheel 0 439) = (250, true) ∧
      judgement (ending .disputed 1 439) = (250, true) ∧ judgement (ending .disputed 2 439) = (250, true) ∧
      judgement (ending .disputed 2 561) = (250, false) ∧
      ({ ending .wheel 0 439 with lines.wheelContact := .settled false } : State).lines.wheelContact.accepted = false ∧
      (let s (source : SourceState) (n : Nat) (wheel : Int) (st : SeqState) (length : Int) : State :=
        { ending source n wheel with
          fcs.state := st, lnu.rollerRun := 4 * length - 1, lnu.length := length - 1, lnu.trigger := length
          lnu.window.least := length - 1, lnu.window.greatest := length - 1 }
       let reached (s : State) : Int := ((s.lnu.counted .roller .forward).converted s.params).length
       (s .rejoin 1 440 .feeding 2699).StemLaw ∧ (s .rejoin 1 440 .feeding 2699).groupState = .processing ∧
         reached (s .rejoin 1 440 .feeding 2699) = 2699 ∧ (s .rejoin 1 440 .feeding 2699).target? = some 3000 ∧
         (s .rejoin 1 440 .feeding 2699).params.slowDistance = 300 ∧ (2699 : Int) < 3000 - 300 ∧
         (s .rejoin 1 440 .feeding 2699).Fires 2699 ∧ judgement (s .rejoin 1 440 .feeding 2699) = (250, false) ∧
         judgement (s .rejoin 0 440 .feeding 2699) = (250, false) ∧ judgement (s .rejoin 1 439 .settling 5) = (250, true) ∧
         (s .roller 0 440 .creeping 2999).StemLaw ∧ reached (s .roller 0 440 .creeping 2999) = 2999 ∧
         judgement (s .roller 0 440 .creeping 2999) = (250, false) ∧
         (s .roller 0 439 .reversing 3001).StemLaw ∧ judgement (s .roller 0 439 .reversing 3001) = (250, true)) :=
  ⟨stemLaw_of_ok (by decide), by decide, by decide, by decide, by decide, by decide, by decide, by decide,
    stemLaw_of_ok (by decide), by decide, by decide, by decide, by decide, by decide, by decide, by decide, by decide,
    by decide, stemLaw_of_ok (by decide), by decide, by decide, stemLaw_of_ok (by decide), by decide⟩

theorem witness_faultsAndContact :
    let s : State := bunch [lead] 1 .feeding
    s.StemLaw ∧ (s.lnu.wheelFaults < 7 ∧ s.lnu.rollerFaults < 7) ∧
      (let u : State := { s with lnu.wheelFaults := 7, lnu.rollerFaults := 7, lnu.source := .wheel }
       u.StemLaw ∧ 7 ≤ u.lnu.wheelFaults ∧ u.lnu.wheelFaulty = false ∧ 7 ≤ u.lnu.rollerFaults ∧
         u.lnu.rollerFaulty = false) ∧
      s.lines.wheelContact.accepted = false ∧
      ({ s with lines.wheelContact := .settled true } : State).lines.wheelContact.accepted = true :=
  ⟨stemLaw_of_ok (by decide), by decide, ⟨stemLaw_of_ok (by decide), by decide⟩, by decide, by decide⟩

theorem witness_lengthLawKept :
    let s : State := { State.reset with lnu.source := .disputed, lnu.n := 2, lnu.wheelRun := 8000000 }
    s.LengthLaw ∧ step s = .next s.idle :=
  ⟨by unfold State.LengthLaw; decide, rfl⟩

/-! ### Witnesses: the saw, the halt line, timers and reinitialisation -/

theorem witness_sawEndRecordsPieces :
    let away (s : State) : State := { s with lines.sawHome := .settled false }
    (away (bunch [lead] 1 .settling)).StemLaw ∧ (away (bunch [lead] 1 .settling)).lines.sawHome.accepted = false ∧
      (away (bunch [lead] 1 .settling)).fcs.state ∉ [.idle, .felling, .cutting] ∧
      (away (bunch [] 0 .idle)).StemLaw ∧
      (let s := away (bunch [stem, felled] 1 .felling)
       s.StemLaw ∧ s.record? 1 = some felled ∧ felled.state = .felling) ∧
      (let s : State := { away (bunch [leadNear, second] 2 .cutting) with fcs.cutKind := some .planned }
       s.StemLaw ∧ s.fcs.state = .cutting ∧ s.lead? = some (0, leadNear) ∧ leadNear.plan ≠ []) ∧
      (let s : State := { away (bunch [lead, second] 2 .cutting) with fcs.cutKind := some .offPlan }
       s.StemLaw ∧ s.fcs.state = .cutting ∧ s.lead? = some (0, lead)) :=
  ⟨stemLaw_of_ok (by decide), by decide, by decide, stemLaw_of_ok (by decide), ⟨stemLaw_of_ok (by decide), by decide⟩,
    ⟨stemLaw_of_ok (by decide), by decide⟩, ⟨stemLaw_of_ok (by decide), by decide⟩⟩

theorem witness_sawHomeEndsReturn :
    (bunch [lead] 1 .sawReturn).noPending ∧ (bunch [lead] 1 .sawReturn).fcs.state = .sawReturn ∧
      (bunch [lead] 1 .sawReturn).fcs.stopped = false ∧ (bunch [lead] 1 .sawReturn).target? = some 3000 ∧
      (let s : State := { bunch [lead] 1 .sawReturn with lnu.length := 2699 }
       s.lnu.length < 3000 - s.params.slowDistance) ∧
      (let s := bunch [leadBare] 1 .sawReturn
       s.noPending ∧ s.target? = none ∧ s.bke.inFlight = none ∧ s.bke.flag = false ∧ (flight s).bke.inFlight ≠ none) ∧
      ({ bunch [lead] 1 .sawReturn with fcs.stopped := true } : State).fcs.stopped = true ∧
      (bunch [] 0 .idle).noPending ∧ (bunch [] 0 .idle).fcs.state ≠ .sawReturn :=
  ⟨noPending_of_ok (by decide), by decide, by decide, by decide, by decide, ⟨noPending_of_ok (by decide), by decide⟩,
    by decide, noPending_of_ok (by decide), by decide⟩

theorem witness_haltLine :
    let low (s : State) : State := { s with lines.halt := .settled true }
    (bunch [lead] 1 .feeding).StemLaw ∧ (bunch [lead] 1 .feeding).lines.halt.accepted = false ∧
      (bunch [lead] 1 .feeding).fcs.state ≠ .felling ∧
      (bunch [stem, felled] 1 .felling).StemLaw ∧ (bunch [stem, felled] 1 .felling).record? 1 = some felled ∧
      (let s := low (bunch [lead] 1 .halted)
       s.StemLaw ∧ s.lines.halt.accepted = true ∧ s.groupState = .processing ∧ s.noPending) ∧
      (let s := low (bunch [stem] 1 .halted)
       s.StemLaw ∧ s.groupState = .held) ∧
      (let s := low (bunch [] 0 .halted)
       s.StemLaw ∧ s.groupState = .empty) :=
  ⟨stemLaw_of_ok (by decide), by decide, by decide, stemLaw_of_ok (by decide), by decide,
    ⟨stemLaw_of_ok (by decide), by decide, by decide, noPending_of_ok (by decide)⟩,
    ⟨stemLaw_of_ok (by decide), by decide⟩, stemLaw_of_ok (by decide), by decide⟩

theorem witness_timersExpire :
    let at3 (length : Int) (reversals : Nat) (auto : Bool) : State :=
      { bunch [leadNear] 1 .settling with
        lnu.length := length, fcs.reversals := reversals, fcs.settleTimer := some 150, params.autoCut := auto }
    (at3 3020 0 true).StemLaw ∧ (at3 3020 0 true).noPending ∧ (at3 3020 0 true).fcs.settleTimer.isSome ∧
      (at3 3020 0 true).target? = some 3000 ∧ |(at3 3020 0 true).lnu.length - 3000| ≤ (20 : Int) ∧
      (at3 3020 0 true).params.overshootTol = 20 ∧ (at3 3020 0 false).params.autoCut = false ∧
      (at3 3020 0 true).lines.sawHome.accepted = true ∧
      ((3000 : Int) + 20 < (at3 3021 2 true).lnu.length ∧ 2 ≤ (at3 3021 2 true).fcs.reversals) ∧
      ((3000 : Int) + 20 < (at3 3021 1 true).lnu.length ∧ (at3 3021 1 true).fcs.reversals < 2) ∧
      (at3 2979 0 true).lnu.length < 3000 - 20 ∧
      (let s : State := { bunch [stem, felled] 1 .felling with fcs.sawTimer := some 2500 }
       s.StemLaw ∧ s.noPending ∧ s.fcs.sawTimer.isSome ∧ s.record? 1 = some felled ∧ felled.state = .felling) ∧
      (let s : State := { bunch [leadNear] 1 .cutting with fcs.sawTimer := some 2500, fcs.cutKind := some .planned }
       s.StemLaw ∧ s.noPending ∧ s.lead? = some (0, leadNear) ∧ s.fcs.state = .cutting) ∧
      (let s : State := { bunch [leadBare] 1 .sawReturn with fcs.homeTimer := some 1500, fcs.cutKind := some .planned }
       s.StemLaw ∧ s.noPending ∧ s.lead? = some (0, leadBare) ∧ s.fcs.homeTimer.isSome) ∧
      (let s : State := { bunch [lead] 1 .feeding with fcs.stallTimer := some 1500 }
       s.StemLaw ∧ s.noPending ∧ s.fcs.stallTimer.isSome ∧ s.fcs.state = .feeding) ∧
      State.reset.fcs.settleTimer = none :=
  ⟨stemLaw_of_ok (by decide), noPending_of_ok (by decide), by decide, by decide, by decide, by decide, by decide, by decide,
    by decide, by decide, by decide, ⟨stemLaw_of_ok (by decide), noPending_of_ok (by decide), by decide⟩,
    ⟨stemLaw_of_ok (by decide), noPending_of_ok (by decide), by decide⟩,
    ⟨stemLaw_of_ok (by decide), noPending_of_ok (by decide), by decide⟩,
    ⟨stemLaw_of_ok (by decide), noPending_of_ok (by decide), by decide⟩, by decide⟩

theorem witness_statusAndReinitialise :
    (measuring cabTarget { bunch [lead] 1 .waiting with atb.swapPending := true }).busIdle ∧
      (bunch [lead] 1 .waiting).processingCount ≠ 0 ∧ 2 ≤ (2 : Byte).toNat ∧
      (bunch [lead] 1 .waiting).hbp.partialRequest = none :=
  ⟨⟨rfl, rfl⟩, by decide⟩

/-! ### Ill-formed commands are refused -/

theorem test_firstFrame_of_class_3_is_ill_formed : (Instr.firstFrame (requestFrame 3 0 16 5 [1] 1)).wf = false := by decide

theorem test_continuation_of_class_0_is_ill_formed :
    (Instr.continuationFrame (requestFrame 3 0 16 5 [1] 0)).wf = false := by decide

theorem test_frame_of_nine_bytes_is_ill_formed :
    (Instr.firstFrame { requestFrame 3 0 16 5 [] 0 with data := List.replicate 9 1 }).wf = false := by decide

theorem test_unknownRequest_of_a_catalogued_code_is_ill_formed : (Instr.unknownRequest 49 5 []).wf = false := by decide

theorem test_unknownRequest_of_256_bytes_is_ill_formed :
    (Instr.unknownRequest 7 5 (List.replicate 256 0)).wf = false := by decide +kernel

theorem test_unknownRequest_of_code_7_is_well_formed : (Instr.unknownRequest 7 5 [1, 2]).wf = true := by decide

/-! ### Words of the catalogue, written out from section 10.6 -/

theorem test_decode_setParameter : decodeRequest 1 [13, 0x20, 0x4E] = .request (.setParameter 13 20000) := by decide

theorem test_decode_loadArmPoint :
    decodeRequest 3 [2, 4, 0x78, 0x05, 0x8E, 0x03] = .request (.loadArmPoint 2 4 1400 910) := by decide

theorem test_decode_setOverride :
    decodeRequest 38 [0x01, 0x02, 7, 0xCC, 0x10] = .request (.setOverride 0x0201 7 4300) := by decide

theorem test_decode_setTopWatch : decodeRequest 44 [3, 0, 0xFF, 0xFF, 1] = .request (.setTopWatch 3 65535 1) := by decide

theorem test_decode_others :
    decodeRequest 20 [8] = .request (.setLockSize 8) ∧ decodeRequest 48 [2] = .request (.fell 2) ∧
      decodeRequest 64 [3, 8] = .request (.cabMeasure 3 8) ∧ decodeRequest 54 [] = .request .release := by decide

theorem test_decode_refuses :
    decodeRequest 49 [1] = .wrongLength ∧ decodeRequest 7 [] = .unknownCode ∧ decodeRequest 67 [] = .unknownCode := by decide

/-- Identifier of a request to node 5 (R176): priority 6, class 0, code 48, SH20 field 0, node 5, tag 17. -/
theorem test_request_identifier :
    (requestFrame 6 5 48 17 [2] 0).ident = 0b110_00_00110000_00000_101_00010001 := by decide

theorem test_table_gives_no_bits : decodeTableWord 8 0x31 = none := rfl

/-! ### Worked examples of the manual -/

/-- Section 2.4, the split of 260 mm over butts of 180, 140 and 100 mm. -/
theorem test_envelope_split :
    splitDivisor [180, 140, 100] = 248 ∧
      [180, 140, 100].map (estimate 3 248 260) = [189, 147, 105] ∧ estimate 3 248 61 100 = 25 ∧
      estimate 3 248 60 100 = 24 := by decide +kernel

/-- Section 4.2, one channel: (1000, 620) at index 3 and (1400, 910) at index 4 give 714 at 1130. -/
theorem test_contribution_example :
    armContribution #v[some ⟨100, 0⟩, some ⟨300, 100⟩, some ⟨700, 400⟩, some ⟨1000, 620⟩, some ⟨1400, 910⟩,
      some ⟨1800, 1200⟩, some ⟨2200, 1500⟩, some ⟨2600, 1800⟩, some ⟨3000, 2100⟩] 1130 = 714 := by decide

/-- Section 4.3, a sequence reading both pairs: 141 mm. -/
theorem test_both_pairs_example :
    let t (raw c raw' c' : Nat) : ArmTable := #v[some ⟨100, 0⟩, some ⟨200, 100⟩, some ⟨300, 400⟩, some ⟨raw, c⟩,
      some ⟨raw', c'⟩, some ⟨1800, 1200⟩, some ⟨2200, 1500⟩, some ⟨2600, 1800⟩, some ⟨3000, 2100⟩]
    let s : State := { State.reset with
      dsq.ukl := t 1000 620 1400 910, dsq.ukr := t 900 560 1300 860, dsq.frl := t 1100 600 1500 920
      dsq.frr := t 1000 580 1400 860 }
    let v (a b : BitVec 12) : Vector (BitVec 12) 8 := #v[a, b, 0, 0, 0, 0, 0, 0]
    let r : Readings := ⟨v 1129 1130, v 1089 1091, v 1250 1250, v 1159 1161⟩
    s.measured .both 2 r = 141 ∧ s.disagrees .both 2 r = false ∧
      s.measured .both 2 { r with frl := v 1500 1500, frr := v 1400 1400 } = 142 ∧
      s.disagrees .both 2 { r with frl := v 1500 1500, frr := v 1400 1400 } = true := by decide

/-- Section 3.3, conversion: 9801 pulses at constant 20000, 397 at 40000. -/
theorem test_pulses_example : pulsesToMm 9801 20000 = 4900 ∧ pulsesToMm 397 40000 = 99 := by decide

/-- Section 3.6, judging a window: w against r = 250 at 12 percent. -/
theorem test_window_example :
    [410, 480, 560, 562].map (fun w =>
      ({ rolling State.reset with lnu.window := ⟨0, 0, 0, w, 1000, 250⟩ } : State).windowDisputed) =
      [true, false, false, true] := by decide

/-- Section 6.2, diameters along one profile. -/
theorem test_diameters_example :
    let p : List (Nat × Nat) := [(0, 220), (1000, 208), (2000, 196)]
    let t := profileTaper p 2000 ⟨6, 10, 14⟩
    t = 12 ∧ [1000, 1125, 1375, 1500, 2050, 3000].map (diameterAt p t) = [208, 207, 204, 202, 195, 184] ∧
      profileTaper [(0, 220), (1000, 208)] 2000 ⟨6, 10, 14⟩ = 10 := by decide

/-- Section 6.7: the bank of the worked case. -/
def workedBank : Bank :=
  ((Vector.replicate 32 none).setIfInBounds 0 (some ⟨1, 4, 160, 600, [4300, 4900], 20,
    #v[300, 320, 340, 360, 380, 400, 420, 440], true⟩)).setIfInBounds 1 (some ⟨2, 4, 60, 400, [3000, 4000], 50,
    Vector.replicate 8 90, true⟩)

/-- Section 6.7: the snapshot of the worked case. -/
def workedSnapshot (o : Option Override) : Snapshot :=
  ⟨0, 300, 200, 2000, [⟨2, 1, true, [(0, 220), (1000, 208), (2000, 196)], ⟨6, 10, 14⟩⟩], 0, none, none, o, workedBank⟩

/-- Section 6.7: the traced plan, with its usable end, taper and origin. -/
theorem test_worked_case :
    let r := (workedSnapshot none).result 9
    r.pieces.map (fun p => (p.assortment, p.nominal, p.cutPosition, p.topDiameter, p.value)) =
      [(0, 4900, 4900, 161, 1470), (1, 4000, 8900, 113, 360), (1, 4000, 12900, 65, 360)] ∧
    r.usableEnd = some 13300 ∧ r.taper = 12 ∧ r.origin = 0 := by decide +kernel

/-- Section 6.7, variation: the override of entry 1 at 3000. -/
theorem test_worked_override :
    ((workedSnapshot (some ⟨1, 3000⟩)).result 9).pieces.map (fun p => (p.nominal, p.topDiameter, p.value, p.source)) =
      [(3000, 184, 270, .override), (4000, 136, 360, .optimizer), (3000, 100, 270, .optimizer),
        (3000, 64, 270, .optimizer)] := by decide +kernel

/-- Section 6.7, variation: an allowance of 2 (ten pieces, the last cut at 0 in this illustration). -/
theorem test_worked_allowance :
    (({ workedSnapshot none with pieceCount := 10 } : Snapshot).result 9).pieces.map (fun p => p.value) = [1470, 360] := by
  decide +kernel

/-! ### One step of a command -/

/-- The answers to loads of the UKL table, one after another. -/
def loads : List (Byte × Half × Half) → State → List (Option (Byte × Answer))
  | [], _ => []
  | (i, raw, c) :: rest, s =>
    let t := after (.loadArmPoint 5 0 i raw c) s
    answer? t :: loads rest { s with dsq := t.dsq }

/-- Section 9.1, filling the UKL table. -/
theorem test_loadArmPoint_example :
    loads [(4, 1400, 910), (3, 1000, 620), (6, 1300, 1100), (6, 2200, 1500), (5, 1800, 1600), (5, 1800, 1200),
      (4, 1400, 900), (2, 4100, 500)] State.reset =
      ([⟨.ok, [0]⟩, ⟨.ok, [0]⟩, ⟨.order, []⟩, ⟨.ok, [0]⟩, ⟨.order, []⟩, ⟨.ok, [0]⟩, ⟨.ok, [0]⟩, ⟨.range, []⟩] : List Answer).map
        (fun a => some (3, a)) := by decide

/-- R2: the counter goes from 65535 to 1 and skips the handles held, 1 and 2 here. -/
theorem test_fell_wraps_the_handle :
    (after (.fell 5 2) (configured { bunch [stem, { stem with handle := 2, fellingOrder := 2 }] 2 .holding with
      stb.nextHandle := 65535 })).stb.nextHandle = 3 := by decide

/-- Section 1.5, thinning: 64 samples at 0, 100, ..., 6300 and a result at 6403 leave 33, a step of 200 and T at 6603. -/
theorem test_sequenceComplete_thins :
    let r := { lead with profile := (List.range 64).map fun i => ⟨100 * i, 400, none, 2, ⟨false, false, false, false, false, false⟩⟩ }
    let t := after (.sequenceComplete (readings 1900))
      { measuring (.feed ⟨6403, .wheel⟩) (calibrated (bunch [r] 1 .feeding)) with lnu.trigger := 6500 }
    (t.record? 0).map (fun q => (q.profile.length, q.profile.getLast?.map (·.position), q.profileStep)) =
      some (33, some 6403, 200) ∧ t.lnu.trigger = 6603 := by decide +kernel

/-- Section 10.7's example: a ninth waiting request is lost, counted and told by its code. -/
theorem test_fell_lost_behind_eight :
    let t := after (.fell 9 2) (busy 8 6)
    t.hbp.requestsLost = 1 ∧ t.hbp.notices.length = 7 ∧ t.hbp.requests.length = 8 ∧
      t.hbp.notices.getLast? = some (.requestsLost 1 48 9) := by decide

/-- R44: in the source state ROLLER the wheel's pulse counts and moves nothing. -/
theorem test_encoderPulse_inactive :
    let t := after (.encoderPulse .wheel .forward) (rolling State.reset)
    t.lnu.wheelRun = 1 ∧ t.lnu.length = 0 ∧ t.lines.wheelA.accepted = true := by decide

/-- R152, R163: HALT_N in CUTTING ends the saw's demand at once. -/
theorem test_haltAsserted_stops_the_saw :
    (after .haltAsserted { bunch [leadNear] 1 .cutting with fcs.cutKind := some .planned }).demand.sawRun = false := by decide

/-- R174: REINITIALISE STEMS keeps the next-handle counter and the settings. -/
theorem test_reinitialiseStems_keeps :
    let t := after (.reinitialiseStems 5) (configured (bunch [lead] 1 .waiting))
    t.stb.nextHandle = 9 ∧ t.record? 0 = none ∧ t.params.wheelConstant = 20000 ∧ t.fcs.state = .idle := by decide

/-- R16, R17: a planned cut at 3005 of a piece of 3000 records actual 3005 and error 5. -/
theorem test_sawEnd_records_the_piece :
    let t := after (.sawEndAsserted .asserted) { stocked (bunch [leadNear] 1 .cutting) with
      fcs.cutKind := some .planned, lnu.length := 3005, lines.sawHome := .settled false }
    ((t.record? 0).map fun r => (r.plan.length, r.pieces.map fun p => (p.actual, p.lengthError))) =
      some (0, [(3005, some 5)]) ∧ t.fcs.state = .sawReturn := by decide

/-- R37: an envelope below end_diameter tops the bunch. -/
theorem test_sequenceComplete_tops :
    let s : State := { measuring feedTarget (calibrated (bunch [lead, second] 2 .feeding)) with params.endDiameter := 60 }
    let t := after (.sequenceComplete (readings 300)) s
    t.stb.group = [] ∧ t.fcs.state = .idle ∧ (t.record? 0).map (·.endReason) = some (some .topped) := by decide +kernel

end Sys2Proof.Tests
end

/-! PROOF. SET_SPECIES and the default top watch threshold (R8, R22): what the port makes of the request, what setting a
slot leaves of the lead and of its pass requests, and the threshold as a smallest element. -/

namespace Sys2Proof.Machine

open Sys2Proof

/-! ### The request at an idle port (R181, R187) -/

/-- A u16 is read back from its two bytes (R187). -/
theorem halfAt_halfBytes (v : Half) (rest : List Byte) : halfAt (halfBytes v ++ rest) 0 = v :=
  BitVec.extractLsb'_append_extractLsb' (w := 8) (len := 8)

/-- SET_SPECIES at an idle port is handed to the Stem Table and answered at once (R8, R181). -/
theorem exec_setSpecies_idle {s : State} (h : s.busIdle) (tag : Byte) (handle : Half) (species : Byte) :
    exec (.setSpecies tag handle species) s =
      .next ((answerSetSpecies handle.toNat species.toNat s).1.answered 37 tag
        (answerSetSpecies handle.toNat species.toNat s).2) := by
  have hd : decodeRequest (Request.setSpecies handle species).code (Request.setSpecies handle species).payload =
      .request (.setSpecies handle species) :=
    congrArg (fun v => DecodedRequest.request (.setSpecies v species)) (halfAt_halfBytes handle [species])
  exact congrArg Host.Outcome.next (State.submit_idle h tag _ hd)

/-! ### The record a handle names (R2, R7) -/

/-- The slot a handle names holds the record found. -/
theorem State.record?_of_findRecord {s : State} {handle k : Nat} {r : StemRecord}
    (h : s.findRecord handle = some (k, r)) : s.record? k = some r := by
  unfold State.findRecord at h
  split at h
  · obtain ⟨q, hq, he⟩ := Option.map_eq_some_iff.mp h
    obtain ⟨rfl, rfl⟩ := Prod.mk.inj he
    exact hq
  · cases h

/-- A request on a record whose handle, state and role are accepted acts on that record (R7). -/
theorem withRecord_found {s : State} {handle k : Nat} {r : StemRecord} (h : s.findRecord handle = some (k, r))
    {accepts : StemRecord → Bool} (ha : accepts r = true) (act : Nat → StemRecord → State × Answer) :
    withRecord handle accepts s act = act k r := by
  simp [withRecord, h, ha]

/-! ### Pass requests after a slot is set (R123) -/

/-- A member after slot k is set to a record. -/
def renewed (k : Nat) (r' : StemRecord) (m : Nat × StemRecord) : Nat × StemRecord := if m.1 = k then (k, r') else m

/-- What the new record has in common with the old one, every member keeps. -/
theorem renewed_kept {β : Type} (f : StemRecord → β) {s : State} {k : Nat} {r r' : StemRecord} (hk : s.record? k = some r)
    (hf : f r' = f r) {m : Nat × StemRecord} (hm : m ∈ s.members) : f (renewed k r' m).2 = f m.2 := by
  unfold renewed
  split
  next hi =>
    have hr : s.record? m.1 = some m.2 := (State.mem_members.mp hm).2
    rw [hi, hk] at hr
    rw [← Option.some.inj hr]
    exact hf
  next => rfl

/-- A slot set to a record of the same state leaves the state of the group. -/
theorem State.groupState_setSlot {s : State} {k : Nat} {r r' : StemRecord} (hk : s.record? k = some r)
    (hs : r'.state = r.state) : (s.setSlot k (some r')).groupState = s.groupState := by
  have hm : (s.setSlot k (some r')).members = s.members.map (renewed k r') := State.members_setSlot hk r'
  have hkept : ∀ m ∈ s.members, (renewed k r' m).2.state = m.2.state := fun m => renewed_kept _ hk hs
  unfold State.groupState
  rw [hm]
  cases hl : s.members with
  | nil => rfl
  | cons m l => simp [hkept m (by simp [hl])]

/-- A slot set to a record of the same state and role leaves the lead where it is. -/
theorem State.lead?_setSlot_kept {s : State} {k : Nat} {r r' : StemRecord} (hk : s.record? k = some r)
    (hs : r'.state = r.state) (hr : r'.role = r.role) :
    (s.setSlot k (some r')).lead? = s.lead?.map (renewed k r') := by
  have hm : (s.setSlot k (some r')).members = s.members.map (renewed k r') := State.members_setSlot hk r'
  unfold State.lead?
  rw [State.groupState_setSlot hk hs, hm,
    find?_map_kept _ _ _ fun m h => congrArg (· == some Role.lead) (renewed_kept (·.role) hk hr h)]
  split <;> rfl

/-- A slot set to a record of the same state, role and frozen flag leaves it as it is whether a pass can be asked for. -/
theorem State.plannable?_setSlot {s : State} {k : Nat} {r r' : StemRecord} (hk : s.record? k = some r)
    (hs : r'.state = r.state) (hr : r'.role = r.role) (hz : r'.frozen = r.frozen) :
    (s.setSlot k (some r')).plannable?.isSome = s.plannable?.isSome := by
  unfold State.plannable?
  rw [State.lead?_setSlot_kept hk hs hr]
  cases hl : s.lead? with
  | none => rfl
  | some m =>
    have hf : (renewed k r' m).2.frozen = m.2.frozen := renewed_kept (·.frozen) hk hz (State.mem_of_lead? hl)
    simp only [Option.map_some, hf]
    cases m.2.frozen <;> rfl

/-- A pass requested once a slot holds a record of the same state, role and frozen flag: the Bucking Engine takes the
request as it would have before, and nothing else changes (R123, R124). -/
theorem State.setSlot_requestPass {s : State} {k : Nat} {r r' : StemRecord} (hk : s.record? k = some r)
    (hs : r'.state = r.state) (hr : r'.role = r.role) (hz : r'.frozen = r.frozen) :
    ∃ b : BuckingEngine, s.Asks b ∧
      (s.setSlot k (some r')).requestPass = { s.setSlot k (some r') with bke := b } := by
  obtain ⟨hasks, heq⟩ := State.requestPass_asks (s.setSlot k (some r'))
  refine ⟨_, ?_, heq⟩
  unfold State.Asks at hasks ⊢
  rw [State.plannable?_setSlot hk hs hr hz] at hasks
  exact hasks

/-! ### SET_SPECIES by the state of the record (R8) -/

section Answers

variable {s : State} {handle species k : Nat} {r : StemRecord}

/-- A species outside 0..15 is refused. -/
theorem answerSetSpecies_range (hf : s.findRecord handle = some (k, r)) (hg : r.inGroup = true) (h : 15 < species) :
    answerSetSpecies handle species s = (s, .only .range) := by
  rw [answerSetSpecies, withRecord_found hf hg, if_pos h]

/-- The present species changes nothing. -/
theorem answerSetSpecies_equal (hf : s.findRecord handle = some (k, r)) (hg : r.inGroup = true) (h : species ≤ 15)
    (he : species = r.species) : answerSetSpecies handle species s = (s, .only .ok) := by
  rw [answerSetSpecies, withRecord_found hf hg, if_neg (by omega), if_pos he]

/-- A HELD record takes the species and nothing more. -/
theorem answerSetSpecies_held (hf : s.findRecord handle = some (k, r)) (hst : r.state = .held) (h : species ≤ 15)
    (hne : species ≠ r.species) :
    answerSetSpecies handle species s = (s.setSlot k (some { r with species := species }), .only .ok) := by
  have hg : r.inGroup = true := by simp [StemRecord.inGroup, hst]
  rw [answerSetSpecies, withRecord_found hf hg, if_neg (by omega), if_neg hne, if_pos hst]

/-- A PROCESSING record takes the species with its default threshold, and a pass is requested. -/
theorem answerSetSpecies_processing (hf : s.findRecord handle = some (k, r)) (hst : r.state = .processing)
    (h : species ≤ 15) (hne : species ≠ r.species) :
    answerSetSpecies handle species s =
      ((s.setSlot k (some (s.withSpecies r species))).requestPass, .only .ok) := by
  have hg : r.inGroup = true := by simp [StemRecord.inGroup, hst]
  rw [answerSetSpecies, withRecord_found hf hg, if_neg (by omega), if_neg hne, if_neg (by simp [hst])]

end Answers

/-- The top watch of a record with a new species: the default threshold where its origin asks for it (R8). -/
def State.watchFor (s : State) (r : StemRecord) (species : Nat) : TopWatch :=
  if r.topWatch.origin = .default then { r.topWatch with threshold := s.defaultThreshold species } else r.topWatch

/-- Species and top watch are all that a new species changes in a record. -/
theorem State.withSpecies_eq (s : State) (r : StemRecord) (species : Nat) :
    s.withSpecies r species = { r with species := species, topWatch := s.watchFor r species } := by
  unfold State.withSpecies State.watchFor
  split <;> rfl

/-! ### The default threshold (R22) -/

/-- The DEFINED ACTIVE entries whose mask includes a species. -/
def State.accepting (s : State) (species : Nat) : List Assortment :=
  (s.atb.active.toList.filterMap id).filter fun a => a.accepts species

/-- Such an entry stands at a number of the ACTIVE bank. -/
theorem State.mem_accepting {s : State} {species : Nat} {a : Assortment} :
    a ∈ s.accepting species ↔
      ∃ i : Fin 32, s.atb.active[i] = some a ∧ a.speciesMask.getLsbD species = true := by
  simp only [State.accepting, List.mem_filter, List.mem_filterMap, id, exists_eq_right, Vector.mem_toList_iff,
    Vector.mem_iff_getElem, Assortment.accepts]
  constructor
  · rintro ⟨⟨i, hi, ha⟩, hm⟩
    exact ⟨⟨i, hi⟩, ha, hm⟩
  · rintro ⟨i, ha, hm⟩
    exact ⟨⟨i.val, i.isLt, ha⟩, hm⟩

/-- A fold that keeps the least measure so far finds the least measure of the list. -/
theorem foldl_least {α : Type} {f : Option Nat → α → Option Nat} {g : α → Nat} (h0 : ∀ a, f none a = some (g a))
    (h1 : ∀ m a, f (some m) a = some (min m (g a))) : ∀ l : List α, l.foldl f none = (l.map g).min?
  | [] => rfl
  | a :: l => by
    rw [List.foldl_cons, h0, List.foldl_hom some (g₁ := fun m a => min m (g a)) fun m a => h1 m a, List.map_cons,
      List.min?_cons', List.foldl_map]

/-- The default threshold is the smallest min top diameter of these entries, or 0 (R22). -/
theorem State.defaultThreshold_eq (s : State) (species : Nat) :
    s.defaultThreshold species = ((s.accepting species).map (·.minTop)).min?.getD 0 :=
  congrArg (·.getD 0) (foldl_least (fun _ => rfl) (fun _ _ => rfl) (s.accepting species))

/-- It is not above the min top diameter of any of them. -/
theorem State.defaultThreshold_le {s : State} {species : Nat} {a : Assortment} (h : a ∈ s.accepting species) :
    s.defaultThreshold species ≤ a.minTop := by
  rw [State.defaultThreshold_eq]
  exact List.min?_getD_le_of_mem (List.mem_map_of_mem h)

/-- It is the min top diameter of one of them, or 0 where there is none. -/
theorem State.defaultThreshold_attained (s : State) (species : Nat) :
    (∃ a ∈ s.accepting species, a.minTop = s.defaultThreshold species) ∨
      (s.defaultThreshold species = 0 ∧ s.accepting species = []) := by
  rw [State.defaultThreshold_eq]
  cases hm : ((s.accepting species).map (·.minTop)).min? with
  | none => exact .inr ⟨rfl, List.map_eq_nil_iff.mp (List.min?_eq_none_iff.mp hm)⟩
  | some m => exact .inl (List.mem_map.mp (List.min?_mem hm))

/-! ### The statement -/

/-- Settles O26: SET_SPECIES case by case of its answer, the pass as `State.setSlot_requestPass` says, and the threshold as
the least element of the accepting entries. -/
theorem setSpeciesStores : Obligations.SetSpeciesStores := by
  unfold Obligations.SetSpeciesStores
  constructor
  · intro s tag h species k r hidle hf
    simp only [exec_setSpecies_idle hidle]
    refine ⟨fun hg hr => ?range, fun hg hr he => ?equal, fun hst hr hne => ?held, fun hst hr hne => ?processing⟩
    case range => rw [answerSetSpecies_range hf hg hr]; rfl
    case equal => rw [answerSetSpecies_equal hf hg hr he]; rfl
    case held => rw [answerSetSpecies_held hf hst hr hne]; rfl
    case processing =>
      rw [answerSetSpecies_processing hf hst hr hne, State.withSpecies_eq]
      obtain ⟨b, hasks, hpass⟩ := State.setSlot_requestPass
        (r' := { r with species := species.toNat, topWatch := s.watchFor r species.toNat })
        (State.record?_of_findRecord hf) rfl rfl rfl
      rw [hpass]
      exact ⟨b, hasks, rfl⟩
  · intro s species
    refine ⟨fun i a ha hm => State.defaultThreshold_le (State.mem_accepting.mpr ⟨i, ha, hm⟩), ?_⟩
    obtain ⟨a, ha, hmin⟩ | ⟨hzero, hnone⟩ := State.defaultThreshold_attained s species
    · obtain ⟨i, hi, hm⟩ := State.mem_accepting.mp ha
      exact .inl ⟨i, a, hi, hm, hmin⟩
    · refine .inr ⟨hzero, fun i a ha => ?_⟩
      by_contra hm
      have hmem : a ∈ s.accepting species := State.mem_accepting.mpr ⟨i, ha, by simpa using hm⟩
      simp [hnone] at hmem

end Sys2Proof.Machine

/-! PROOF. The contribution of a reading by a complete calibration table (R64, R65): the interpolated value between two
points as a number, what the interpolation along an ordered list of points gives below, between and above them, and a
complete table as such a list. -/

namespace Sys2Proof.Machine

open Sys2Proof

/-! ### Between two points (R65) -/

/-- Two calibration points in the order of a table (R64). -/
def CalPoint.Before (p q : CalPoint) : Prop := p.raw < q.raw ∧ p.contribution ≤ q.contribution

/-- The interpolated contribution from one point toward a later one, as a natural number: from a point on nothing is
negative, so the quotient toward zero is the natural quotient. -/
def CalPoint.toward (p q : CalPoint) (r : Nat) : Nat :=
  p.contribution + (q.contribution - p.contribution) * (r - p.raw) / (q.raw - p.raw)

namespace CalPoint

variable {p q : CalPoint} {r r' : Nat}

/-- The natural quotient is R65's quotient toward zero. -/
theorem toward_eq_tdiv (h : p.Before q) (hr : p.raw ≤ r) :
    (p.toward q r : Int) = p.contribution +
      ((q.contribution - p.contribution : Int) * (r - p.raw)).tdiv (q.raw - p.raw) := by
  obtain ⟨hraw, hcon⟩ := h
  rw [toward, Int.natCast_add, Int.ofNat_tdiv, Int.natCast_mul, Int.natCast_sub hcon, Int.natCast_sub hr,
    Int.natCast_sub hraw.le]

theorem le_toward : p.contribution ≤ p.toward q r := Nat.le_add_right _ _

theorem toward_mono (h : r ≤ r') : p.toward q r ≤ p.toward q r' := by
  unfold toward
  gcongr

theorem toward_left : p.toward q p.raw = p.contribution := by simp [toward]

theorem toward_right (h : p.Before q) : p.toward q q.raw = q.contribution := by
  rw [toward, Nat.mul_div_cancel _ (Nat.sub_pos_of_lt h.1), Nat.add_sub_cancel' h.2]

end CalPoint

/-! ### Along an ordered list of points -/

section Interpolation

variable {p q : CalPoint} {l : List CalPoint} {r r' : Nat}

/-- Below the first point its own contribution holds. -/
theorem interpolateArm_below (h : r < p.raw) : interpolateArm (p :: l) r = p.contribution := by
  cases l with
  | nil => rfl
  | cons q rest => rw [interpolateArm, if_pos h]

/-- From the first point up to the second the contribution is interpolated between the two. -/
theorem interpolateArm_first (h : p.Before q) (hp : p.raw ≤ r) (hq : r ≤ q.raw) :
    interpolateArm (p :: q :: l) r = p.toward q r := by
  have hcast := CalPoint.toward_eq_tdiv h hp
  rw [← Int.natCast_sub h.1.le] at hcast
  rw [interpolateArm, if_neg hp.not_gt, if_pos hq, towardZero, ← hcast, Int.toNat_natCast]

/-- At the first point the contribution is its own. -/
theorem interpolateArm_head (h : (p :: l).Pairwise CalPoint.Before) :
    interpolateArm (p :: l) p.raw = p.contribution := by
  cases l with
  | nil => rfl
  | cons q rest =>
    have hpq : p.Before q := List.rel_of_pairwise_cons h List.mem_cons_self
    rw [interpolateArm_first hpq le_rfl hpq.1.le, CalPoint.toward_left]

/-- From the second point on the first has no say: the two intervals agree at the point they share. -/
theorem interpolateArm_skip (h : (p :: q :: l).Pairwise CalPoint.Before) (hq : q.raw ≤ r) :
    interpolateArm (p :: q :: l) r = interpolateArm (q :: l) r := by
  have hpq : p.Before q := List.rel_of_pairwise_cons h List.mem_cons_self
  obtain rfl | hlt := hq.eq_or_lt
  · rw [interpolateArm_first hpq hpq.1.le le_rfl, CalPoint.toward_right hpq, interpolateArm_head h.of_cons]
  · rw [interpolateArm, if_neg (hpq.1.trans hlt).not_gt, if_neg hlt.not_ge]

/-- Between two neighbours of the list the contribution is interpolated between these two. -/
theorem interpolateArm_between : ∀ {l : List CalPoint} {i : Nat}, l.Pairwise CalPoint.Before →
    (hi : i + 1 < l.length) → l[i].raw ≤ r → r ≤ l[i + 1].raw → interpolateArm l r = l[i].toward l[i + 1] r
  | p :: q :: l, 0, h, _, hlo, hhi => interpolateArm_first (List.rel_of_pairwise_cons h List.mem_cons_self) hlo hhi
  | p :: q :: l, i + 1, h, hi, hlo, hhi => by
    have hq : q.raw ≤ r := by
      cases i with
      | zero => exact hlo
      | succ i => exact (List.rel_of_pairwise_cons h.of_cons (List.getElem_mem _)).1.le.trans hlo
    rw [interpolateArm_skip h hq]
    exact interpolateArm_between h.of_cons (Nat.lt_of_succ_lt_succ hi) hlo hhi

/-- From the last point on its own contribution holds. -/
theorem interpolateArm_last : ∀ {l : List CalPoint} (hne : l ≠ []), l.Pairwise CalPoint.Before →
    (l.getLast hne).raw ≤ r → interpolateArm l r = (l.getLast hne).contribution
  | [p], _, _, _ => rfl
  | p :: q :: l, _, h, hlast => by
    rw [List.getLast_cons (List.cons_ne_nil q l)] at hlast ⊢
    have hq : q.raw ≤ r := by
      cases l with
      | nil => exact hlast
      | cons x l => exact (List.rel_of_pairwise_cons h.of_cons (List.getLast_mem _)).1.le.trans hlast
    rw [interpolateArm_skip h hq]
    exact interpolateArm_last _ h.of_cons hlast

/-- No contribution is below that of the first point. -/
theorem le_interpolateArm : ∀ {p : CalPoint} {l : List CalPoint}, (p :: l).Pairwise CalPoint.Before →
    p.contribution ≤ interpolateArm (p :: l) r
  | p, [], _ => le_rfl
  | p, q :: l, h => by
    have hpq : p.Before q := List.rel_of_pairwise_cons h List.mem_cons_self
    rcases lt_or_ge r p.raw with hp | hp
    · exact (interpolateArm_below hp).ge
    rcases le_total r q.raw with hq | hq
    · exact (interpolateArm_first hpq hp hq).symm ▸ CalPoint.le_toward
    · exact (interpolateArm_skip h hq).symm ▸ hpq.2.trans (le_interpolateArm h.of_cons)

/-- The contribution does not fall as the reading rises (R65): within an interval the quotient does not, and the second
point's contribution separates the first interval from the rest. -/
theorem interpolateArm_mono (hr : r ≤ r') : ∀ {l : List CalPoint}, l.Pairwise CalPoint.Before →
    interpolateArm l r ≤ interpolateArm l r'
  | [], _ => le_rfl
  | [_], _ => le_rfl
  | p :: q :: l, h => by
    have hpq : p.Before q := List.rel_of_pairwise_cons h List.mem_cons_self
    rcases lt_or_ge r p.raw with hp | hp
    · exact (interpolateArm_below hp).trans_le (le_interpolateArm h)
    rcases le_total q.raw r with hq | hq
    · rw [interpolateArm_skip h hq, interpolateArm_skip h (hq.trans hr)]
      exact interpolateArm_mono hr h.of_cons
    rw [interpolateArm_first hpq hp hq]
    rcases le_total r' q.raw with hq' | hq'
    · rw [interpolateArm_first hpq (hp.trans hr) hq']
      exact CalPoint.toward_mono hr
    · calc p.toward q r ≤ p.toward q q.raw := CalPoint.toward_mono hq
        _ = q.contribution := CalPoint.toward_right hpq
        _ ≤ interpolateArm (q :: l) r' := le_interpolateArm h.of_cons
        _ = interpolateArm (p :: q :: l) r' := (interpolateArm_skip h hq').symm

end Interpolation

/-! ### A complete table as the list of its points (R64) -/

section CompleteTable

variable {t : ArmTable} {p : Fin 9 → CalPoint}

/-- The entries of a complete table, in order. -/
theorem ArmTable.toList_complete (h : ∀ i, t[i] = some (p i)) : t.toList = (List.ofFn p).map some := by
  refine List.ext_getElem (by simp) fun i hi _ => ?_
  rw [Vector.getElem_toList, List.getElem_map, List.getElem_ofFn]
  exact h ⟨i, by simpa using hi⟩

/-- A complete table interpolates along its nine points. -/
theorem armContribution_complete (h : ∀ i, t[i] = some (p i)) (r : Nat) :
    armContribution t r = interpolateArm (List.ofFn p) r := by
  have hc : armComplete t = true := by simp [armComplete, ArmTable.toList_complete h]
  rw [armContribution, if_pos hc, ArmTable.toList_complete h, List.filterMap_map, Function.id_comp, List.filterMap_some]

/-- The points of an ordered complete table ascend along the list. -/
theorem armOrdered.pairwise (ho : armOrdered t) (h : ∀ i, t[i] = some (p i)) :
    (List.ofFn p).Pairwise CalPoint.Before :=
  List.pairwise_ofFn.mpr fun i j hij => ho i j (p i) (p j) hij (h i) (h j)

/-- The mark ARM_LIMIT of a complete table compares with its last point. -/
theorem aboveLast_complete (h : ∀ i, t[i] = some (p i)) (r : Nat) : aboveLast t r = decide ((p 8).raw < r) := by
  have h8 : t[8] = some (p 8) := h 8
  rw [aboveLast, h8]

end CompleteTable

/-! ### The statement -/

/-- Settles O16: the nine points form an ordered list, and each clause is what interpolating along it gives there. -/
theorem contributionInterpolates : Obligations.ContributionInterpolates := by
  unfold Obligations.ContributionInterpolates
  intro t p hp hord hrange r
  have hpts := hord.pairwise hp
  have hlast : ∀ x, (p 8).raw ≤ x → interpolateArm (List.ofFn p) x = (p 8).contribution := fun x hx =>
    interpolateArm_last (l := List.ofFn p) (by simp) hpts hx
  simp only [armContribution_complete hp]
  refine ⟨fun h => ?below, fun i hlo hhi => ?between, fun h => hlast r h.le, aboveLast_complete hp r,
    fun r' hr => interpolateArm_mono hr hpts, ?bound⟩
  case below =>
    rw [List.ofFn_succ]
    exact interpolateArm_below h
  case between =>
    have hb : (p i.castSucc).Before (p i.succ) := hord _ _ _ _ Fin.castSucc_lt_succ (hp _) (hp _)
    have hi : i.val + 1 < (List.ofFn p).length := by rw [List.length_ofFn]; omega
    have hlow : (List.ofFn p)[i.val] = p i.castSucc := List.getElem_ofFn _
    have hupp : (List.ofFn p)[i.val + 1] = p i.succ := List.getElem_ofFn _
    have hv := interpolateArm_between hpts hi (hlow.symm ▸ hlo) (hupp.symm ▸ hhi)
    rw [hv, hlow, hupp, CalPoint.toward_eq_tdiv hb hlo]
  case bound =>
    calc interpolateArm (List.ofFn p) r
        ≤ interpolateArm (List.ofFn p) (max r (p 8).raw) := interpolateArm_mono (le_max_left _ _) hpts
      _ = (p 8).contribution := hlast _ (le_max_right _ _)
      _ ≤ 5000 := (hrange 8 (p 8) (hp 8)).2

end Sys2Proof.Machine

/-! PROOF. The species taper requests (R95, R96): what each answers by its check, and the one entry a write replaces. -/

namespace Sys2Proof.Machine

open Sys2Proof

/-! ### A table after a write of one entry -/

/-- The written entry is read back, and all others stand as they were. -/
theorem getElem_setIfInBounds_fin {α : Type} {n : Nat} (v : Vector α n) (k : Nat) (x : α) (i : Fin n) :
    (v.setIfInBounds k x)[i] = if i.val = k then x else v[i] := by
  simp only [Fin.getElem_fin, Vector.getElem_setIfInBounds, eq_comm]

/-! ### The requests at an idle port (R181) -/

/-- SET_SPECIES_TAPER at an idle port is handed to the Assortment Table and answered at once. -/
theorem exec_setSpeciesTaper_idle {s : State} (h : s.busIdle) (tag species lo default hi : Byte) :
    exec (.setSpeciesTaper tag species lo default hi) s =
      .next ((answerSetSpeciesTaper species.toNat lo.toNat default.toNat hi.toNat s).1.answered 5 tag
        (answerSetSpeciesTaper species.toNat lo.toNat default.toNat hi.toNat s).2) :=
  congrArg Host.Outcome.next (State.submit_idle h tag (.setSpeciesTaper species lo default hi) rfl)

/-- READ_SPECIES_TAPER at an idle port is handed to the Assortment Table and answered at once. -/
theorem exec_readSpeciesTaper_idle {s : State} (h : s.busIdle) (tag species : Byte) :
    exec (.readSpeciesTaper tag species) s =
      .next ((answerReadSpeciesTaper species.toNat s).1.answered 6 tag (answerReadSpeciesTaper species.toNat s).2) :=
  congrArg Host.Outcome.next (State.submit_idle h tag (.readSpeciesTaper species) rfl)

/-! ### The answers by the first failing check -/

section Answers

variable {s : State} {species lo default hi : Nat}

/-- A number or a value out of range comes before the order. -/
theorem answerSetSpeciesTaper_range (h : 15 < species ∨ 40 < lo ∨ 40 < default ∨ 40 < hi) :
    answerSetSpeciesTaper species lo default hi s = (s, .only .range) := by
  unfold answerSetSpeciesTaper
  by_cases hs : 15 < species
  · rw [if_pos hs]
  · rw [if_neg hs, if_pos (h.resolve_left hs)]

theorem answerSetSpeciesTaper_order (h : ¬(15 < species ∨ 40 < lo ∨ 40 < default ∨ 40 < hi))
    (ho : ¬(lo ≤ default ∧ default ≤ hi)) : answerSetSpeciesTaper species lo default hi s = (s, .only .order) := by
  obtain ⟨hs, hv⟩ := not_or.mp h
  rw [answerSetSpeciesTaper, if_neg hs, if_neg hv, if_pos ho]

theorem answerSetSpeciesTaper_ok (h : ¬(15 < species ∨ 40 < lo ∨ 40 < default ∨ 40 < hi))
    (ho : lo ≤ default ∧ default ≤ hi) :
    answerSetSpeciesTaper species lo default hi s =
      ({ s with atb.taper := s.atb.taper.setIfInBounds species ⟨lo, default, hi⟩ }, .only .ok) := by
  obtain ⟨hs, hv⟩ := not_or.mp h
  rw [answerSetSpeciesTaper, if_neg hs, if_neg hv, if_neg (not_not.mpr ho)]

theorem answerReadSpeciesTaper_range (h : 15 < species) : answerReadSpeciesTaper species s = (s, .only .range) :=
  if_pos h

/-- A species in range has its entry in the table (R94). -/
theorem State.taperOf_fin (s : State) (i : Fin 16) : s.taperOf i = s.atb.taper[i] := by
  simp [State.taperOf]

theorem answerReadSpeciesTaper_entry (i : Fin 16) :
    answerReadSpeciesTaper i s =
      (s, .okWith (u8 i ++ u8 s.atb.taper[i].tmin ++ u8 s.atb.taper[i].tdefault ++ u8 s.atb.taper[i].tmax)) := by
  rw [answerReadSpeciesTaper, if_neg (by omega), State.taperOf_fin]

end Answers

/-! ### The statement -/

/-- Settles O18: the answers case by case of the first failing check, and the entry read back from the written table. -/
theorem speciesTaperWritesAndReads : Obligations.SpeciesTaperWritesAndReads := by
  unfold Obligations.SpeciesTaperWritesAndReads
  intro s tag species lo default hi hidle badRange badOrder
  rw [exec_setSpeciesTaper_idle hidle, exec_readSpeciesTaper_idle hidle]
  refine ⟨fun hr => ?range, fun hr ho => ?order, fun hr ho => ?written, fun hr => ?readRange, fun i hi => ?read⟩
  case range => rw [answerSetSpeciesTaper_range hr]; rfl
  case order => rw [answerSetSpeciesTaper_order hr ho]; rfl
  case written =>
    rw [answerSetSpeciesTaper_ok hr (not_not.mp ho)]
    exact ⟨_, rfl, getElem_setIfInBounds_fin _ _ _⟩
  case readRange => rw [answerReadSpeciesTaper_range hr]; rfl
  case read =>
    have hb : u8 i = [species] := by rw [hi, u8, BitVec.ofNat_toNat, BitVec.setWidth_eq]
    rw [← hi, answerReadSpeciesTaper_entry, hb]
    rfl

end Sys2Proof.Machine

/-! PROOF. WRITE_ASSORTMENT and RETIRE_ASSORTMENT (R83 to R85): the image read back from its payload, the rounds of checks
as statements about slots, and the one EDIT entry an accepted request changes. -/

namespace Sys2Proof.Machine

open Sys2Proof

/-! ### Items read back from the place where they are laid (R187) -/

@[simp] theorem length_halfBytes (v : Half) : (halfBytes v).length = 2 := rfl

/-- A byte laid behind others stands at the place that counts them. -/
theorem byteAt_section {pre rest : List Byte} {b : Byte} {k : Nat} (hk : k = pre.length) :
    byteAt (pre ++ b :: rest) k = b := by
  simp [byteAt, hk]

/-- Bytes laid in front shift the places of the u16 items behind them. -/
theorem halfAt_append (pre l : List Byte) (i : Nat) : halfAt (pre ++ l) (pre.length + i) = halfAt l i := by
  simp [halfAt, byteAt, Nat.add_assoc, List.getElem?_append_right]

/-- Number i of a row of u16 items stands two bytes further for each item before it. -/
theorem halfAt_flatMap (rest : List Byte) : ∀ {l : List Half} {i : Nat} (h : i < l.length),
    halfAt (l.flatMap halfBytes ++ rest) (2 * i) = l[i]
  | v :: _, 0, _ => halfAt_halfBytes v _
  | _ :: l, _ + 1, h => halfAt_flatMap rest (l := l) (Nat.lt_of_succ_lt_succ h)

/-- The same for a row laid behind other bytes. -/
theorem halfAt_section {pre rest : List Byte} {n k i : Nat} {v : Vector Half n} (h : i < n)
    (hk : k = pre.length + 2 * i) : halfAt (pre ++ (v.toList.flatMap halfBytes ++ rest)) k = v[i] := by
  rw [hk, halfAt_append, halfAt_flatMap rest (by simpa using h), Vector.getElem_toList]

/-- A request whose items are read back from its payload decodes to itself (R181). -/
theorem decodeRequest_of_items {r : Request} (h : requestItems r.code r.payload = some r) :
    decodeRequest r.code r.payload = .request r := by
  simp [decodeRequest, catalogueLength_code, h]

/-- The items before the length slots, as the payload of a write lays them (R189). -/
def EntryImage.headBytes (number : Byte) (e : EntryImage) : List Byte :=
  number :: (halfBytes e.productCode ++ halfBytes e.speciesMask ++ halfBytes e.minTop ++ halfBytes e.maxButt ++
    [e.lengthCount])

/-- The items before the prices. -/
def EntryImage.middleBytes (number : Byte) (e : EntryImage) : List Byte :=
  EntryImage.headBytes number e ++ e.lengthSlots.toList.flatMap halfBytes ++ [e.classWidth]

theorem EntryImage.length_headBytes (number : Byte) (e : EntryImage) : (EntryImage.headBytes number e).length = 10 := rfl

theorem EntryImage.length_middleBytes (number : Byte) (e : EntryImage) :
    (EntryImage.middleBytes number e).length = 23 := by
  simp [middleBytes, length_headBytes]

/-- The payload of a write, cut before its length slots. -/
theorem EntryImage.payload_slots (number : Byte) (e : EntryImage) :
    number :: e.bytes = EntryImage.headBytes number e ++ (e.lengthSlots.toList.flatMap halfBytes ++
      e.classWidth :: (e.prices.toList.flatMap halfBytes ++ [e.groupAllowed])) := by
  simp [EntryImage.bytes, headBytes]

/-- The payload of a write, cut before its prices. -/
theorem EntryImage.payload_prices (number : Byte) (e : EntryImage) :
    number :: e.bytes = EntryImage.middleBytes number e ++ (e.prices.toList.flatMap halfBytes ++ [e.groupAllowed]) := by
  simp [payload_slots, middleBytes]

/-- The image of a write is read back from its payload (R189). -/
theorem entryImageAt_bytes (number : Byte) (e : EntryImage) : entryImageAt (number :: e.bytes) = e := by
  have hslots : (Vector.ofFn fun i : Fin 6 => halfAt (number :: e.bytes) (10 + 2 * i.val)) = e.lengthSlots := by
    ext1 i hi
    rw [Vector.getElem_ofFn, EntryImage.payload_slots, halfAt_section hi (by rw [EntryImage.length_headBytes])]
  have hwidth : byteAt (number :: e.bytes) 22 = e.classWidth := by
    rw [EntryImage.payload_slots, ← List.append_assoc]
    exact byteAt_section (by simp [EntryImage.length_headBytes])
  have hprices : (Vector.ofFn fun i : Fin 8 => halfAt (number :: e.bytes) (23 + 2 * i.val)) = e.prices := by
    ext1 i hi
    rw [Vector.getElem_ofFn, EntryImage.payload_prices, halfAt_section hi (by rw [EntryImage.length_middleBytes])]
  have hgroup : byteAt (number :: e.bytes) 39 = e.groupAllowed := by
    rw [EntryImage.payload_prices, ← List.append_assoc]
    exact byteAt_section (by simp [EntryImage.length_middleBytes])
  have hcode : halfAt (number :: e.bytes) 1 = e.productCode := halfAt_halfBytes _ []
  have hmask : halfAt (number :: e.bytes) 3 = e.speciesMask := halfAt_halfBytes _ []
  have htop : halfAt (number :: e.bytes) 5 = e.minTop := halfAt_halfBytes _ []
  have hbutt : halfAt (number :: e.bytes) 7 = e.maxButt := halfAt_halfBytes _ []
  have hcount : byteAt (number :: e.bytes) 9 = e.lengthCount := rfl
  rw [entryImageAt, hslots, hwidth, hprices, hgroup, hcode, hmask, htop, hbutt, hcount]

/-! ### The requests at an idle port (R181) -/

section Exec

variable {s : State}

/-- WRITE_ASSORTMENT at an idle port is handed to the Assortment Table and answered at once. -/
theorem exec_writeAssortment_idle (h : s.busIdle) (tag number : Byte) (e : EntryImage) :
    exec (.writeAssortment tag number e) s =
      .next ((answerWriteAssortment number.toNat e s).1.answered 16 tag (answerWriteAssortment number.toNat e s).2) :=
  have hd := decodeRequest_of_items (r := .writeAssortment number e)
    (congrArg (fun x => some (Request.writeAssortment number x)) (entryImageAt_bytes number e))
  congrArg Host.Outcome.next (State.submit_idle h tag _ hd)

/-- RETIRE_ASSORTMENT at an idle port is handed to the Assortment Table and answered at once. -/
theorem exec_retireAssortment_idle (h : s.busIdle) (tag number : Byte) :
    exec (.retireAssortment tag number) s =
      .next ((answerRetireAssortment number.toNat s).1.answered 17 tag (answerRetireAssortment number.toNat s).2) :=
  congrArg Host.Outcome.next (State.submit_idle h tag (.retireAssortment number) rfl)

end Exec

/-! ### The checks of number, lock and swap (R84, R85) -/

section Checks

variable {s : State} {n : Nat}

theorem State.editFailure?_range (h : 31 < n) : s.editFailure? n = some .range := if_pos h

theorem State.editFailure?_locked (h : n ≤ 31) (hl : n < s.atb.lockSize) : s.editFailure? n = some .locked := by
  rw [editFailure?, if_neg h.not_gt, if_pos hl]

theorem State.editFailure?_swapPending (h : n ≤ 31) (hl : s.atb.lockSize ≤ n) (hp : s.atb.swapPending = true) :
    s.editFailure? n = some .swapPending := by
  rw [editFailure?, if_neg h.not_gt, if_neg hl.not_gt, if_pos hp]

theorem State.editFailure?_none (h : n ≤ 31) (hl : s.atb.lockSize ≤ n) (hp : s.atb.swapPending = false) :
    s.editFailure? n = none := by
  rw [editFailure?, if_neg h.not_gt, if_neg hl.not_gt, if_neg (by simp [hp])]

/-- A failing check of these refuses both requests, and nothing changes. -/
theorem exec_edits_refused (hidle : s.busIdle) (tag number : Byte) (e : EntryImage) {st : Status}
    (h : s.editFailure? number.toNat = some st) :
    exec (.writeAssortment tag number e) s = .next (s.answered 16 tag ⟨st, []⟩) ∧
      exec (.retireAssortment tag number) s = .next (s.answered 17 tag ⟨st, []⟩) := by
  rw [exec_writeAssortment_idle hidle, exec_retireAssortment_idle hidle, answerWriteAssortment, answerRetireAssortment, h]
  exact ⟨rfl, rfl⟩

/-- Past them a retirement makes the entry EMPTY. -/
theorem answerRetireAssortment_ok (h : s.editFailure? n = none) :
    answerRetireAssortment n s = (s.setEdit n none, .only .ok) := by
  rw [answerRetireAssortment, h]

/-- Past them a failing content check refuses a write. -/
theorem answerWriteAssortment_failure {e : EntryImage} {st : Status} (h : s.editFailure? n = none)
    (hc : EntryImage.failure? e = some st) : answerWriteAssortment n e s = (s, .only st) := by
  rw [answerWriteAssortment, h, hc]

/-- A write whose content passes too makes the entry DEFINED. -/
theorem answerWriteAssortment_ok {e : EntryImage} (h : s.editFailure? n = none) (hc : EntryImage.failure? e = none) :
    answerWriteAssortment n e s = (s.setEdit n (some (EntryImage.assortment e)), .only .ok) := by
  rw [answerWriteAssortment, h, hc]

end Checks

/-! ### The rounds of content checks (R83) -/

/-- A list strictly ascends when each element is below all later ones. -/
theorem strictlyAscending_iff_pairwise : ∀ l : List Nat, strictlyAscending l = true ↔ l.Pairwise (· < ·)
  | [] => by simp [strictlyAscending]
  | [a] => by simp [strictlyAscending]
  | a :: b :: rest => by
    rw [strictlyAscending, Bool.and_eq_true, decide_eq_true_iff, strictlyAscending_iff_pairwise (b :: rest),
      ← List.isChain_iff_pairwise, ← List.isChain_iff_pairwise, List.isChain_cons_cons]

namespace EntryImage

variable {e : EntryImage}

theorem length_lengths (e : EntryImage) : (lengths e).length = min e.lengthCount.toNat 6 := by
  simp [lengths]

/-- Number i of the lengths is what slot i holds. -/
theorem getElem_lengths {i : Nat} (h : i < (lengths e).length) (h6 : i < 6) :
    (lengths e)[i] = e.lengthSlots[i].toNat := by
  simp [lengths]

/-- A slot counts when its number is below the length count. -/
theorem lt_length_lengths {i : Fin 6} : i.val < (lengths e).length ↔ i.val < e.lengthCount.toNat := by
  rw [length_lengths]
  omega

/-- What holds of all lengths holds of all slots that count. -/
theorem forall_mem_lengths {p : Nat → Prop} :
    (∀ l ∈ lengths e, p l) ↔ ∀ i : Fin 6, i.val < e.lengthCount.toNat → p e.lengthSlots[i].toNat := by
  rw [List.forall_mem_iff_forall_getElem]
  constructor
  · intro h i hi
    have hlt := lt_length_lengths.mpr hi
    simpa only [getElem_lengths hlt i.isLt, Fin.getElem_fin] using h i hlt
  · intro h i hlt
    have h6 : i < 6 := by rw [length_lengths] at hlt; omega
    rw [getElem_lengths hlt h6]
    exact h ⟨i, h6⟩ (lt_length_lengths (i := ⟨i, h6⟩).mp hlt)

/-- The lengths strictly ascend when those of the slots that count do. -/
theorem pairwise_lengths : (lengths e).Pairwise (· < ·) ↔
    ∀ i j : Fin 6, i < j → j.val < e.lengthCount.toNat → e.lengthSlots[i].toNat < e.lengthSlots[j].toNat := by
  rw [List.pairwise_iff_getElem]
  constructor
  · intro h i j hij hj
    have hjl := lt_length_lengths.mpr hj
    have hil : i.val < (lengths e).length := Nat.lt_trans hij hjl
    simpa only [getElem_lengths hil i.isLt, getElem_lengths hjl j.isLt, Fin.getElem_fin] using h i j hil hjl hij
  · intro h i j hil hjl hij
    have h6 : j < 6 := by rw [length_lengths] at hjl; omega
    rw [getElem_lengths hil (hij.trans h6), getElem_lengths hjl h6]
    exact h ⟨i, hij.trans h6⟩ ⟨j, h6⟩ hij (lt_length_lengths (i := ⟨j, h6⟩).mp hjl)

/-- Round 1 as a statement about the items and slots. -/
theorem rangesOk_iff (e : EntryImage) : rangesOk e = true ↔
    e.speciesMask ≠ 0 ∧ (30 ≤ e.minTop.toNat ∧ e.minTop.toNat ≤ 600) ∧
      (50 ≤ e.maxButt.toNat ∧ e.maxButt.toNat ≤ 999) ∧ (1 ≤ e.lengthCount.toNat ∧ e.lengthCount.toNat ≤ 6) ∧
      (∀ i : Fin 6, i.val < e.lengthCount.toNat → 500 ≤ e.lengthSlots[i].toNat ∧ e.lengthSlots[i].toNat ≤ 9900 ∧
        e.lengthSlots[i].toNat % 100 = 0) ∧
      (10 ≤ e.classWidth.toNat ∧ e.classWidth.toNat ≤ 100) ∧ (e.groupAllowed = 0 ∨ e.groupAllowed = 1) := by
  have hgroup : e.groupAllowed.toNat ≤ 1 ↔ e.groupAllowed = 0 ∨ e.groupAllowed = 1 := by bv_omega
  have hslots := forall_mem_lengths (e := e) (p := fun l => 500 ≤ l ∧ l ≤ 9900 ∧ l % 100 = 0)
  simp only [rangesOk, Bool.and_eq_true, bne_iff_ne, decide_eq_true_eq, List.all_eq_true, hslots, hgroup, and_assoc]

/-- Round 2 as a statement about the items and slots. -/
theorem orderOk_iff (e : EntryImage) : orderOk e = true ↔
    e.minTop.toNat < e.maxButt.toNat ∧
      ∀ i j : Fin 6, i < j → j.val < e.lengthCount.toNat → e.lengthSlots[i].toNat < e.lengthSlots[j].toNat := by
  rw [orderOk, Bool.and_eq_true, decide_eq_true_iff, strictlyAscending_iff_pairwise, pairwise_lengths]

theorem failure?_range (h : ¬rangesOk e = true) : failure? e = some .range := by
  simp [failure?, h]

theorem failure?_order (h : rangesOk e = true) (ho : ¬orderOk e = true) : failure? e = some .order := by
  simp [failure?, h, ho]

theorem failure?_none (h : rangesOk e = true) (ho : orderOk e = true) : failure? e = none := by
  simp [failure?, h, ho]

/-- The lengths of an image in range, counted out slot by slot. -/
theorem lengths_eq_map_range (h : e.lengthCount.toNat ≤ 6) :
    lengths e = (List.range e.lengthCount.toNat).map fun i => (e.lengthSlots.toList.getD i 0).toNat := by
  refine List.ext_getElem (by simp [length_lengths, h]) fun i hi hr => ?_
  have h6 : i < 6 := by rw [length_lengths] at hi; omega
  rw [getElem_lengths hi h6, List.getElem_map, List.getElem_range,
    List.getD_eq_getElem _ _ (by simpa using h6), Vector.getElem_toList]

end EntryImage

/-! ### The statement -/

/-- Settles O19: both requests by the first failing check, a write's content by its two rounds, and the entry read back from
the EDIT bank. -/
theorem entryEdits : Obligations.EntryEdits := by
  unfold Obligations.EntryEdits
  intro s tag number e hidle n write retire count ranges ordered
  have hranges : EntryImage.rangesOk e = true ↔ ranges := EntryImage.rangesOk_iff e
  have hordered : EntryImage.orderOk e = true ↔ ordered := EntryImage.orderOk_iff e
  have hwrite : write = _ := exec_writeAssortment_idle hidle tag number e
  have hretire : retire = _ := exec_retireAssortment_idle hidle tag number
  refine ⟨fun hn => exec_edits_refused hidle tag number e (State.editFailure?_range hn),
    fun hn hl => exec_edits_refused hidle tag number e (State.editFailure?_locked hn hl),
    fun hn hl hp => exec_edits_refused hidle tag number e (State.editFailure?_swapPending hn hl hp),
    fun hn hl hp => ?_⟩
  have hpass : s.editFailure? number.toNat = none := State.editFailure?_none hn hl hp
  refine ⟨fun hr => ?range, fun hr ho => ?order, ?retired, fun hr ho => ?written⟩
  case range =>
    rw [hwrite, answerWriteAssortment_failure hpass (EntryImage.failure?_range (hranges.not.mpr hr))]
    rfl
  case order =>
    rw [hwrite, answerWriteAssortment_failure hpass
      (EntryImage.failure?_order (hranges.mpr hr) (hordered.not.mpr ho))]
    rfl
  case retired =>
    rw [hretire, answerRetireAssortment_ok hpass]
    exact ⟨_, rfl, getElem_setIfInBounds_fin _ _ _⟩
  case written =>
    rw [hwrite, answerWriteAssortment_ok hpass (EntryImage.failure?_none (hranges.mpr hr) (hordered.mpr ho))]
    obtain ⟨-, -, -, ⟨-, hcount⟩, -⟩ := hr
    have hlengths := EntryImage.lengths_eq_map_range hcount
    have hgroup : (EntryImage.assortment e).groupAllowed = true ↔ e.groupAllowed = 1 := by
      rw [EntryImage.assortment, beq_iff_eq]
      bv_omega
    exact ⟨_, EntryImage.assortment e, rfl, getElem_setIfInBounds_fin _ _ _, rfl, rfl, rfl, rfl, hlengths, rfl,
      fun c => by simp [EntryImage.assortment], hgroup⟩

end Sys2Proof.Machine

/-! PROOF. LOAD_ARM_POINT (R166, R167): the nearest loaded points of a list by their places, the order test as a statement
about them, and the one point of one table an accepted request changes. -/

namespace Sys2Proof.Machine

open Sys2Proof

/-! ### The first and the last loaded place of a list -/

section LoadedPlaces

variable {α : Type} {p : α}

/-- The first value of a list stands at a place before which all are empty. -/
theorem head?_filterMap_id_iff : ∀ {l : List (Option α)},
    (l.filterMap id).head? = some p ↔ ∃ j : Nat, l[j]?.join = some p ∧ ∀ k < j, l[k]?.join = none
  | [] => by simp
  | some q :: l => by
    constructor
    · intro h
      exact ⟨0, h, fun k hk => absurd hk k.not_lt_zero⟩
    · rintro ⟨j, hj, hnone⟩
      cases j with
      | zero => exact hj
      | succ j => cases hnone 0 j.succ_pos
  | none :: l => by
    have hrest : ((none :: l).filterMap id).head? = (l.filterMap id).head? := rfl
    rw [hrest, head?_filterMap_id_iff]
    constructor
    · rintro ⟨j, hj, hnone⟩
      refine ⟨j + 1, hj, fun k hk => ?_⟩
      cases k with
      | zero => rfl
      | succ k => exact hnone k (Nat.lt_of_succ_lt_succ hk)
    · rintro ⟨j, hj, hnone⟩
      cases j with
      | zero => cases hj
      | succ j => exact ⟨j, hj, fun k hk => hnone (k + 1) (Nat.succ_lt_succ hk)⟩

/-- A place that holds a value is a place of the list. -/
theorem lt_length_of_join {l : List (Option α)} {j : Nat} (h : l[j]?.join = some p) : j < l.length := by
  by_contra hj
  rw [List.getElem?_eq_none (Nat.le_of_not_lt hj)] at h
  cases h

/-- The last value of a list stands at a place after which all are empty: the first one of the list read backwards. -/
theorem getLast?_filterMap_id_iff {l : List (Option α)} :
    (l.filterMap id).getLast? = some p ↔ ∃ j : Nat, l[j]?.join = some p ∧ ∀ k, j < k → l[k]?.join = none := by
  rw [← List.head?_reverse, ← List.filterMap_reverse, head?_filterMap_id_iff]
  constructor
  · rintro ⟨j, hj, hnone⟩
    have hlt : j < l.length := by simpa using lt_length_of_join hj
    refine ⟨l.length - 1 - j, by rwa [List.getElem?_reverse hlt] at hj, fun k hk => ?_⟩
    by_cases hkl : k < l.length
    · have h := hnone (l.length - 1 - k) (by omega)
      rwa [List.getElem?_reverse (by omega), Nat.sub_sub_self (by omega)] at h
    · rw [List.getElem?_eq_none (Nat.le_of_not_lt hkl)]; rfl
  · rintro ⟨j, hj, hnone⟩
    have hlt := lt_length_of_join hj
    refine ⟨l.length - 1 - j, ?_, fun k hk => ?_⟩
    · rwa [List.getElem?_reverse (by omega), Nat.sub_sub_self (by omega)]
    · rw [List.getElem?_reverse (by omega)]
      exact hnone _ (by omega)

end LoadedPlaces

/-! ### The neighbours and the order test (R167) -/

section Neighbours

variable {t : ArmTable} {index : Nat} {p : CalPoint}

/-- What stands at a place of a table. -/
theorem ArmTable.join_getElem?_toList (t : ArmTable) (j : Fin 9) : t.toList[j.val]?.join = t[j] := by
  simp

/-- The nearest loaded point below an index: no other lies between. -/
theorem lowerNeighbour_eq_some_iff : lowerNeighbour t index = some p ↔
    ∃ j : Fin 9, j.val < index ∧ t[j] = some p ∧ ∀ k : Fin 9, j < k → k.val < index → t[k] = none := by
  rw [lowerNeighbour, getLast?_filterMap_id_iff]
  constructor
  · rintro ⟨j, hj, hnone⟩
    obtain ⟨hji, hj9⟩ : j < index ∧ j < 9 := by simpa using lt_length_of_join hj
    refine ⟨⟨j, hj9⟩, hji, ?_, fun k hjk hki => ?_⟩
    · rwa [List.getElem?_take_of_lt hji, ArmTable.join_getElem?_toList t ⟨j, hj9⟩] at hj
    · have h := hnone k hjk
      rwa [List.getElem?_take_of_lt hki, ArmTable.join_getElem?_toList] at h
  · rintro ⟨j, hji, hj, hnone⟩
    refine ⟨j, by rwa [List.getElem?_take_of_lt hji, ArmTable.join_getElem?_toList], fun k hjk => ?_⟩
    by_contra h
    obtain ⟨q, hq⟩ := Option.ne_none_iff_exists'.mp h
    obtain ⟨hki, hk9⟩ : k < index ∧ k < 9 := by simpa using lt_length_of_join hq
    rw [List.getElem?_take_of_lt hki, ArmTable.join_getElem?_toList t ⟨k, hk9⟩, hnone ⟨k, hk9⟩ hjk hki] at hq
    cases hq

/-- The nearest loaded point above an index: no other lies between. -/
theorem upperNeighbour_eq_some_iff : upperNeighbour t index = some p ↔
    ∃ j : Fin 9, index < j.val ∧ t[j] = some p ∧ ∀ k : Fin 9, index < k.val → k < j → t[k] = none := by
  simp only [upperNeighbour, head?_filterMap_id_iff, List.getElem?_drop]
  constructor
  · rintro ⟨j, hj, hnone⟩
    have hj9 : index + 1 + j < 9 := by simpa using lt_length_of_join hj
    refine ⟨⟨_, hj9⟩, by simp only; omega, ?_, fun k hik hkj => ?_⟩
    · rwa [ArmTable.join_getElem?_toList t ⟨_, hj9⟩] at hj
    · have h := hnone (k - (index + 1)) (by have : k.val < index + 1 + j := hkj; omega)
      rwa [Nat.add_sub_cancel' hik, ArmTable.join_getElem?_toList] at h
  · rintro ⟨j, hij, hj, hnone⟩
    refine ⟨j - (index + 1), by rwa [Nat.add_sub_cancel' hij, ArmTable.join_getElem?_toList], fun k hk => ?_⟩
    have hk9 : index + 1 + k < 9 := by omega
    rw [ArmTable.join_getElem?_toList t ⟨_, hk9⟩]
    exact hnone ⟨_, hk9⟩ (by simp only; omega) (by rw [Fin.lt_def]; simp only; omega)

/-- The order test compares with the nearest loaded points, where there are such (R167). -/
theorem keepsOrder_iff : keepsOrder t index p = true ↔
    (∀ q, lowerNeighbour t index = some q → q.Before p) ∧ (∀ q, upperNeighbour t index = some q → p.Before q) := by
  cases hl : lowerNeighbour t index <;> cases hu : upperNeighbour t index <;>
    simp [keepsOrder, hl, hu, CalPoint.Before]

/-- The order test as a statement about the places of the table. -/
theorem keepsOrder_iff_places : keepsOrder t index p = true ↔
    (∀ (j : Fin 9) (q : CalPoint), j.val < index → t[j] = some q →
      (∀ k : Fin 9, j < k → k.val < index → t[k] = none) → q.Before p) ∧
    (∀ (j : Fin 9) (q : CalPoint), index < j.val → t[j] = some q →
      (∀ k : Fin 9, index < k.val → k < j → t[k] = none) → p.Before q) := by
  simp only [keepsOrder_iff, lowerNeighbour_eq_some_iff, upperNeighbour_eq_some_iff]
  constructor
  · rintro ⟨hlow, hupp⟩
    exact ⟨fun j q hj hq hk => hlow q ⟨j, hj, hq, hk⟩, fun j q hj hq hk => hupp q ⟨j, hj, hq, hk⟩⟩
  · rintro ⟨hlow, hupp⟩
    exact ⟨fun q ⟨j, hj, hq, hk⟩ => hlow j q hj hq hk, fun q ⟨j, hj, hq, hk⟩ => hupp j q hj hq hk⟩

end Neighbours

/-! ### The four tables (R64) -/

/-- A table with a point loaded at an index. -/
def ArmTable.withPoint (t : ArmTable) (index : Nat) (p : CalPoint) : ArmTable := t.setIfInBounds index (some p)

/-- The loaded point is read back, and all others stand as they were. -/
theorem ArmTable.getElem_withPoint (t : ArmTable) (index : Nat) (p : CalPoint) (i : Fin 9) :
    (t.withPoint index p)[i] = if i.val = index then some p else t[i] :=
  getElem_setIfInBounds_fin t index (some p) i

/-- A table is complete when every place of it holds a point (R64). -/
theorem armComplete_iff {t : ArmTable} : armComplete t = true ↔ ∀ i : Fin 9, t[i].isSome := by
  simp [armComplete, Fin.forall_iff]

/-- The answer's byte for it. -/
theorem yesNo_armComplete (t : ArmTable) :
    yesNo (armComplete t) = if ∀ i : Fin 9, t[i].isSome then [1] else [0] := by
  simp only [← armComplete_iff]
  cases armComplete t <;> rfl

namespace DiameterSequencer

variable (d : DiameterSequencer) (c : Channel) (t : ArmTable)

theorem table_setTable (c' : Channel) : (d.setTable c t).table c' = if c' = c then t else d.table c' := by
  cases c <;> cases c' <;> rfl

@[simp] theorem table_setTable_same : (d.setTable c t).table c = t := (d.table_setTable c t c).trans (if_pos rfl)

theorem table_setTable_other {c' : Channel} (h : c' ≠ c) : (d.setTable c t).table c' = d.table c' :=
  (d.table_setTable c t c').trans (if_neg h)

@[simp] theorem setTable_running : (d.setTable c t).running = d.running := by cases c <;> rfl

@[simp] theorem setTable_feedPending : (d.setTable c t).feedPending = d.feedPending := by cases c <;> rfl

@[simp] theorem setTable_trimPending : (d.setTable c t).trimPending = d.trimPending := by cases c <;> rfl

@[simp] theorem setTable_cabPending : (d.setTable c t).cabPending = d.cabPending := by cases c <;> rfl

end DiameterSequencer

/-- The arm numbers are 0 to 3. -/
theorem Channel.ofNumber_eq_none_iff : ∀ {n : Nat}, Channel.ofNumber n = none ↔ 3 < n
  | 0 | 1 | 2 | 3 => by decide
  | n + 4 => by simp [Channel.ofNumber]

/-! ### The answers by the first failing check (R166) -/

section Answers

variable {s : State} {arm index raw contribution : Nat} {c : Channel}

theorem answerLoadArmPoint_range (h : 3 < arm ∨ 8 < index ∨ 4095 < raw ∨ 5000 < contribution) :
    answerLoadArmPoint arm index raw contribution s = (s, .only .range) := by
  cases hc : Channel.ofNumber arm with
  | none => rw [answerLoadArmPoint, hc]
  | some c =>
    have harm : ¬3 < arm := fun h => by simp [Channel.ofNumber_eq_none_iff.mpr h] at hc
    rw [answerLoadArmPoint, hc]
    exact if_pos (h.resolve_left harm)

theorem answerLoadArmPoint_busy (hc : Channel.ofNumber arm = some c)
    (h : ¬(8 < index ∨ 4095 < raw ∨ 5000 < contribution)) (hrun : s.dsq.running.isSome) :
    answerLoadArmPoint arm index raw contribution s = (s, .only .busy) := by
  rw [answerLoadArmPoint, hc]
  exact (if_neg h).trans (if_pos hrun)

theorem answerLoadArmPoint_order (hc : Channel.ofNumber arm = some c)
    (h : ¬(8 < index ∨ 4095 < raw ∨ 5000 < contribution)) (hrun : s.dsq.running = none)
    (ho : ¬keepsOrder (s.dsq.table c) index ⟨raw, contribution⟩ = true) :
    answerLoadArmPoint arm index raw contribution s = (s, .only .order) := by
  rw [answerLoadArmPoint, hc]
  exact (if_neg h).trans ((if_neg (by simp [hrun])).trans (if_pos (by simpa using ho)))

theorem answerLoadArmPoint_ok (hc : Channel.ofNumber arm = some c)
    (h : ¬(8 < index ∨ 4095 < raw ∨ 5000 < contribution)) (hrun : s.dsq.running = none)
    (ho : keepsOrder (s.dsq.table c) index ⟨raw, contribution⟩ = true) :
    answerLoadArmPoint arm index raw contribution s =
      ({ s with dsq := s.dsq.setTable c (ArmTable.withPoint (s.dsq.table c) index ⟨raw, contribution⟩) },
        .okWith (yesNo (armComplete (ArmTable.withPoint (s.dsq.table c) index ⟨raw, contribution⟩)))) := by
  rw [answerLoadArmPoint, hc]
  exact (if_neg h).trans ((if_neg (by simp [hrun])).trans (if_neg (by simp [ho])))

end Answers

/-- LOAD_ARM_POINT at an idle port is handed to the Diameter Sequencer and answered at once (R181). -/
theorem exec_loadArmPoint_idle {s : State} (h : s.busIdle) (tag arm index : Byte) (raw contribution : Half) :
    exec (.loadArmPoint tag arm index raw contribution) s =
      .next ((answerLoadArmPoint arm.toNat index.toNat raw.toNat contribution.toNat s).1.answered 3 tag
        (answerLoadArmPoint arm.toNat index.toNat raw.toNat contribution.toNat s).2) := by
  have hraw : halfAt (Request.loadArmPoint arm index raw contribution).payload 2 = raw :=
    halfAt_halfBytes raw (halfBytes contribution)
  have hcon : halfAt (Request.loadArmPoint arm index raw contribution).payload 4 = contribution :=
    halfAt_halfBytes contribution []
  have hd := decodeRequest_of_items (r := .loadArmPoint arm index raw contribution)
    (congrArg₂ (fun x y => some (Request.loadArmPoint arm index x y)) hraw hcon)
  exact congrArg Host.Outcome.next (State.submit_idle h tag _ hd)

/-! ### The statement -/

/-- Settles O15: the answers by the first failing check, the order test by places, and the point read back from the table
that was set. -/
theorem armPointLoadsInOrder : Obligations.ArmPointLoadsInOrder := by
  unfold Obligations.ArmPointLoadsInOrder
  intro s tag arm index raw contribution hidle bad
  rw [exec_loadArmPoint_idle hidle]
  refine ⟨fun hbad => ?range, fun hbad hrun => ?busy, fun c hc hbad hrun => ?_⟩
  case range => rw [answerLoadArmPoint_range hbad]; rfl
  case busy =>
    obtain ⟨harm, hpoint⟩ := not_or.mp hbad
    obtain ⟨c, hc⟩ := Option.ne_none_iff_exists'.mp (Channel.ofNumber_eq_none_iff.not.mpr harm)
    rw [answerLoadArmPoint_busy hc hpoint hrun]
    rfl
  intro ordered
  have hpoint := (not_or.mp hbad).2
  have hordered : keepsOrder (s.dsq.table c) index.toNat ⟨raw.toNat, contribution.toNat⟩ = true ↔ ordered :=
    keepsOrder_iff_places
  refine ⟨fun ho => ?order, fun ho => ?loaded⟩
  case order =>
    rw [answerLoadArmPoint_order hc hpoint hrun (hordered.not.mpr ho)]
    rfl
  case loaded =>
    rw [answerLoadArmPoint_ok hc hpoint hrun (hordered.mpr ho), yesNo_armComplete]
    refine ⟨s.dsq.setTable c (ArmTable.withPoint (s.dsq.table c) index.toNat ⟨raw.toNat, contribution.toNat⟩), ?_,
      DiameterSequencer.setTable_running .., DiameterSequencer.setTable_feedPending ..,
      DiameterSequencer.setTable_trimPending .., DiameterSequencer.setTable_cabPending ..,
      fun c' hne => DiameterSequencer.table_setTable_other _ _ _ hne, ?_⟩
    all_goals rw [DiameterSequencer.table_setTable_same]
    · rfl
    · exact ArmTable.getElem_withPoint _ _ _

end Sys2Proof.Machine

/-! PROOF. One step of the machine taken apart once: what a request can leave, as one inductive statement with the check
each case has passed, and the parts a property has to pass through so that every step keeps it. -/

namespace Sys2Proof.Machine

open Sys2Proof

/-! ### What a command does at the Head Bus Port (R180, R181) -/

/-- A command that is a request of the catalogue submits it. -/
theorem exec_request {i : Instr} {tag : Byte} {r : Request} (h : i.request? = some (tag, r)) (s : State) :
    exec i s = .next (s.submit tag r) := by
  cases i <;> cases h <;> rfl

/-- A command with an entry for the request queue offers it. -/
theorem exec_offer {i : Instr} {e : QueueEntry} (h : queueEntry? i = some e) (s : State) :
    exec i s = .next (s.offer e) := by
  cases i <;> cases h <;> rfl

/-! ### A record that keeps its handle, state and role -/

/-- A record changed in other fields than its handle, its state and its role, and still lawful. -/
structure StemRecord.Reworks (r r' : StemRecord) : Prop where
  handle : r'.handle = r.handle
  state : r'.state = r.state
  role : r'.role = r.role
  law : r.Law → r'.Law

/-- A record unchanged. -/
theorem StemRecord.Reworks.refl (r : StemRecord) : r.Reworks r := ⟨rfl, rfl, rfl, id⟩

/-- One change after another. -/
theorem StemRecord.Reworks.trans {a b c : StemRecord} (h : a.Reworks b) (h' : b.Reworks c) : a.Reworks c :=
  ⟨h'.handle.trans h.handle, h'.state.trans h.state, h'.role.trans h.role, h'.law ∘ h.law⟩

/-- A record changed in fields that the law of a record does not name. -/
theorem StemRecord.Reworks.of_fields {r r' : StemRecord} (handle : r'.handle = r.handle) (state : r'.state = r.state)
    (role : r'.role = r.role) (why : r'.endReason = r.endReason) (plan : r'.plan = r.plan)
    (pending : r'.pendingPlan = r.pendingPlan) (value : r'.planValue = r.planValue) (frozen : r'.frozen = r.frozen)
    (pieces : r'.pieces = r.pieces) : r.Reworks r' :=
  ⟨handle, state, role, fun h => by
    simpa only [StemRecord.Law, state, role, why, plan, pending, value, frozen, pieces] using h⟩

/-- A record whose pending plan is discarded. -/
theorem StemRecord.Reworks.noPending (r : StemRecord) : r.Reworks { r with pendingPlan := none } :=
  ⟨rfl, rfl, rfl, fun ⟨h1, h2, h3, h4⟩ => ⟨h1, h2, fun h => ⟨(h3 h).1, rfl⟩, h4⟩⟩

/-! ### What a handled request can leave (R181) -/

/-- The states that the handling of a request can leave, each with what its checks have found. -/
inductive State.Handles (s : State) : State → Prop where
  | unchanged : s.Handles s
  | parameter (number v : Nat) : s.Handles (s.storeParameter number v)
  | armPoint (c : Channel) (index raw contribution : Nat) (hi : index ≤ 8) (hr : raw ≤ 4095) (hc : contribution ≤ 5000)
      (hk : keepsOrder (s.dsq.table c) index ⟨raw, contribution⟩ = true) :
      s.Handles { s with
        dsq := s.dsq.setTable c ((s.dsq.table c).setIfInBounds index (some ⟨raw, contribution⟩)) }
  | taper (species lo d hi : Nat) (h1 : lo ≤ d) (h2 : d ≤ hi) (h3 : hi ≤ 40) :
      s.Handles { s with atb.taper := s.atb.taper.setIfInBounds species ⟨lo, d, hi⟩ }
  | edit (number : Nat) (entry : Option Assortment) (h : s.editFailure? number = none) :
      s.Handles (s.setEdit number entry)
  | swap (h : s.processingCount = 0) : s.Handles (s.applySwap .atRequest)
  | swapLater : s.Handles { s with atb.swapPending := true }
  | lock (size : Nat) (h : size = 0 ∨ size = 4 ∨ size = 8 ∨ size = 16) : s.Handles (s.raiseLock size)
  | record (k : Nat) (r r' : StemRecord) (h : s.record? k = some r) (h' : r.Reworks r') :
      s.Handles (s.setSlot k (some r'))
  | recordPass (k : Nat) (r r' : StemRecord) (h : s.record? k = some r) (h' : r.Reworks r') :
      s.Handles (s.setSlot k (some r')).requestPass
  | freeze (k : Nat) (r r' : StemRecord) (h : s.record? k = some r) (h' : r.Reworks r') :
      s.Handles ((s.setSlot k (some r')).voidPassOf r.handle)
  | pass : s.Handles s.requestPass
  | retire (k : Nat) (r : StemRecord) (h : s.record? k = some r) (hf : r.finished = true) : s.Handles (s.setSlot k none)
  | fell (slot species : Nat) (hst : s.fcs.state = .idle ∨ s.fcs.state = .holding) (hs : s.freeSlot? = some slot)
      (hg : s.stb.group.length < 4) (ht : s.dsq.trimBusy = false) : s.Handles (s.acceptFell slot species)
  | start (hst : s.fcs.state = .holding) : s.Handles s.startGroup.enterWaiting
  | resume (hst : s.fcs.state = .paused) : s.Handles s.enterFeeding
  | await (hst : s.fcs.state = .paused) : s.Handles s.enterWaiting
  | stop (hst : s.fcs.state = .feeding ∨ s.fcs.state = .creeping ∨ s.fcs.state = .reversing ∨
      s.fcs.state = .settling ∨ s.fcs.state = .waiting) : s.Handles (s.enterPaused .stopRequest)
  | stopCut (hst : s.fcs.state = .cutting) : s.Handles s.stopCut
  | stopFelling (hst : s.fcs.state = .felling) : s.Handles s.stopFelling
  | cut (kind : CutKind) (hst : s.fcs.state = .paused ∨ s.fcs.state = .atTarget) : s.Handles (s.startCut kind)
  | drop (hst : s.fcs.state = .holding) : s.Handles s.dropTop
  | release (hst : s.fcs.state = .holding ∨ s.fcs.state = .paused ∨ s.fcs.state = .atTarget ∨ s.fcs.state = .waiting) :
      s.Handles s.release
  | cab (c : CabRequest) (h : s.dsq.cabBusy = false) : s.Handles (State.arbitrate { s with dsq.cabPending := some c })
  | status : s.Handles { s with hbp.requestsLost := 0, hbp.noticesLost := 0 }
  | stems : s.Handles s.reinitialiseStems
  | all : s.Handles s.reinitialiseAll

section Handles

variable (s : State)

/-- The slot a handle names holds the record found. -/
theorem State.Handles.withRecord {handle : Nat} {accepts : StemRecord → Bool} {act : Nat → StemRecord → State × Answer}
    (h : ∀ k r, s.record? k = some r → accepts r = true → s.Handles (act k r).1) :
    s.Handles (withRecord handle accepts s act).1 := by
  unfold Machine.withRecord
  split
  · exact .unchanged
  · rename_i k r hf
    split
    · exact h k r (State.record?_of_findRecord hf) ‹_›
    · exact .unchanged

/-- A read leaves the state. -/
theorem State.Handles.readRecord (handle : Nat) (a : StemRecord → Answer) : s.Handles (readRecord handle s a).1 := by
  unfold Machine.readRecord
  split <;> exact .unchanged

theorem answerSetParameter_handles (n v : Nat) : s.Handles (answerSetParameter n v s).1 := by
  unfold answerSetParameter
  split
  · exact .unchanged
  · split
    · exact .unchanged
    · split
      · exact .unchanged
      · exact .parameter _ _

theorem answerLoadArmPoint_handles (a i raw c : Nat) : s.Handles (answerLoadArmPoint a i raw c s).1 := by
  unfold answerLoadArmPoint
  split
  · exact .unchanged
  · split
    · exact .unchanged
    · split
      · exact .unchanged
      · split
        · exact .unchanged
        · rename_i hr _ hk
          exact .armPoint _ i raw c (by omega) (by omega) (by omega) (by simpa using hk)

theorem answerSetSpeciesTaper_handles (sp lo d hi : Nat) : s.Handles (answerSetSpeciesTaper sp lo d hi s).1 := by
  unfold answerSetSpeciesTaper
  split
  · exact .unchanged
  · split
    · exact .unchanged
    · split
      · exact .unchanged
      · exact .taper _ _ _ _ (by omega) (by omega) (by omega)

theorem answerWriteAssortment_handles (n : Nat) (e : EntryImage) : s.Handles (answerWriteAssortment n e s).1 := by
  unfold answerWriteAssortment
  split
  · exact .unchanged
  · split
    · exact .unchanged
    · exact .edit _ _ ‹_›

theorem answerRetireAssortment_handles (n : Nat) : s.Handles (answerRetireAssortment n s).1 := by
  unfold answerRetireAssortment
  split
  · exact .unchanged
  · exact .edit _ _ ‹_›

theorem answerSwapBanks_handles : s.Handles (answerSwapBanks s).1 := by
  unfold answerSwapBanks
  split
  · exact .swap ‹_›
  · exact .swapLater

theorem answerSetLockSize_handles (n : Nat) : s.Handles (answerSetLockSize n s).1 := by
  unfold answerSetLockSize
  split
  · exact .unchanged
  · rename_i hn
    split
    · exact .unchanged
    · split
      · exact .unchanged
      · split
        · exact .unchanged
        · exact .lock _ (by simp only [Bool.not_eq_true', Bool.or_eq_true, beq_iff_eq, Bool.not_eq_false] at hn; omega)

theorem answerSetSpecies_handles (h sp : Nat) : s.Handles (answerSetSpecies h sp s).1 := by
  refine State.Handles.withRecord s fun k r hr _ => ?_
  split
  · exact .unchanged
  · split
    · exact .unchanged
    · split
      · exact .record k r _ hr (.of_fields rfl rfl rfl rfl rfl rfl rfl rfl rfl)
      · refine .recordPass k r _ hr ?_
        unfold State.withSpecies
        split <;> exact .of_fields rfl rfl rfl rfl rfl rfl rfl rfl rfl

theorem answerSetOverride_handles (h a l : Nat) : s.Handles (answerSetOverride h a l s).1 := by
  refine State.Handles.withRecord s fun k r hr _ => ?_
  split
  · exact .unchanged
  · exact .recordPass k r _ hr (.of_fields rfl rfl rfl rfl rfl rfl rfl rfl rfl)

theorem answerClearOverride_handles (h : Nat) : s.Handles (answerClearOverride h s).1 := by
  refine State.Handles.withRecord s fun k r hr _ => ?_
  split
  · exact .unchanged
  · exact .recordPass k r _ hr (.of_fields rfl rfl rfl rfl rfl rfl rfl rfl rfl)

/-- A leading record is PROCESSING with role LEAD (R7). -/
theorem StemRecord.leads_iff (r : StemRecord) : r.leads = true ↔ r.state = .processing ∧ r.role = some .lead := by
  simp [StemRecord.leads]

/-- The frozen flag of a leading record is free in the law of a record. -/
theorem StemRecord.Reworks.ofFrozen {r : StemRecord} (h : r.leads = true) (b : Bool) (o : Option PassResult) :
    r.Reworks { r with frozen := b, pendingPlan := o } := by
  obtain ⟨hs, hr⟩ := r.leads_iff.mp h
  refine ⟨rfl, rfl, rfl, fun ⟨h1, h2, h3, h4, h5⟩ => ⟨h1, h2, fun hne => absurd hr hne, h4, fun hst => ?_⟩⟩
  simp [hs] at hst

theorem answerFreezePlan_handles (h : Nat) : s.Handles (answerFreezePlan h s).1 := by
  refine State.Handles.withRecord s fun k r hr ha => ?_
  split
  · exact .unchanged
  · exact .freeze k r _ hr (.ofFrozen ha true none)

theorem answerThawPlan_handles (h : Nat) : s.Handles (answerThawPlan h s).1 := by
  refine State.Handles.withRecord s fun k r hr ha => ?_
  split
  · exact .unchanged
  · exact .recordPass k r _ hr (.ofFrozen ha false r.pendingPlan)

theorem answerSetUpdateMode_handles (h m : Nat) : s.Handles (answerSetUpdateMode h m s).1 := by
  refine State.Handles.withRecord s fun k r hr _ => ?_
  have hw : r.Reworks { r with updateMode := .immediate, pendingPlan := none } :=
    (StemRecord.Reworks.noPending r).trans (.of_fields rfl rfl rfl rfl rfl rfl rfl rfl rfl)
  split
  · exact .unchanged
  · exact .record k r _ hr (.of_fields rfl rfl rfl rfl rfl rfl rfl rfl rfl)
  · split
    · exact .unchanged
    · dsimp only
      split
      · exact .recordPass k r _ hr hw
      · exact .record k r _ hr hw

theorem answerReplan_handles (h : Nat) : s.Handles (answerReplan h s).1 := by
  refine State.Handles.withRecord s fun k r hr _ => ?_
  split
  · exact .unchanged
  · exact .pass

theorem answerSetTopWatch_handles (h th m : Nat) : s.Handles (answerSetTopWatch h th m s).1 := by
  refine State.Handles.withRecord s fun k r hr _ => ?_
  split
  · exact .record k r _ hr (.of_fields rfl rfl rfl rfl rfl rfl rfl rfl rfl)
  · exact .unchanged
  · exact .unchanged

theorem answerRetireStem_handles (h : Nat) : s.Handles (answerRetireStem h s).1 :=
  State.Handles.withRecord s fun k r hr ha => .retire k r hr ha

theorem answerFell_handles (sp : Nat) : s.Handles (answerFell sp s).1 := by
  unfold answerFell
  split
  · exact .unchanged
  · rename_i hst
    split
    · exact .unchanged
    · split
      · exact .unchanged
      · split
        · exact .unchanged
        · rename_i slot hslot
          split
          · exact .unchanged
          · split
            · exact .unchanged
            · split
              · exact .unchanged
              · exact .fell slot sp (not_not.mp hst) hslot (by omega) (by simpa using ‹¬s.dsq.trimBusy = true›)

theorem feedInHolding_handles (h : s.fcs.state = .holding) : s.Handles (feedInHolding s).1 := by
  unfold feedInHolding
  split
  · exact .unchanged
  · split
    · exact .unchanged
    · dsimp only
      exact .start h

theorem feedInPaused_handles (h : s.fcs.state = .paused) : s.Handles (feedInPaused s).1 := by
  unfold feedInPaused
  split
  · exact .unchanged
  · split
    · exact .resume h
    · split
      · exact .await h
      · exact .unchanged

theorem answerFeed_handles : s.Handles (answerFeed s).1 := by
  unfold answerFeed
  split
  · exact feedInHolding_handles s ‹_›
  · exact feedInPaused_handles s ‹_›
  all_goals exact .unchanged

theorem answerStop_handles : s.Handles (answerStop s).1 := by
  unfold answerStop
  split
  · exact .stop (.inl ‹_›)
  · exact .stop (.inr (.inl ‹_›))
  · exact .stop (.inr (.inr (.inl ‹_›)))
  · exact .stop (.inr (.inr (.inr (.inl ‹_›))))
  · exact .stop (.inr (.inr (.inr (.inr ‹_›))))
  · exact .stopCut ‹_›
  · exact .stopFelling ‹_›
  all_goals exact .unchanged

theorem State.cutReady_state {s : State} (h : s.cutReady = true) : s.fcs.state = .paused ∨ s.fcs.state = .atTarget := by
  unfold State.cutReady at h
  split at h <;> simp_all

theorem answerCut_handles : s.Handles (answerCut s).1 := by
  unfold answerCut
  split
  · exact .unchanged
  · rename_i hr
    split
    · exact .unchanged
    · exact .cut _ (State.cutReady_state (by simpa using hr))

theorem answerCutHere_handles : s.Handles (answerCutHere s).1 := by
  unfold answerCutHere
  split
  · exact .unchanged
  · rename_i hst
    split
    · exact .unchanged
    · split
      · exact .unchanged
      · split
        · exact .unchanged
        · split
          · exact .unchanged
          · exact .cut _ (not_not.mp hst)

theorem answerDrop_handles : s.Handles (answerDrop s).1 := by
  unfold answerDrop
  split
  · exact .drop ‹_›
  · exact .unchanged

theorem answerRelease_handles : s.Handles (answerRelease s).1 := by
  unfold answerRelease
  split
  case h_1 hst => exact .release (.inl hst)
  case h_2 hst => exact .release (.inr (.inl hst))
  case h_3 hst => exact .release (.inr (.inr (.inl hst)))
  case h_4 hst => exact .release (.inr (.inr (.inr hst)))
  all_goals exact .unchanged

theorem answerCabMeasure_handles (tag : Byte) (m n : Nat) : s.Handles (answerCabMeasure tag m n s).1 := by
  unfold answerCabMeasure
  split
  · exact .unchanged
  · split
    · exact .unchanged
    · split
      · exact .unchanged
      · split
        · exact .unchanged
        · exact .cab _ (by simpa using ‹¬s.dsq.cabBusy = true›)

theorem answerReinitialise_handles (n : Nat) : s.Handles (answerReinitialise n s).1 := by
  unfold answerReinitialise
  split
  · exact .stems
  · exact .all
  · exact .unchanged

theorem answerReadParameter_handles (n : Nat) : s.Handles (answerReadParameter n s).1 := by
  unfold answerReadParameter
  split <;> exact .unchanged

theorem answerReadArmTable_handles (a : Nat) : s.Handles (answerReadArmTable a s).1 := by
  unfold answerReadArmTable
  split <;> exact .unchanged

theorem answerReadSpeciesTaper_handles (sp : Nat) : s.Handles (answerReadSpeciesTaper sp s).1 := by
  unfold answerReadSpeciesTaper
  split <;> exact .unchanged

theorem answerReadAssortment_handles (b n : Nat) : s.Handles (answerReadAssortment b n s).1 := by
  unfold answerReadAssortment
  split <;> exact .unchanged

/-- A handled request leaves one of these states. -/
theorem handleRequest_handles (tag : Byte) (r : Request) : s.Handles (handleRequest tag r s).1 := by
  cases r with
  | setParameter n v => exact answerSetParameter_handles s _ _
  | readParameter n => exact answerReadParameter_handles s _
  | loadArmPoint a i raw c => exact answerLoadArmPoint_handles s _ _ _ _
  | readArmTable a => exact answerReadArmTable_handles s _
  | setSpeciesTaper sp lo d hi => exact answerSetSpeciesTaper_handles s _ _ _ _
  | readSpeciesTaper sp => exact answerReadSpeciesTaper_handles s _
  | writeAssortment n e => exact answerWriteAssortment_handles s _ _
  | retireAssortment n => exact answerRetireAssortment_handles s _
  | readAssortment b n => exact answerReadAssortment_handles s _ _
  | swapBanks => exact answerSwapBanks_handles s
  | setLockSize n => exact answerSetLockSize_handles s _
  | listStems => exact .unchanged
  | readStem h => exact State.Handles.readRecord s _ _
  | readProfile h f c => exact State.Handles.readRecord s _ _
  | readPlan h w => exact State.Handles.readRecord s _ _
  | readPieces h => exact State.Handles.readRecord s _ _
  | setSpecies h sp => exact answerSetSpecies_handles s _ _
  | setOverride h a l => exact answerSetOverride_handles s _ _ _
  | clearOverride h => exact answerClearOverride_handles s _
  | freezePlan h => exact answerFreezePlan_handles s _
  | thawPlan h => exact answerThawPlan_handles s _
  | setUpdateMode h m => exact answerSetUpdateMode_handles s _ _
  | replan h => exact answerReplan_handles s _
  | setTopWatch h th m => exact answerSetTopWatch_handles s _ _ _
  | retireStem h => exact answerRetireStem_handles s _
  | fell sp => exact answerFell_handles s _
  | feed => exact answerFeed_handles s
  | stop => exact answerStop_handles s
  | cut => exact answerCut_handles s
  | cutHere => exact answerCutHere_handles s
  | drop => exact answerDrop_handles s
  | release => exact answerRelease_handles s
  | cabMeasure m n => exact answerCabMeasure_handles s _ _ _
  | readStatus => exact .status
  | reinitialise scope => exact answerReinitialise_handles s _

end Handles

/-- A handled request leaves the lines. -/
theorem State.Handles.lines {s t : State} (h : s.Handles t) : t.lines = s.lines := by
  cases h <;> simp [State.reinitialiseStems, State.reinitialiseAll, State.clearConfiguration]

end Sys2Proof.Machine

/-! PROOF. The parts of a step: a property of the blocks beside the Head Bus Port passes through every step once it passes
through power-on, the handling of a request, the consumers of line events, the timers and the two completions. -/

namespace Sys2Proof.Machine

open Sys2Proof

/-! ### Blocks beside the Head Bus Port, the lines and the waiting commands -/

/-- The seven blocks beside the Head Bus Port, the lines and the waiting commands are the same. -/
def State.SameBlocks (s t : State) : Prop :=
  t.stb = s.stb ∧ t.lnu = s.lnu ∧ t.dsq = s.dsq ∧ t.atb = s.atb ∧ t.bke = s.bke ∧ t.fcs = s.fcs ∧ t.params = s.params

/-- What the Head Bus Port does with its queues and frames is its own. -/
theorem State.bus_blocks (s : State) : (∀ e, s.SameBlocks (s.offerRequest e)) ∧ s.SameBlocks s.transmit ∧
    s.SameBlocks s.discardPartial ∧ (∀ f, s.SameBlocks (s.joinFirst f)) ∧ (∀ f, s.SameBlocks (s.joinContinuation f)) ∧
    s.SameBlocks s.completeFrame := by
  simp [State.SameBlocks]

/-- A step of an encoder's lines is the lines' alone. -/
theorem State.line_blocks (s : State) : (∀ e d, s.SameBlocks (s.stepEncoder e d)) ∧ ∀ e, s.SameBlocks (s.flipEncoder e) := by
  simp [State.SameBlocks]

/-! ### What a command can leave -/

/-- The states that a command can leave, each with what its check has found. -/
inductive State.Runs (s : State) : State → Prop where
  | unchanged : s.Runs s
  | powerOn (node : BitVec 3) (pins : PinLevels) : s.Runs (.powerOn node pins s.pending)
  | offer (e : QueueEntry) : s.Runs (s.offer e)
  | joinFirst (f : Frame) : s.Runs (s.joinFirst f).goOn
  | joinContinuation (f : Frame) : s.Runs (s.joinContinuation f).goOn
  | gap : s.Runs s.discardPartial.goOn
  | frameSent : s.Runs s.completeFrame.goOn
  | pulse (e : Encoder) (d : Direction) : s.Runs ((s.stepEncoder e d).pulse e d).transmit
  | fault (e : Encoder) : s.Runs ((s.flipEncoder e).countQuadratureFault e).transmit
  | contact (level : Bool) : s.Runs (s.contactChanged level).transmit
  | sawLine (l : InputLines) (h : l.halt = s.lines.halt) : s.Runs { s with lines := l }
  | sawEnd : s.Runs (State.sawEndAsserts { s with lines.sawEnd := .settled true }).transmit
  | sawHome : s.Runs (State.sawHomeAsserts { s with lines.sawHome := .settled true }).transmit
  | haltOn (h : s.lines.halt.accepted = false) :
      s.Runs (State.haltAsserts { s with lines.halt := .settled true }).transmit
  | haltOff (h : s.lines.halt.accepted = true) :
      s.Runs (State.haltReleases { s with lines.halt := .settled false }).transmit
  | settle (h : s.fcs.settleTimer.isSome) : s.Runs s.settleExpires.transmit
  | saw (h : s.fcs.sawTimer.isSome) : s.Runs s.sawExpires.transmit
  | home (h : s.fcs.homeTimer.isSome) : s.Runs s.homeExpires.transmit
  | stall (h : s.fcs.stallTimer.isSome) : s.Runs s.stallExpires.transmit
  | sequence (q : RunningSequence) (r : Readings) (h : s.dsq.running = some q) : s.Runs (s.finishSequence q r).transmit
  | pass (p : Pass) (h : s.bke.inFlight = some p) : s.Runs (s.finishPass p).completionReport.transmit

/-- The outcome of a command that goes on to a state it can leave. -/
def State.RunsTo (s : State) (o : Host.Outcome State Fault Refusal) : Prop := ∃ t, o = .next t ∧ s.Runs t

/-- Of a check both branches are looked at. -/
theorem State.RunsTo.ite {s : State} {p : Prop} [Decidable p] {a b : Host.Outcome State Fault Refusal}
    (ha : p → s.RunsTo a) (hb : ¬p → s.RunsTo b) : s.RunsTo (if p then a else b) := by
  split
  · exact ha ‹_›
  · exact hb ‹_›

/-- Every command goes on to one of these states. -/
theorem exec_runs (c : Instr) (s : State) : s.RunsTo (exec c s) := by
  have stays : s.RunsTo (.next s) := ⟨s, rfl, .unchanged⟩
  cases hq : queueEntry? c with
  | some e => exact ⟨_, exec_offer hq s, .offer e⟩
  | none =>
    cases c with
    | powerOn node pins => exact ⟨_, rfl, .powerOn node pins⟩
    | firstFrame f => exact .ite (fun _ => ⟨_, rfl, .joinFirst f⟩) fun _ => stays
    | continuationFrame f => exact .ite (fun _ => ⟨_, rfl, .joinContinuation f⟩) fun _ => stays
    | gapTimerExpiry => exact ⟨_, rfl, .gap⟩
    | frameSent => exact ⟨_, rfl, .frameSent⟩
    | encoderPulse e d => exact ⟨_, rfl, .pulse e d⟩
    | quadratureFault e => exact ⟨_, rfl, .fault e⟩
    | wheelContactChange level => exact .ite (fun _ => stays) fun _ => ⟨_, rfl, .contact level⟩
    | sawEndAsserted edge =>
      cases edge with
      | asserted => exact ⟨_, rfl, .sawEnd⟩
      | deasserted => exact ⟨_, rfl, .sawLine _ rfl⟩
    | sawHomeAsserted edge =>
      cases edge with
      | asserted => exact ⟨_, rfl, .sawHome⟩
      | deasserted => exact ⟨_, rfl, .sawLine _ rfl⟩
    | haltAsserted => exact .ite (fun _ => stays) fun h => ⟨_, rfl, .haltOn (Bool.not_eq_true _ ▸ h)⟩
    | haltReleased => exact .ite (fun h => ⟨_, rfl, .haltOff h⟩) fun _ => stays
    | settleTimerExpiry => exact .ite (fun h => ⟨_, rfl, .settle h⟩) fun _ => stays
    | sawTimerExpiry => exact .ite (fun h => ⟨_, rfl, .saw h⟩) fun _ => stays
    | homeTimerExpiry => exact .ite (fun h => ⟨_, rfl, .home h⟩) fun _ => stays
    | stallTimerExpiry => exact .ite (fun h => ⟨_, rfl, .stall h⟩) fun _ => stays
    | sequenceComplete r =>
      simp only [exec, execSequenceComplete]
      split
      · exact ⟨_, rfl, .sequence _ r ‹_›⟩
      · exact stays
    | passComplete =>
      simp only [exec, execPassComplete]
      split
      · exact ⟨_, rfl, .pass _ ‹_›⟩
      · exact stays
    | _ => cases hq

/-! ### The parts of a step -/

/-- What P has to pass through so that a step takes it to Q. P and Q speak of the level that filtered HALT_N has, since a
sample of the lines accepts that level before the sequencer acts on it (R43, R161). -/
structure StepParts (P Q : Bool → State → Prop) : Prop where
  blocks {b : Bool} {s t : State} : P b s → s.SameBlocks t → P b t
  blocks' {b : Bool} {s t : State} : Q b s → s.SameBlocks t → Q b t
  weaken {b : Bool} {s : State} : P b s → Q b s
  powerOn (node : BitVec 3) (pins : PinLevels) (pending : List Instr) : Q false (.powerOn node pins pending)
  request {s t : State} : s.Handles t → P s.lines.halt.accepted s → Q s.lines.halt.accepted t
  pulse {b : Bool} {s : State} (e : Encoder) (d : Direction) : P b s → P b (s.pulse e d)
  fault {b : Bool} {s : State} (e : Encoder) : P b s → P b (s.countQuadratureFault e)
  contact {b : Bool} {s : State} (level : Bool) : P b s → P b (s.contactChanged level)
  sawEnd {b : Bool} {s : State} : P b s → P b s.sawEndAsserts
  sawHome {b : Bool} {s : State} : P b s → P b s.sawHomeAsserts
  haltOn {s : State} : P false s → P true s.haltAsserts
  haltOff {s : State} : P true s → P false s.haltReleases
  count {b : Bool} {s : State} : P b s → P b s.countTimers
  settle {b : Bool} {s : State} : s.fcs.settleTimer.isSome → P b s → P b s.settleExpires
  saw {b : Bool} {s : State} : s.fcs.sawTimer.isSome → P b s → P b s.sawExpires
  home {b : Bool} {s : State} : s.fcs.homeTimer.isSome → P b s → P b s.homeExpires
  stall {b : Bool} {s : State} : s.fcs.stallTimer.isSome → P b s → P b s.stallExpires
  sequence {b : Bool} {s : State} {q : RunningSequence} (r : Readings) :
    s.dsq.running = some q → P b s → Q b (s.finishSequence q r)
  pass {b : Bool} {s : State} {p : Pass} : s.bke.inFlight = some p → P b s → P b (s.finishPass p).completionReport

/-- A change of contact sets the line of the contact and no other. -/
theorem State.contactChanged_lines (s : State) (level : Bool) :
    (s.contactChanged level).lines = { s.lines with wheelContact := .settled level } := by
  unfold State.contactChanged
  cases level <;> simp

/-- A handled entry leaves the lines. -/
theorem handleEntry_lines (e : QueueEntry) (s : State) : (handleEntry e s).1.lines = s.lines := by
  unfold handleEntry
  split
  · rfl
  · split
    · rfl
    · rfl
    · exact (handleRequest_handles s _ _).lines

/-- Service and the transmitter leave the lines. -/
theorem State.goOn_lines (s : State) : s.goOn.lines = s.lines := by
  unfold State.goOn State.serve
  split
  · simp [State.serveEntry, handleEntry_lines]
  · simp
  · simp

/-- The timers leave the lines. -/
theorem State.expire_lines (s : State) : s.expireTimer.lines = s.lines ∧ s.expireGap.lines = s.lines := by
  unfold State.expireTimer State.expireGap
  constructor <;> (repeat' split) <;> simp

/-- The samples of the encoder lines leave the line of HALT_N. -/
theorem State.sampleEncodersTimes_halt (k : Nat) (s : State) :
    (State.sampleEncodersTimes k s).lines.halt = s.lines.halt := by
  induction k generalizing s with
  | zero => rfl
  | succ k ih =>
    have hstep : ∀ (t : State) (e : Encoder) (q : QuadratureStep), (t.takeStep e q).lines = t.lines := by
      intro t e q
      cases q <;> simp [State.takeStep]
    rw [State.sampleEncodersTimes, ih, State.sampleEncoders]
    simp only [hstep]

/-- A timer that is due runs. -/
theorem isSome_of_timerDue {t : Option Nat} {n : Nat} (h : timerDue t n = true) : t.isSome := by
  cases t <;> simp_all [timerDue]

namespace StepParts

variable {P Q : Bool → State → Prop} (h : StepParts P Q)
include h

/-! ### Service and the transmitter -/

/-- A served entry is answered by the port itself, or its request is handled (R181). -/
theorem serveEntry {s : State} (e : QueueEntry) (hs : P s.lines.halt.accepted s) :
    Q s.lines.halt.accepted (s.serveEntry e) := by
  have hq : Q s.lines.halt.accepted (handleEntry e s).1 := by
    unfold handleEntry
    split
    · exact h.weaken hs
    · split
      · exact h.weaken hs
      · exact h.weaken hs
      · exact h.request (handleRequest_handles s _ _) hs
  exact h.blocks' hq ⟨rfl, rfl, rfl, rfl, rfl, rfl, rfl⟩

/-- Service takes one entry at most. -/
theorem serve {s : State} (hs : P s.lines.halt.accepted s) : Q s.lines.halt.accepted s.serve := by
  unfold State.serve
  split
  · rename_i e rest _ _
    exact h.serveEntry (s := { s with hbp.requests := rest }) e (h.blocks hs ⟨rfl, rfl, rfl, rfl, rfl, rfl, rfl⟩)
  · exact h.weaken hs
  · exact h.weaken hs

/-- Service and the transmitter's choice. -/
theorem goOn {s : State} (hs : P s.lines.halt.accepted s) : Q s.lines.halt.accepted s.goOn :=
  h.blocks' (h.serve hs) s.serve.bus_blocks.2.1

/-- An offered entry, served where service is free. -/
theorem offer {s : State} (e : QueueEntry) (hs : P s.lines.halt.accepted s) : Q s.lines.halt.accepted (s.offer e) := by
  have hl : (s.offerRequest e).lines = s.lines := by simp
  have := h.goOn (s := s.offerRequest e) (by rw [hl]; exact h.blocks hs (s.bus_blocks.1 e))
  rwa [hl] at this

/-! ### The idle millisecond (log 3) -/

/-- A timer of the sequencer that is due expires. -/
theorem expireTimer {b : Bool} {s : State} (hs : P b s) : P b s.expireTimer := by
  unfold State.expireTimer
  split
  · exact h.settle (isSome_of_timerDue ‹_›) hs
  · split
    · exact h.saw (isSome_of_timerDue ‹_›) hs
    · split
      · exact h.home (isSome_of_timerDue ‹_›) hs
      · split
        · exact h.stall (isSome_of_timerDue ‹_›) hs
        · exact hs

/-- The gap timer is the Head Bus Port's alone. -/
theorem expireGap {b : Bool} {s : State} (hs : P b s) : P b s.expireGap := by
  unfold State.expireGap
  split
  · split
    · exact h.blocks hs s.bus_blocks.2.2.1
    · exact hs
  · exact hs

/-- A pulse or a fault that a sample shows. -/
theorem takeStep {b : Bool} {s : State} (e : Encoder) (q : QuadratureStep) (hs : P b s) : P b (s.takeStep e q) := by
  cases q with
  | same => exact hs
  | pulse d => exact h.pulse e d hs
  | fault => exact h.fault e hs

/-- The samples of the encoder lines. -/
theorem sampleEncodersTimes {b : Bool} (k : Nat) {s : State} (hs : P b s) : P b (State.sampleEncodersTimes k s) := by
  induction k generalizing s with
  | zero => exact hs
  | succ k ih =>
    exact ih (h.takeStep _ _ (h.takeStep _ _ (h.blocks hs ⟨rfl, rfl, rfl, rfl, rfl, rfl, rfl⟩)))

/-- A sample of the switch lines: the level of HALT_N changes last. -/
theorem sampleSwitches {s : State} (hs : P s.lines.halt.accepted s) :
    P s.sampleSwitches.lines.halt.accepted s.sampleSwitches := by
  unfold State.sampleSwitches
  extract_lets n l s1 m s2 s3 s4
  have h1 : P l.halt.accepted s1 := h.blocks hs ⟨rfl, rfl, rfl, rfl, rfl, rfl, rfl⟩
  have h2 : P l.halt.accepted s2 ∧ s2.lines.halt = m.halt := by
    simp only [s2]
    split
    · exact ⟨h1, rfl⟩
    · exact ⟨h.contact _ h1, by rw [State.contactChanged_lines]⟩
  have h3 : P l.halt.accepted s3 ∧ s3.lines.halt = m.halt := by
    simp only [s3]
    split
    · exact ⟨h.sawHome h2.1, by simpa using h2.2⟩
    · exact h2
  have h4 : P l.halt.accepted s4 ∧ s4.lines.halt = m.halt := by
    simp only [s4]
    split
    · exact ⟨h.sawEnd h3.1, by simpa using h3.2⟩
    · exact h3
  obtain ⟨h4, hm⟩ := h4
  split
  next he => rwa [hm, ← he]
  next hne =>
    split
    next ht =>
      have hf : l.halt.accepted = false := by simpa [ht] using hne
      have : s4.haltAsserts.lines.halt.accepted = true := by simp [hm, ht]
      rw [this]
      exact h.haltOn (hf ▸ h4)
    next ht =>
      have hf : l.halt.accepted = true := by simpa [ht] using hne
      have : s4.haltReleases.lines.halt.accepted = false := by simp [hm, ht]
      rw [this]
      exact h.haltOff (hf ▸ h4)

/-- The idle millisecond. -/
theorem idle {s : State} (hs : P s.lines.halt.accepted s) : Q s.idle.lines.halt.accepted s.idle := by
  unfold State.idle
  set t := State.sampleEncodersTimes 8 s.countTimers.expireTimer.expireGap with ht
  have hp : P s.lines.halt.accepted t := h.sampleEncodersTimes 8 (h.expireGap (h.expireTimer (h.count hs)))
  have hl : t.lines.halt = s.lines.halt := by
    rw [ht, State.sampleEncodersTimes_halt, (State.expire_lines _).2, (State.expire_lines _).1]
    simp
  rw [State.goOn_lines]
  exact h.goOn (h.sampleSwitches (hl ▸ hp))

/-! ### A step -/

/-- Frames and the gap timer: queue, service, transmitter. -/
theorem goOn_blocks {s t : State} (hs : P s.lines.halt.accepted s) (hb : s.SameBlocks t) (hl : t.lines = s.lines) :
    Q t.goOn.lines.halt.accepted t.goOn := by
  rw [State.goOn_lines, hl]
  have := h.goOn (s := t) (by rw [hl]; exact h.blocks hs hb)
  rwa [hl] at this

/-- An event whose consumers leave P, followed by the transmitter's choice. -/
theorem event {b : Bool} {s : State} (hs : Q b s) (hb : s.lines.halt.accepted = b) :
    Q s.transmit.lines.halt.accepted s.transmit := by
  have : s.transmit.lines = s.lines := by simp
  rw [this, hb]
  exact h.blocks' hs s.bus_blocks.2.1

/-- A command. -/
theorem runs {s t : State} (hs : P s.lines.halt.accepted s) (ht : s.Runs t) : Q t.lines.halt.accepted t := by
  obtain ⟨-, -, hgap, hfirst, hcont, hframe⟩ := s.bus_blocks
  cases ht with
  | unchanged => exact h.weaken hs
  | powerOn node pins => exact h.powerOn node pins _
  | offer e => exact h.goOn_blocks hs (s.bus_blocks.1 e) (by simp)
  | joinFirst f => exact h.goOn_blocks hs (hfirst f) (by simp)
  | joinContinuation f => exact h.goOn_blocks hs (hcont f) (by simp)
  | gap => exact h.goOn_blocks hs hgap (by simp)
  | frameSent => exact h.goOn_blocks hs hframe (by simp)
  | pulse e d =>
    have hl : (s.stepEncoder e d).lines.halt = s.lines.halt := by cases e <;> rfl
    exact h.event (h.weaken (h.pulse e d (h.blocks hs (s.line_blocks.1 e d)))) (by simp [hl])
  | fault e =>
    have hl : (s.flipEncoder e).lines.halt = s.lines.halt := by cases e <;> rfl
    exact h.event (h.weaken (h.fault e (h.blocks hs (s.line_blocks.2 e)))) (by simp [hl])
  | contact level => exact h.event (h.weaken (h.contact level hs)) (by rw [State.contactChanged_lines])
  | sawLine l hl =>
    exact h.weaken (h.blocks (show P l.halt.accepted s from hl ▸ hs) ⟨rfl, rfl, rfl, rfl, rfl, rfl, rfl⟩)
  | sawEnd => exact h.event (h.weaken (h.sawEnd (h.blocks hs ⟨rfl, rfl, rfl, rfl, rfl, rfl, rfl⟩))) (by simp)
  | sawHome => exact h.event (h.weaken (h.sawHome (h.blocks hs ⟨rfl, rfl, rfl, rfl, rfl, rfl, rfl⟩))) (by simp)
  | haltOn hf =>
    rw [hf] at hs
    exact h.event (h.weaken (h.haltOn (h.blocks hs ⟨rfl, rfl, rfl, rfl, rfl, rfl, rfl⟩))) (by simp [LineFilter.settled])
  | haltOff ht =>
    rw [ht] at hs
    exact h.event (h.weaken (h.haltOff (h.blocks hs ⟨rfl, rfl, rfl, rfl, rfl, rfl, rfl⟩))) (by simp [LineFilter.settled])
  | settle ht => exact h.event (h.weaken (h.settle ht hs)) (by simp)
  | saw ht => exact h.event (h.weaken (h.saw ht hs)) (by simp)
  | home ht => exact h.event (h.weaken (h.home ht hs)) (by simp)
  | stall ht => exact h.event (h.weaken (h.stall ht hs)) (by simp)
  | sequence q r hq => exact h.event (h.sequence r hq hs) (by simp)
  | pass p hp => exact h.event (h.weaken (h.pass hp hs)) (by simp)

/-- Every step takes P to Q. -/
theorem step {s t : State} (hs : P s.lines.halt.accepted s) (ht : Machine.step s = .next t) :
    Q t.lines.halt.accepted t := by
  unfold Machine.step at ht
  split at ht
  · obtain rfl := Host.Outcome.next.inj ht
    exact h.idle hs
  · rename_i c rest _
    obtain ⟨u, hu, hr⟩ := exec_runs c { s with pending := rest }
    obtain rfl := Host.Outcome.next.inj (hu.symm.trans ht)
    exact h.runs (s := { s with pending := rest }) (h.blocks hs ⟨rfl, rfl, rfl, rfl, rfl, rfl, rfl⟩) hr

end StepParts

end Sys2Proof.Machine

/-! PROOF. Slots related one by one: what it means that an operation changes records only within a relation, which
operations do so, and what follows for the group, the lead and the counts. -/

namespace Sys2Proof.Machine

open Sys2Proof

/-! ### The eight slots as a list (R1) -/

/-- The slots in order are the records of the places 0..7. -/
theorem State.slots_eq (s : State) : s.stb.slots.toList = (List.range 8).map s.record? := by
  refine List.ext_getElem (by simp) fun i h1 h2 => ?_
  have hi : i < 8 := by simpa using h1
  simp [State.record?, Vector.getElem?_eq_getElem hi]

/-- No record stands outside the eight slots. -/
theorem State.record?_none {s : State} {k : Nat} (hk : 8 ≤ k) : s.record? k = none := by
  simp [State.record?, Vector.getElem?_eq_none (xs := s.stb.slots) hk]

/-- A slot set outside the eight changes nothing; within it reads back as set. -/
theorem State.record?_setSlot' (s : State) (k : Nat) (o : Option StemRecord) (i : Nat) :
    (s.setSlot k o).record? i = if i = k ∧ k < 8 then o else s.record? i := by
  by_cases hk : k < 8
  · simp [State.record?_setSlot hk, hk]
  · have : s.setSlot k o = s := by
      simp [State.setSlot, Vector.setIfInBounds_eq_of_size_le (xs := s.stb.slots) (show 8 ≤ k by omega)]
    simp [hk, this]

/-! ### Records related one by one -/

/-- Every slot is free in both states, or holds records that the relation relates. -/
def State.Related (R : StemRecord → StemRecord → Prop) (s t : State) : Prop :=
  ∀ i, Option.Rel R (s.record? i) (t.record? i)

/-- A record with the same handle, state and role. -/
structure StemRecord.SameHead (r r' : StemRecord) : Prop where
  handle : r'.handle = r.handle
  state : r'.state = r.state
  role : r'.role = r.role

theorem StemRecord.SameHead.trans {a b c : StemRecord} (h : a.SameHead b) (h' : b.SameHead c) : a.SameHead c :=
  ⟨h'.handle.trans h.handle, h'.state.trans h.state, h'.role.trans h.role⟩

theorem StemRecord.Reworks.head {r r' : StemRecord} (h : r.Reworks r') : r.SameHead r' := ⟨h.handle, h.state, h.role⟩

namespace State.Related

variable {R : StemRecord → StemRecord → Prop} {s t u : State}

/-- The Stem Table unchanged. -/
theorem of_stb (hR : ∀ r, R r r) (h : t.stb = s.stb) : s.Related R t := by
  intro i
  rw [State.record?_congr h i]
  cases s.record? i with
  | none => exact .none
  | some r => exact .some (hR r)

/-- One change after another. -/
theorem trans (hR : ∀ {a b c}, R a b → R b c → R a c) (h : s.Related R t) (h' : t.Related R u) : s.Related R u := by
  intro i
  have h1 := h i
  have h2 := h' i
  revert h1 h2
  rcases s.record? i with _ | a <;> rcases t.record? i with _ | b <;> rcases u.record? i with _ | c <;>
    rintro ⟨⟩ ⟨⟩
  · exact .none
  · exact .some (hR ‹_› ‹_›)

/-- A wider relation. -/
theorem mono {R' : StemRecord → StemRecord → Prop} (hR : ∀ {a b}, R a b → R' a b) (h : s.Related R t) : s.Related R' t := by
  intro i
  have h1 := h i
  revert h1
  rcases s.record? i with _ | a <;> rcases t.record? i with _ | b <;> rintro ⟨⟩
  · exact .none
  · exact .some (hR ‹_›)

/-- A record of the first state has one of the second. -/
theorem some_left (h : s.Related R t) {i : Nat} {r : StemRecord} (hr : s.record? i = some r) :
    ∃ r', t.record? i = some r' ∧ R r r' := by
  have := h i
  rw [hr] at this
  revert this
  rcases t.record? i with _ | b <;> rintro ⟨⟩
  exact ⟨b, rfl, ‹_›⟩

/-- A record of the second state has one of the first. -/
theorem some_right (h : s.Related R t) {i : Nat} {r' : StemRecord} (hr : t.record? i = some r') :
    ∃ r, s.record? i = some r ∧ R r r' := by
  have := h i
  rw [hr] at this
  revert this
  rcases s.record? i with _ | a <;> rintro ⟨⟩
  exact ⟨a, rfl, ‹_›⟩

/-- One slot's record changed within the relation. -/
theorem setSlot (hR : ∀ r, R r r) {k : Nat} {r r' : StemRecord} (hk : s.record? k = some r) (h : R r r') :
    s.Related R (s.setSlot k (some r')) := by
  intro i
  rw [State.record?_setSlot (State.record?_lt hk)]
  split
  · subst_vars
    rw [hk]
    exact .some h
  · cases s.record? i with
    | none => exact .none
    | some r => exact .some (hR r)

/-- One slot's record changed by a function within the relation. -/
theorem modifySlot (hR : ∀ r, R r r) (k : Nat) {f : StemRecord → StemRecord} (h : ∀ r, s.record? k = some r → R r (f r)) :
    s.Related R (s.modifySlot k f) := by
  unfold State.modifySlot
  split
  · exact setSlot hR ‹_› (h _ ‹_›)
  · exact of_stb hR rfl

/-- A fold over slots, each step within the relation. -/
theorem foldl (hR : ∀ r, R r r) (hT : ∀ {a b c}, R a b → R b c → R a c) {g : State → Nat → State}
    (h : ∀ (s : State) k, s.Related R (g s k)) (l : List Nat) (s : State) : s.Related R (l.foldl g s) := by
  induction l generalizing s with
  | nil => exact of_stb hR rfl
  | cons k l ih => exact trans hT (h s k) (ih _)

/-- Every member changed by a function within the relation. -/
theorem modifyMembers (hR : ∀ r, R r r) (hT : ∀ {a b c}, R a b → R b c → R a c) {f : StemRecord → StemRecord}
    (h : ∀ r, R r (f r)) : s.Related R (s.modifyMembers f) :=
  foldl hR hT (fun s k => modifySlot (s := s) hR k fun r _ => h r) _ _

/-- The members of a PROCESSING group changed by a function within the relation. -/
theorem modifyActive (hR : ∀ r, R r r) (hT : ∀ {a b c}, R a b → R b c → R a c) {f : StemRecord → StemRecord}
    (h : ∀ r, R r (f r)) : s.Related R (s.modifyActive f) := by
  unfold State.modifyActive
  split
  · exact modifyMembers hR hT h
  · exact of_stb hR rfl

/-- The lead changed by a function within the relation. -/
theorem modifyLead (hR : ∀ r, R r r) {f : StemRecord → StemRecord} (h : ∀ k r, s.lead? = some (k, r) → R r (f r)) :
    s.Related R (s.modifyLead f) := by
  unfold State.modifyLead
  split
  · rename_i k r hl
    exact setSlot hR (State.mem_members.mp (State.mem_of_lead? hl)).2 (h k r hl)
  · exact of_stb hR rfl

end State.Related

/-! ### What related records share -/

section Heads

variable {s t : State}

/-- A test of records that the relation keeps gives the same answers slot by slot. -/
theorem State.Related.any {R : StemRecord → StemRecord → Prop} (h : s.Related R t) {p : StemRecord → Bool}
    (hp : ∀ {a b}, R a b → p b = p a) (i : Nat) : (t.record? i).any p = (s.record? i).any p := by
  have h1 := h i
  revert h1
  rcases s.record? i with _ | a <;> rcases t.record? i with _ | b <;> rintro ⟨⟩
  · rfl
  · exact hp ‹_›

/-- The number of PROCESSING records is the number of places that hold one. -/
theorem State.processingCount_eq (s : State) :
    s.processingCount = (List.range 8).countP fun i => (s.record? i).any fun r => r.state == .processing := by
  simp [State.processingCount, State.slots_eq, List.countP_map, Function.comp_def]

/-- Records with the same states are as many PROCESSING. -/
theorem State.Related.processingCount {R : StemRecord → StemRecord → Prop} (h : s.Related R t)
    (hR : ∀ {a b : StemRecord}, R a b → b.state = a.state) : t.processingCount = s.processingCount := by
  rw [State.processingCount_eq, State.processingCount_eq]
  exact congrArg₂ _ (funext fun i => h.any (fun hab => by rw [hR hab]) i) rfl

/-- A handle is held where some slot's record has it. -/
theorem State.holdsHandle_iff (s : State) (handle : Nat) :
    s.holdsHandle handle = true ↔ ∃ i r, s.record? i = some r ∧ r.handle = handle := by
  simp only [State.holdsHandle, State.slots_eq, List.any_map, List.any_eq_true, List.mem_range, Function.comp_apply,
    Option.any_eq_true, beq_iff_eq]
  exact ⟨fun ⟨i, _, r, hr⟩ => ⟨i, r, hr⟩, fun ⟨i, r, hr, he⟩ => ⟨i, State.record?_lt hr, r, hr, he⟩⟩

end Heads

end Sys2Proof.Machine

/-! PROOF. No step changes the ACTIVE bank under a PROCESSING record (R87): every operation keeps the bank, but for the safe
point, which a close signals with the count of PROCESSING records at 0, and for the requests that look at that count. -/

namespace Sys2Proof.Machine

open Sys2Proof

/-! ### The counts of PROCESSING records (R4) -/

/-- No record is PROCESSING exactly when the count is 0. -/
theorem State.processingCount_eq_zero (s : State) :
    s.processingCount = 0 ↔ ∀ i r, s.record? i = some r → r.state ≠ .processing := by
  rw [State.processingCount_eq, List.countP_eq_zero]
  constructor
  · intro h i r hr hst
    exact h i (List.mem_range.mpr (State.record?_lt hr)) (by simp [hr, hst])
  · intro h i _ hp
    cases hr : s.record? i with
    | none => simp [hr] at hp
    | some r => exact h i r hr (by simpa [hr] using hp)

/-- The slots decide the count of PROCESSING records. -/
theorem State.processingCount_congr {s t : State} (h : t.stb = s.stb) : t.processingCount = s.processingCount := by
  simp [State.processingCount, h]

/-- The slot of the record being felled holds a record in FELLING. -/
theorem State.fellingSlot?_spec {s : State} {k : Nat} (h : s.fellingSlot? = some k) :
    ∃ r, s.record? k = some r ∧ r.state = .felling := by
  unfold State.fellingSlot? at h
  rw [State.slots_eq, List.findIdx?_map] at h
  obtain ⟨h1, h2, -⟩ := List.findIdx?_eq_some_iff_getElem.mp h
  simpa [Option.any_eq_true] using h2

/-! ### A close and the banks (R4, R88) -/

/-- A close of a record that is not PROCESSING leaves the Assortment Table. -/
theorem State.closeRecord_atb {s : State} {k : Nat} {r : StemRecord} (hr : s.record? k = some r)
    (hst : r.state ≠ .processing) (st : StemState) (why : EndReason) : (s.closeRecord k st why).atb = s.atb := by
  simp [State.closeRecord, hr, hst]

/-- A close by failure of a felling leaves the Assortment Table. -/
theorem State.abandonFelling_atb (s : State) : s.abandonFelling.atb = s.atb := by
  unfold State.abandonFelling
  split
  · obtain ⟨r, hr, hst⟩ := State.fellingSlot?_spec ‹_›
    exact State.closeRecord_atb hr (by simp [hst]) _ _
  · rfl

/-- The records after a close: the closed one, and every other as it was. -/
theorem State.record?_closeRecord (s : State) (k : Nat) (st : StemState) (why : EndReason) (i : Nat) :
    (s.closeRecord k st why).record? i =
      if i = k then (s.record? i).map fun r => r.closed st why else s.record? i := by
  unfold State.closeRecord
  split
  · rename_i hr
    split
    · subst_vars
      simp [hr]
    · rfl
  · rename_i r hr
    have hstb : ∀ t : State, (if r.state = .processing ∧ t.processingCount = 0 then t.safePoint else t).stb = t.stb := by
      intro t
      split <;> simp
    rw [State.record?_congr (hstb _), State.record?_congr (State.offerNotice_frame _ _).1,
      State.record?_setSlot (k := k) (State.record?_lt hr)]
    split
    · subst_vars
      simp [hr]
    · rfl

/-- The ACTIVE bank is as it was, or no record is PROCESSING. -/
def State.SwapSafe (s t : State) : Prop := t.atb.active = s.atb.active ∨ t.processingCount = 0

/-- A close to another state than PROCESSING keeps a count of 0. -/
theorem State.closeRecord_count {s : State} {st : StemState} (hst : st ≠ .processing) (h : s.processingCount = 0)
    (k : Nat) (why : EndReason) : (s.closeRecord k st why).processingCount = 0 := by
  rw [State.processingCount_eq_zero] at h ⊢
  intro i r hr
  rw [State.record?_closeRecord] at hr
  split at hr
  · obtain ⟨q, -, rfl⟩ := Option.map_eq_some_iff.mp hr
    exact hst
  · exact h i r hr

/-- A close swaps the banks only where it leaves no record PROCESSING. -/
theorem State.closeRecord_swapSafe (s : State) (k : Nat) (st : StemState) (why : EndReason) :
    s.SwapSafe (s.closeRecord k st why) := by
  unfold State.closeRecord
  split
  · exact .inl rfl
  · dsimp only
    split
    · rename_i h
      exact .inr (by rw [State.processingCount_congr (State.safePoint_frame _).1, h.2])
    · exact .inl (by simp)

/-- So does a series of closes. -/
theorem State.closeAll_swapSafe {st : StemRecord → StemState} (hst : ∀ r, st r ≠ .processing) (why : EndReason)
    (l : List Nat) (s : State) : s.SwapSafe (s.closeAll l st why) := by
  unfold State.closeAll
  have hstep : ∀ (t : State), s.SwapSafe t → ∀ k, s.SwapSafe (match t.record? k with
      | some r => t.closeRecord k (st r) why
      | none => t) := by
    intro t ht k
    split
    · rename_i r _
      obtain hact | hzero := ht
      · exact (State.closeRecord_swapSafe t k (st r) why).imp_left (·.trans hact)
      · exact .inr (State.closeRecord_count (hst r) hzero k why)
    · exact ht
  have : ∀ (l : List Nat) (t : State), s.SwapSafe t → s.SwapSafe (l.foldl (fun s i => match s.record? i with
      | some r => s.closeRecord i (st r) why
      | none => s) t) := by
    intro l
    induction l with
    | nil => exact fun t ht => ht
    | cons k l ih => exact fun t ht => ih _ (hstep t ht k)
  exact this l s (.inl rfl)

/-- What changes neither the Stem Table nor the ACTIVE bank afterwards is as safe. -/
theorem State.SwapSafe.congr {s t u : State} (h : s.SwapSafe t) (hstb : u.stb = t.stb)
    (hact : u.atb.active = t.atb.active) : s.SwapSafe u :=
  h.imp (hact.trans ·) (State.processingCount_congr hstb).trans

/-- What keeps the ACTIVE bank before is as safe. -/
theorem State.SwapSafe.of_eq {s t u : State} (hact : t.atb.active = s.atb.active) (h : t.SwapSafe u) : s.SwapSafe u :=
  h.imp_left (·.trans hact)

/-! ### Operations that close records -/

theorem StemRecord.releaseState_ne (r : StemRecord) : r.releaseState ≠ .processing := by
  unfold StemRecord.releaseState
  split <;> simp

theorem State.release_swapSafe (s : State) : s.SwapSafe s.release := by
  have h : s.SwapSafe s.releaseGroup := State.closeAll_swapSafe StemRecord.releaseState_ne .released _ s
  unfold State.release
  dsimp only
  split <;> exact h.congr (by simp) (by simp)

theorem State.dropTop_swapSafe (s : State) : s.SwapSafe s.dropTop := by
  unfold State.dropTop
  extract_lets t
  have ht : s.SwapSafe t := by
    simp only [t]
    split
    · exact State.closeRecord_swapSafe s _ _ _
    · exact .inl rfl
  split
  · exact ht.congr (by simp) (by simp)
  · exact ht

theorem State.groupEnd_stb_atb (s : State) : s.groupEnd.stb = s.stb ∧ s.groupEnd.atb = s.atb := by
  unfold State.groupEnd
  simp

theorem State.deliverFeed_swapSafe (s : State) (q : FeedRequest) (n : Nat) (m : MeasureReport) :
    s.SwapSafe (s.deliverFeed q n m) := by
  unfold State.deliverFeed
  split
  · exact .inl rfl
  · split
    · exact .inl (by simp)
    · extract_lets t
      have ht : t.atb.active = s.atb.active := by simp [t]
      split
      · have h : t.SwapSafe (t.closeAll t.stb.group (fun _ => .closed) .topped) :=
          State.closeAll_swapSafe (fun _ => by simp) _ _ t
        exact (State.SwapSafe.of_eq ht h).congr (State.groupEnd_stb_atb _).1 (by rw [State.stemEnd, (State.groupEnd_stb_atb _).2])
      · have h : t.SwapSafe (t.closeAll t.dropOuts (fun _ => .closed) .fellOut) :=
          State.closeAll_swapSafe (fun _ => by simp) _ _ t
        exact (State.SwapSafe.of_eq ht h).congr (by simp) (by simp)

theorem State.finishSequence_swapSafe (s : State) (q : RunningSequence) (r : Readings) :
    s.SwapSafe (s.finishSequence q r) := by
  unfold State.finishSequence
  refine State.SwapSafe.congr ?_ (State.arbitrate_frame _).2.1 (by simp)
  unfold State.deliver
  split
  · exact State.deliverFeed_swapSafe _ _ _ _
  · exact .inl (by simp)
  · exact .inl (by simp)

/-- With every slot freed no record is PROCESSING. -/
theorem State.processingCount_freed {s : State} (h : s.stb.slots = Vector.replicate 8 none) : s.processingCount = 0 := by
  simp [State.processingCount, h]

/-- A handled request swaps the banks only where no record is PROCESSING. -/
theorem State.Handles.swapSafe {s t : State} (h : s.Handles t) : s.SwapSafe t := by
  cases h with
  | parameter n v =>
    refine .inl ?_
    have hsaw : ∀ t : State, t.sawExpires.atb = t.atb := fun t => by
      unfold State.sawExpires
      split <;> simp [State.abandonFelling_atb]
    unfold State.storeParameter
    split
    · rfl
    · split
      · simp
      · simp
      · unfold State.timerAtChange
        split <;> (try split) <;> simp [hsaw]
  | swap h => exact .inr (by rw [State.processingCount_congr (State.applySwap_frame s _).1, h])
  | stopFelling => exact .inl (by simp [State.stopFelling, State.abandonFelling_atb])
  | drop => exact State.dropTop_swapSafe s
  | release => exact State.release_swapSafe s
  | stems => exact .inr (State.processingCount_freed (by
      unfold State.reinitialiseStems State.clearStems
      dsimp only
      split <;> simp))
  | all => exact .inr (State.processingCount_freed (by
      unfold State.reinitialiseAll State.clearStems
      dsimp only
      split <;> simp))
  | _ => exact .inl (by simp [State.raiseLock])

/-! ### The statement -/

/-- The ACTIVE bank passes through every part of a step, or no record is PROCESSING after it. -/
theorem activeBank_parts (bank : Bank) : StepParts (fun _ s => s.atb.active = bank)
    fun _ s => 0 < s.processingCount → s.atb.active = bank where
  blocks h hb := by rw [hb.2.2.2.1, h]
  blocks' h hb hc := by
    rw [hb.2.2.2.1]
    exact h (by rwa [State.processingCount_congr hb.1] at hc)
  weaken h _ := h
  powerOn _ _ _ h := absurd h (by simp [State.processingCount, State.powerOn, StemTable.powerOn])
  request h hs hc := by
    obtain hact | hzero := h.swapSafe
    · rw [hact, hs]
    · omega
  pulse _ _ h := by simpa using h
  fault _ h := by simpa using h
  contact _ h := by simpa using h
  sawEnd h := by simpa using h
  sawHome h := by simpa using h
  haltOn h := by
    unfold State.haltAsserts
    dsimp only
    split <;> simpa [State.abandonFelling_atb] using h
  haltOff h := by simpa using h
  count h := by simpa using h
  settle _ h := by simpa using h
  saw _ h := by
    unfold State.sawExpires
    split <;> simpa [State.abandonFelling_atb] using h
  home _ h := by simpa using h
  stall _ h := by simpa using h
  sequence r _ h hc := by
    obtain hact | hzero := State.finishSequence_swapSafe _ _ r
    · rw [hact, h]
    · omega
  pass _ h := by simpa using h

/-- Settles O22: the ACTIVE bank through the parts of a step. -/
theorem activeBankFixed : Obligations.ActiveBankFixed :=
  fun s _ hstep hcount => (activeBank_parts s.atb.active).step rfl hstep hcount

end Sys2Proof.Machine

/-! PROOF. Settings (R64, R90, R94): the operations that measure, cut and close leave the calibration tables, and of the
Assortment Table they can only copy EDIT into ACTIVE; what is left are the requests on the settings themselves. -/

namespace Sys2Proof.Machine

open Sys2Proof

/-! ### What leaves the settings -/

/-- The tables stand as they were, and so does the Assortment Table, but for a swap of its banks. -/
def State.SettingsKept (s t : State) : Prop :=
  (∀ c, t.dsq.table c = s.dsq.table c) ∧
    (t.atb = s.atb ∨ t.atb = { s.atb with active := s.atb.edit, swapPending := false })

namespace State.SettingsKept

theorem of_eq {s t : State} (hd : t.dsq = s.dsq) (ha : t.atb = s.atb) : s.SettingsKept t :=
  ⟨fun c => by rw [hd], .inl ha⟩

theorem of_tables {s t : State} (hd : ∀ c, t.dsq.table c = s.dsq.table c) (ha : t.atb = s.atb) : s.SettingsKept t :=
  ⟨hd, .inl ha⟩

theorem trans {s t u : State} (h : s.SettingsKept t) (h' : t.SettingsKept u) : s.SettingsKept u := by
  refine ⟨fun c => (h'.1 c).trans (h.1 c), ?_⟩
  obtain ⟨-, ht | ht⟩ := h <;> obtain ⟨-, hu | hu⟩ := h' <;> rw [hu, ht]
  · exact .inl rfl
  · exact .inr rfl
  · exact .inr rfl
  · exact .inr rfl

theorem arbitrate (s : State) : s.SettingsKept s.arbitrate := by
  refine of_tables (fun c => ?_) (by simp)
  unfold State.arbitrate
  split
  · rfl
  · split <;> cases c <;> rfl

theorem raiseFeed (s : State) (r : FeedRequest) : s.SettingsKept (s.raiseFeed r) := by
  unfold State.raiseFeed
  split
  · exact of_eq (by simp) (by simp)
  · exact trans (t := { s with dsq.feedPending := some r }) (of_tables (fun c => by cases c <;> rfl) rfl) (arbitrate _)

theorem raiseTrim (s : State) (r : TrimRequest) : s.SettingsKept (s.raiseTrim r) := by
  unfold State.raiseTrim
  split
  · exact of_eq rfl rfl
  · exact trans (t := { s with dsq.trimPending := some r }) (of_tables (fun c => by cases c <;> rfl) rfl) (arbitrate _)

theorem cancelFeed (s : State) : s.SettingsKept s.cancelFeed := by
  unfold State.cancelFeed
  extract_lets _ t
  have ht : s.SettingsKept t := of_tables (fun c => by cases c <;> rfl) rfl
  split
  · exact ht.trans (trans (t := { t with dsq.running := none }) (of_tables (fun c => by cases c <;> rfl) rfl) (arbitrate _))
  · exact ht

theorem cabPending (s : State) (c : CabRequest) : s.SettingsKept { s with dsq.cabPending := some c } :=
  of_tables (fun c => by cases c <;> rfl) rfl

theorem triggerCheck (s : State) : s.SettingsKept s.triggerCheck := by
  unfold State.triggerCheck
  split
  · exact (raiseFeed s _).trans (of_eq rfl rfl)
  · exact of_eq rfl rfl

theorem lengthUpdate (s : State) (forward : Bool) : s.SettingsKept (s.lengthUpdate forward) := by
  unfold State.lengthUpdate
  extract_lets t
  have ht : s.SettingsKept t := of_eq (by simp [t]) (by simp [t])
  split
  · exact ht.trans (triggerCheck t)
  · exact ht

theorem pulse (s : State) (e : Encoder) (d : Direction) : s.SettingsKept (s.pulse e d) := by
  unfold State.pulse State.updateLength
  extract_lets t u
  have ht : s.SettingsKept t := of_eq (by simp [t]) (by simp [t])
  have hu : s.SettingsKept u := ht.trans (of_eq (by simp [u]) (by simp [u]))
  have hlast : ∀ x : State, s.SettingsKept x → s.SettingsKept (x.accountWindow e d) := fun x hx =>
    hx.trans (of_eq (by simp) (by simp))
  refine hlast _ ?_
  split
  · split
    · exact hu
    · exact hu.trans (lengthUpdate u _)
  · exact ht

theorem applySwap (s : State) (o : SwapOccasion) : s.SettingsKept (s.applySwap o) :=
  ⟨fun c => by simp, .inr (by simp [State.applySwap])⟩

theorem safePoint (s : State) : s.SettingsKept s.safePoint := by
  unfold State.safePoint
  split
  · exact applySwap s _
  · exact of_eq rfl rfl

theorem closeRecord (s : State) (k : Nat) (st : StemState) (why : EndReason) : s.SettingsKept (s.closeRecord k st why) := by
  unfold State.closeRecord
  split
  · exact of_eq rfl rfl
  · extract_lets _ t
    have ht : s.SettingsKept t := of_eq (by simp [t]) (by simp [t])
    split
    · exact ht.trans (safePoint t)
    · exact ht

theorem closeAll (st : StemRecord → StemState) (why : EndReason) (l : List Nat) (s : State) :
    s.SettingsKept (s.closeAll l st why) := by
  unfold State.closeAll
  induction l generalizing s with
  | nil => exact of_eq rfl rfl
  | cons k l ih =>
    rw [List.foldl_cons]
    split
    · exact (closeRecord s _ _ _).trans (ih _)
    · exact ih _

theorem release (s : State) : s.SettingsKept s.release := by
  unfold State.release
  extract_lets t
  have ht : s.SettingsKept t := closeAll _ _ _ s
  have hidle : ∀ u : State, u.SettingsKept u.enterIdle := fun u => of_eq (by simp) (by simp)
  split
  · exact ht.trans ((cancelFeed t).trans (trans (t := t.cancelFeed.voidPass) (of_eq (by simp) (by simp)) (hidle _)))
  · exact ht.trans (hidle t)

theorem acceptFell (s : State) (slot species : Nat) : s.SettingsKept (s.acceptFell slot species) := by
  have hopen : s.SettingsKept (s.openRecord slot species) := of_eq (by simp) (by simp)
  have henter : ∀ u : State, u.SettingsKept (u.enter .felling) := fun u => of_eq (by simp) (by simp)
  exact (hopen.trans (raiseTrim _ _)).trans (henter _)

theorem dropTop (s : State) : s.SettingsKept s.dropTop := by
  unfold State.dropTop
  extract_lets t
  have ht : s.SettingsKept t := by
    simp only [t]
    split
    · exact closeRecord s _ _ _
    · exact of_eq rfl rfl
  split
  · exact ht.trans (of_eq (by simp) (by simp))
  · exact ht

theorem groupEnd (s : State) : s.SettingsKept s.groupEnd :=
  (cancelFeed s).trans (of_eq (by simp [State.groupEnd]) (by simp [State.groupEnd]))

theorem deliverFeed (s : State) (q : FeedRequest) (n : Nat) (m : MeasureReport) : s.SettingsKept (s.deliverFeed q n m) := by
  unfold State.deliverFeed
  split
  · exact of_eq rfl rfl
  · split
    · exact of_eq (by simp) (by simp)
    · extract_lets t
      have ht : s.SettingsKept t := of_eq (by simp [t]) (by simp [t])
      split
      · exact ht.trans ((closeAll _ _ _ t).trans (groupEnd _))
      · exact ht.trans ((closeAll _ _ t.dropOuts t).trans (of_eq (State.requestPass_frame _).2.2.2.2.1 (State.requestPass_frame _).2.2.2.2.2.1))

theorem finishSequence (s : State) (q : RunningSequence) (r : Readings) : s.SettingsKept (s.finishSequence q r) := by
  unfold State.finishSequence
  refine trans (t := { s with dsq.running := none }) (of_tables (fun c => by cases c <;> rfl) rfl) (trans ?_ (arbitrate _))
  unfold State.deliver
  split
  · exact deliverFeed _ _ _ _
  · exact of_eq (by simp) (by simp)
  · exact of_eq (by simp) (by simp)

theorem sawExpires (s : State) : s.SettingsKept s.sawExpires := by
  refine of_eq (by simp) ?_
  unfold State.sawExpires
  split <;> simp [State.abandonFelling_atb]

theorem haltAsserts (s : State) : s.SettingsKept s.haltAsserts := by
  refine of_eq (by simp) ?_
  unfold State.haltAsserts
  dsimp only
  split <;> simp [State.abandonFelling_atb]

theorem storeParameter (s : State) (n v : Nat) : s.SettingsKept (s.storeParameter n v) := by
  refine of_eq (by simp) ?_
  have hsaw : ∀ t : State, t.sawExpires.atb = t.atb := fun t => by
    unfold State.sawExpires
    split <;> simp [State.abandonFelling_atb]
  unfold State.storeParameter
  split
  · rfl
  · split
    · simp
    · simp
    · unfold State.timerAtChange
      split <;> (try split) <;> simp [hsaw]

theorem reinitialiseStems (s : State) : s.SettingsKept s.reinitialiseStems := by
  have habort : s.SettingsKept s.abortMeasurements := by
    refine of_tables (fun c => ?_) (by simp)
    unfold State.abortMeasurements
    dsimp only
    split <;> cases c <;> simp [DiameterSequencer.table]
  have hclear : ∀ t : State, t.SettingsKept t.clearStems := by
    intro t
    unfold State.clearStems
    dsimp only
    split
    · exact of_eq rfl rfl
    · exact (of_eq (s := t) (t := { t with stb.slots := Vector.replicate 8 none, stb.group := [] }) rfl rfl).trans
        (safePoint _)
  exact (habort.trans (hclear _)).trans (of_eq (by simp [State.reinitialiseStems]) (by simp [State.reinitialiseStems]))

end State.SettingsKept

/-- A reinitialisation of everything clears the four tables. -/
theorem State.reinitialiseAll_table (s : State) (c : Channel) : s.reinitialiseAll.dsq.table c = Vector.replicate 9 none := by
  cases c <;> simp [State.reinitialiseAll, State.clearConfiguration, State.clearTables, DiameterSequencer.table]

/-- And it gives the Assortment Table its power-on values. -/
theorem State.reinitialiseAll_atb (s : State) : s.reinitialiseAll.atb = .powerOn := by
  have hclear : ∀ t : State, t.atb = .powerOn → t.clearStems.atb = .powerOn := by
    intro t ht
    have hs : t.atb.swapPending = false := by rw [ht]; rfl
    unfold State.clearStems State.safePoint
    dsimp only
    rw [hs]
    split <;> exact ht
  simpa [State.reinitialiseAll] using hclear (s.abortMeasurements.clearConfiguration) rfl

/-! ### The parts of a step -/

/-- A law of the settings that the requests on them keep, with the power-on values, passes through every step. -/
theorem settings_parts {L : State → Prop} (kept : ∀ {s t : State}, s.SettingsKept t → L s → L t)
    (powerOn : ∀ t : State, (∀ c, t.dsq.table c = Vector.replicate 9 none) → t.atb = .powerOn → L t)
    (armPoint : ∀ (s : State) (c : Channel) (i raw con : Nat), i ≤ 8 → raw ≤ 4095 → con ≤ 5000 →
      keepsOrder (s.dsq.table c) i ⟨raw, con⟩ = true → L s →
      L { s with dsq := s.dsq.setTable c ((s.dsq.table c).setIfInBounds i (some ⟨raw, con⟩)) })
    (taper : ∀ (s : State) (species lo d hi : Nat), lo ≤ d → d ≤ hi → hi ≤ 40 → L s →
      L { s with atb.taper := s.atb.taper.setIfInBounds species ⟨lo, d, hi⟩ })
    (edit : ∀ (s : State) (n : Nat) (e : Option Assortment), s.editFailure? n = none → L s → L (s.setEdit n e))
    (swapLater : ∀ s : State, L s → L { s with atb.swapPending := true })
    (lock : ∀ (s : State) (size : Nat), size = 0 ∨ size = 4 ∨ size = 8 ∨ size = 16 → L s → L (s.raiseLock size)) :
    StepParts (fun _ => L) fun _ => L where
  blocks h hb := kept (.of_eq hb.2.2.1 hb.2.2.2.1) h
  blocks' h hb := kept (.of_eq hb.2.2.1 hb.2.2.2.1) h
  weaken h := h
  powerOn _ _ _ := powerOn _ (fun c => by cases c <;> rfl) rfl
  request h hs := by
    cases h with
    | armPoint c i raw con hi hr hc hk => exact armPoint _ c i raw con hi hr hc hk hs
    | taper species lo d hi h1 h2 h3 => exact taper _ species lo d hi h1 h2 h3 hs
    | edit n e h => exact edit _ n e h hs
    | swap => exact kept (.applySwap _ _) hs
    | swapLater => exact swapLater _ hs
    | lock size h => exact lock _ size h hs
    | parameter n v => exact kept (.storeParameter _ n v) hs
    | fell slot species _ _ _ _ => exact kept (.acceptFell _ slot species) hs
    | stopFelling => exact kept (.of_eq (by simp) (by simp [State.stopFelling, State.abandonFelling_atb])) hs
    | drop => exact kept (.dropTop _) hs
    | release => exact kept (.release _) hs
    | cab c h =>
      exact kept (.arbitrate _) (kept (State.SettingsKept.cabPending _ c) hs)
    | stems => exact kept (.reinitialiseStems _) hs
    | all => exact powerOn _ (fun c => State.reinitialiseAll_table _ c) (State.reinitialiseAll_atb _)
    | _ => exact kept (.of_eq (by simp) (by simp)) hs
  pulse e d h := kept (.pulse _ e d) h
  fault _ h := kept (.of_eq (by simp) (by simp)) h
  contact _ h := kept (.of_eq (by simp) (by simp)) h
  sawEnd h := kept (.of_eq (by simp) (by simp)) h
  sawHome h := kept (.of_eq (by simp) (by simp)) h
  haltOn h := kept (.haltAsserts _) h
  haltOff h := kept (.of_eq (by simp) (by simp)) h
  count h := kept (.of_eq (by simp) (by simp)) h
  settle _ h := kept (.of_eq (by simp) (by simp)) h
  saw _ h := kept (.sawExpires _) h
  home _ h := kept (.of_eq (by simp) (by simp)) h
  stall _ h := kept (.of_eq (by simp) (by simp)) h
  sequence r _ h := kept (.finishSequence _ _ r) h
  pass _ h := kept (.of_eq (by simp) (by simp)) h

/-! ### The calibration law (R64, R94, R166) -/

section Point

variable {t : ArmTable} {index : Nat} {p : CalPoint}

/-- A point that keeps the order stands in order with every loaded point below and above it, not with its neighbours
alone. -/
theorem before_of_keepsOrder (ht : armOrdered t) (h : keepsOrder t index p = true) (j : Fin 9) {q : CalPoint}
    (hq : t[j] = some q) : (j.val < index → q.Before p) ∧ (index < j.val → p.Before q) := by
  obtain ⟨hlow, hupp⟩ := keepsOrder_iff_places.mp h
  have hordered : ∀ (i j : Fin 9) (a b : CalPoint), i < j → t[i] = some a → t[j] = some b → a.Before b := ht
  have hlower : ∀ (n : Nat) (j : Fin 9) (q : CalPoint), index - j.val = n → t[j] = some q → j.val < index → q.Before p := by
    intro n
    induction n using Nat.strong_induction_on with
    | _ n ih =>
      intro j q hn hq hj
      by_cases hk : ∃ k : Fin 9, j < k ∧ k.val < index ∧ t[k] ≠ none
      · obtain ⟨k, hjk, hki, hne⟩ := hk
        obtain ⟨a, ha⟩ := Option.ne_none_iff_exists'.mp hne
        have h1 := hordered j k q a hjk hq ha
        have h2 := ih (index - k.val) (by rw [Fin.lt_def] at hjk; omega) k a rfl ha hki
        exact ⟨h1.1.trans h2.1, h1.2.trans h2.2⟩
      · push Not at hk
        exact hlow j q hj hq hk
  have hupper : ∀ (n : Nat) (j : Fin 9) (q : CalPoint), j.val = n → t[j] = some q → index < j.val → p.Before q := by
    intro n
    induction n using Nat.strong_induction_on with
    | _ n ih =>
      intro j q hn hq hj
      by_cases hk : ∃ k : Fin 9, index < k.val ∧ k < j ∧ t[k] ≠ none
      · obtain ⟨k, hik, hkj, hne⟩ := hk
        obtain ⟨a, ha⟩ := Option.ne_none_iff_exists'.mp hne
        have h1 := hordered k j a q hkj ha hq
        have h2 := ih k.val (by rw [Fin.lt_def] at hkj; omega) k a rfl ha hik
        exact ⟨h2.1.trans h1.1, h2.2.trans h1.2⟩
      · push Not at hk
        exact hupp j q hj hq hk
  exact ⟨hlower _ j q rfl hq, hupper _ j q rfl hq⟩

/-- A table in order stays so with a point that keeps the order. -/
theorem armOrdered_withPoint (ht : armOrdered t) (h : keepsOrder t index p = true) : armOrdered (t.withPoint index p) := by
  intro i j a b hij ha hb
  rw [ArmTable.getElem_withPoint] at ha hb
  rw [Fin.lt_def] at hij
  split at ha <;> split at hb
  · omega
  · cases ha
    exact (before_of_keepsOrder ht h j hb).2 (by omega)
  · cases hb
    exact (before_of_keepsOrder ht h i ha).1 (by omega)
  · exact ht i j a b (Fin.lt_def.mpr hij) ha hb

/-- A table in range stays so with a point in range. -/
theorem armInRange_withPoint (ht : armInRange t) (hr : p.raw ≤ 4095) (hc : p.contribution ≤ 5000) :
    armInRange (t.withPoint index p) := by
  intro i a ha
  rw [ArmTable.getElem_withPoint] at ha
  split at ha
  · cases ha
    exact ⟨hr, hc⟩
  · exact ht i a ha

end Point

/-- An empty table is in order and in range. -/
theorem armLaws_empty : armOrdered (Vector.replicate 9 none) ∧ armInRange (Vector.replicate 9 none) := by
  simp [armOrdered, armInRange]

/-- The calibration law speaks of the tables and the taper entries alone. -/
theorem State.CalibrationLaw.congr {s t : State} (h : s.CalibrationLaw) (hd : ∀ c, t.dsq.table c = s.dsq.table c)
    (ht : t.atb.taper = s.atb.taper) : t.CalibrationLaw :=
  ⟨fun c => hd c ▸ h.1 c, fun i => by rw [ht]; exact h.2 i⟩

/-- The calibration law passes through every part of a step. -/
theorem calibration_parts : StepParts (fun _ => State.CalibrationLaw) fun _ => State.CalibrationLaw := by
  refine settings_parts (fun hk h => h.congr hk.1 ?_)
    (fun t hd ha => ⟨fun c => hd c ▸ armLaws_empty, ?_⟩) (fun s c i raw con hi hr hc hk ⟨h1, h2⟩ => ⟨fun c' => ?_, h2⟩)
    (fun s sp lo d hi hlo hd hhi ⟨h1, h2⟩ => ⟨h1, fun i => ?_⟩) (fun s n e _ h => ?_)
    (fun s h => ?_) fun s n _ h => ?_
  · obtain ⟨-, ha | ha⟩ := hk <;> rw [ha]
  · intro i
    rw [show t.atb.taper[i] = TaperEntry.default by rw [ha]; simp [AssortmentTable.powerOn]]
    decide
  · rw [DiameterSequencer.table_setTable]
    split
    · exact ⟨armOrdered_withPoint (h1 c).1 hk, armInRange_withPoint (h1 c).2 hr hc⟩
    · exact h1 c'
  · simp only [getElem_setIfInBounds_fin]
    split
    · exact ⟨hlo, hd, hhi⟩
    · exact h2 i
  · exact h.congr (fun c => by simp) (by simp [State.setEdit])
  · exact h.congr (fun c => by simp) (by simp)
  · exact h.congr (fun c => by simp) (by simp [State.raiseLock])

/-! ### The law of the lock (R85, R88, R90) -/

/-- The law of the lock passes through every part of a step. -/
theorem lock_parts : StepParts (fun _ => State.LockLaw) fun _ => State.LockLaw := by
  refine settings_parts (fun hk h => ?_) (fun t _ ha => ?_) (fun s c i raw con _ _ _ _ h => h) (fun s sp lo d hi _ _ _ h => h)
    (fun s n e hn h => ⟨h.1, fun i hi => ?_⟩) (fun s h => h) fun s n hn h => ⟨hn, fun i hi => ?_⟩
  · obtain ⟨-, ha | ha⟩ := hk
    · simpa only [State.LockLaw, ha] using h
    · simp only [State.LockLaw, ha]
      exact ⟨h.1, fun _ _ => trivial⟩
  · simp [State.LockLaw, ha, AssortmentTable.powerOn]
  · have hne : i.val ≠ n := by
      rintro rfl
      have hi : i.val < s.atb.lockSize := hi
      unfold State.editFailure? at hn
      rw [if_neg (by omega), if_pos hi] at hn
      cases hn
    simp only [State.setEdit, getElem_setIfInBounds_fin, if_neg hne]
    exact h.2 i hi
  · simp only [State.raiseLock] at hi ⊢
    simp [hi]

/-! ### The statement -/

/-- Settles O17: both laws through the parts of a step. -/
theorem settingsLawsKept : Obligations.SettingsLawsKept :=
  ⟨fun _ _ h hstep => calibration_parts.step h hstep, fun _ _ h hstep => lock_parts.step h hstep⟩

end Sys2Proof.Machine

/-! PROOF. What the Feed and Cut Sequencer does while it works a PROCESSING group, as one inductive statement: a few single
moves, of which every entry into a processing state and every test is made up. What each move keeps, the whole keeps. -/

namespace Sys2Proof.Machine

open Sys2Proof

/-! ### The sequencer's law on its items (R138, R141) -/

/-- The law of the sequencer's items while filtered HALT_N stands at a level. -/
structure Sequencer.Law (b : Bool) (f : Sequencer) : Prop where
  halted : f.state = .halted ↔ b = true
  pause : f.pause.isSome ↔ f.state = .paused
  cutKind : f.cutKind.isSome ↔ f.state = .cutting ∨ f.state = .sawReturn
  settle : f.settleTimer.isSome → f.state = .settling
  saw : f.sawTimer.isSome → f.state = .felling ∨ f.state = .cutting
  home : f.homeTimer.isSome → f.state = .sawReturn
  stall : f.stallTimer.isSome → f.state = .feeding ∨ f.state = .creeping ∨ f.state = .reversing
  reversals : f.reversals ≤ 2

/-- The sequencer's law is the law of its items: each state has at most one of the demands that exclude each other, and
HALTED has none (R139). -/
theorem State.sequencerLaw_iff (s : State) : s.SequencerLaw ↔ Sequencer.Law s.lines.halt.accepted s.fcs := by
  constructor
  · rintro ⟨h1, h2, h3, h4, h5, h6, h7, h8, -⟩
    exact ⟨h1, h2, h3, h4, h5, h6, h7, h8⟩
  · rintro ⟨h1, h2, h3, h4, h5, h6, h7, h8⟩
    refine ⟨h1, h2, h3, h4, h5, h6, h7, h8, ?_⟩
    have hb : s.lines.halt.accepted = true → s.fcs.state = .halted := h1.mpr
    cases hh : s.lines.halt.accepted with
    | true => simp [State.demandsSafe, State.demand, DemandLines.feed, hb hh]
    | false => cases hst : s.fcs.state <;> simp [State.demandsSafe, State.demand, DemandLines.feed, hst, hh]

/-- Items that keep state, pause reason and cut kind, run no further timer, and have made no further reversal. -/
structure Sequencer.Calmer (f f' : Sequencer) : Prop where
  state : f'.state = f.state
  pause : f'.pause = f.pause
  cutKind : f'.cutKind = f.cutKind
  settle : f'.settleTimer.isSome → f.settleTimer.isSome
  saw : f'.sawTimer.isSome → f.sawTimer.isSome
  home : f'.homeTimer.isSome → f.homeTimer.isSome
  stall : f'.stallTimer.isSome → f.state = .feeding ∨ f.state = .creeping ∨ f.state = .reversing ∨ f.stallTimer.isSome
  reversals : f'.reversals ≤ f.reversals

theorem Sequencer.Law.calmer {b : Bool} {f f' : Sequencer} (h : Sequencer.Law b f) (hc : f.Calmer f') :
    Sequencer.Law b f' where
  halted := by rw [hc.state]; exact h.halted
  pause := by rw [hc.state, hc.pause]; exact h.pause
  cutKind := by rw [hc.state, hc.cutKind]; exact h.cutKind
  settle ht := by rw [hc.state]; exact h.settle (hc.settle ht)
  saw ht := by rw [hc.state]; exact h.saw (hc.saw ht)
  home ht := by rw [hc.state]; exact h.home (hc.home ht)
  stall ht := by
    rw [hc.state]
    obtain h1 | h1 | h1 | h1 := hc.stall ht
    · exact .inl h1
    · exact .inr (.inl h1)
    · exact .inr (.inr h1)
    · exact h.stall h1
  reversals := hc.reversals.trans h.reversals

/-- A move to a state sets every item that the law speaks of but the count of reversals (R138, R141). -/
theorem Sequencer.Law.moveTo {s : State} {st : SeqState} {why : Option PauseReason} (hr : s.fcs.reversals ≤ 2)
    (hp : st = .paused → why.isSome) (hc : st = .cutting ∨ st = .sawReturn → s.fcs.cutKind.isSome) :
    Sequencer.Law (st == .halted) (s.moveTo st why).fcs where
  halted := by simp [State.moveTo]
  pause := by
    by_cases h : st = .paused
    · simp [State.moveTo, h, hp h]
    · simp [State.moveTo, h]
  cutKind := by
    by_cases h : st = .cutting ∨ st = .sawReturn
    · simp [State.moveTo, h, hc h]
    · simp [State.moveTo, h]
  settle := by cases st <;> simp [State.moveTo]
  saw := by cases st <;> simp [State.moveTo]
  home := by cases st <;> simp [State.moveTo]
  stall := by cases st <;> simp [State.moveTo]
  reversals := hr

/-! ### The single moves -/

/-- What the sequencer does in a processing state, from single moves: a notice, a pass request, the check of a pending plan,
the commitment of the first piece, small changes of its items, and the entry into another processing state. -/
inductive State.Drives : State → State → Prop where
  | stays (s : State) : s.Drives s
  | tell (s : State) (n : Notice) : s.Drives (s.offerNotice n)
  | ask (s : State) : s.Drives s.requestPass
  | check (s : State) : s.Drives s.checkPending
  | commit (s : State) : s.Drives s.commit
  | items (s : State) (f : Sequencer) (h : s.fcs.Calmer f) : s.Drives { s with fcs := f }
  | move (s : State) (st : SeqState) (why : Option PauseReason) (hst : st.isProcessing = true)
      (hp : st = .paused → why.isSome) (hc : st = .cutting ∨ st = .sawReturn → s.fcs.cutKind.isSome) :
      s.Drives (s.moveTo st why)
  | cut (s : State) (kind : CutKind) :
      s.Drives (State.moveTo { s with fcs.cutKind := some kind, fcs.stopped := false } .cutting none)
  | turn (s : State) (h : s.fcs.reversals < 2) :
      s.Drives (State.moveTo { s with fcs.reversals := s.fcs.reversals + 1 } .reversing none)
  | trans {s t u : State} (h : s.Drives t) (h' : t.Drives u) : s.Drives u

namespace State.Drives

/-- A timer set or stopped, a mark or a count of the piece restarted. -/
theorem mark (s : State) (f : Sequencer) (h1 : f.state = s.fcs.state) (h2 : f.pause = s.fcs.pause)
    (h3 : f.cutKind = s.fcs.cutKind) (h4 : f.settleTimer = s.fcs.settleTimer) (h5 : f.sawTimer = s.fcs.sawTimer)
    (h6 : f.homeTimer = s.fcs.homeTimer) (h7 : f.stallTimer = s.fcs.stallTimer) (h8 : f.reversals ≤ s.fcs.reversals) :
    s.Drives { s with fcs := f } :=
  .items s f ⟨h1, h2, h3, by rw [h4]; exact id, by rw [h5]; exact id, by rw [h6]; exact id,
    by rw [h7]; exact fun h => .inr (.inr (.inr h)), h8⟩

variable (s : State)

/-! ### Entries -/

theorem notifyState (previous : SeqState) : s.Drives (s.notifyState previous) := .tell s _

theorem enter {st : SeqState} (hst : st.isProcessing = true) (hp : st ≠ .paused)
    (hc : st = .cutting ∨ st = .sawReturn → s.fcs.cutKind.isSome) : s.Drives (s.enter st) :=
  (move s st none hst (fun h => absurd h hp) hc).trans (notifyState _ _)

/-- What an entry into a stop state does once the state is taken. -/
theorem enterStop_moved (st : SeqState) (why : Option PauseReason) : (s.moveTo st why).Drives (s.enterStop st why) :=
  (check _).trans (notifyState _ _)

theorem enterStop {st : SeqState} {why : Option PauseReason} (hst : st.isStop = true) (hp : st = .paused → why.isSome) :
    s.Drives (s.enterStop st why) :=
  (move s st why (by cases st <;> simp_all [SeqState.isStop, SeqState.isProcessing]) hp
    (by cases st <;> simp_all [SeqState.isStop])).trans (enterStop_moved s st why)

theorem enterPaused (why : PauseReason) : s.Drives (s.enterPaused why) := enterStop s rfl fun _ => rfl

theorem enterSettling : s.Drives s.enterSettling := enterStop s rfl nofun

theorem arrivalTest : s.Drives s.arrivalTest := by
  unfold State.arrivalTest
  split
  · exact enterSettling s
  · exact stays s

theorem enterCreeping : s.Drives s.enterCreeping :=
  (enter s (st := .creeping) rfl nofun nofun).trans (arrivalTest _)

theorem approachTest : s.Drives s.approachTest := by
  unfold State.approachTest
  split
  · exact (commit s).trans (enterCreeping _)
  · exact stays s

theorem enterFeeding : s.Drives s.enterFeeding :=
  (enter s (st := .feeding) rfl nofun nofun).trans (approachTest _)

/-- What the entry into WAITING does once the state is taken. -/
theorem enterWaiting_moved : (s.moveTo .waiting none).Drives s.enterWaiting := by
  have h := enterStop_moved s .waiting none
  unfold State.enterWaiting
  dsimp only
  split
  · exact h.trans (enterFeeding _)
  · exact h

theorem enterWaiting : s.Drives s.enterWaiting := (move s .waiting none rfl nofun nofun).trans (enterWaiting_moved s)

theorem awaitPlan : s.Drives s.awaitPlan := by
  unfold State.awaitPlan
  split
  · exact enterWaiting s
  · exact enterPaused s _

theorem enterReversing (h : s.fcs.reversals < 2) : s.Drives s.enterReversing := (turn s h).trans (notifyState _ _)

theorem startCut (kind : CutKind) : s.Drives (s.startCut kind) := (cut s kind).trans (notifyState _ _)

theorem enterAtTarget : s.Drives s.enterAtTarget := by
  have h : s.Drives (s.enterStop .atTarget none) := enterStop s rfl nofun
  unfold State.enterAtTarget
  dsimp only
  split
  · split
    · exact h.trans (startCut _ _)
    · exact h.trans (enterPaused _ _)
  · exact h

theorem unstop : s.Drives { s with fcs.stopped := false } := mark s _ rfl rfl rfl rfl rfl rfl rfl le_rfl

theorem endSawReturn : s.Drives s.endSawReturn := by
  unfold State.endSawReturn
  split
  · exact (unstop s).trans (enterPaused _ _)
  · split
    · exact enterFeeding s
    · exact awaitPlan s

theorem enterSawReturn (h : s.fcs.cutKind.isSome) : s.Drives s.enterSawReturn := by
  have h : s.Drives (s.enter .sawReturn) := enter s (st := .sawReturn) rfl nofun fun _ => h
  unfold State.enterSawReturn
  dsimp only
  split
  · exact h.trans (endSawReturn _)
  · exact h

/-! ### Tests, reports, timers -/

theorem completionReport : s.Drives s.completionReport := by
  unfold State.completionReport
  split
  · split
    · exact enterFeeding s
    · split
      · exact stays s
      · exact enterPaused s _
  · split
    · exact stays s
    · exact awaitPlan s
  all_goals exact stays s

theorem trackMovement : s.Drives s.trackMovement := by
  have h : ∀ r : SeqState, s.fcs.state = r → r = .feeding ∨ r = .creeping ∨ r = .reversing →
      s.Drives { s with fcs.stallReference := s.lnu.length, fcs.stallTimer := some 0 } := fun r hr h =>
    .items s _ ⟨rfl, rfl, rfl, id, id, id, fun _ => by
      rw [hr]
      obtain h | h | h := h
      · exact .inl h
      · exact .inr (.inl h)
      · exact .inr (.inr (.inl h)), le_rfl⟩
  unfold State.trackMovement
  split
  · split
    · exact h _ ‹_› (.inl rfl)
    · exact stays s
  · split
    · exact h _ ‹_› (.inr (.inl rfl))
    · exact stays s
  · split
    · exact h _ ‹_› (.inr (.inr rfl))
    · exact stays s
  all_goals exact stays s

theorem targetTest (forward : Bool) : s.Drives (s.targetTest forward) := by
  unfold State.targetTest
  split
  · split
    · exact approachTest s
    · exact stays s
  · split
    · exact arrivalTest s
    · exact stays s
  · split
    · exact enterSettling s
    · exact stays s
  all_goals exact stays s

theorem sequencerUpdate (forward : Bool) : s.Drives (s.sequencerUpdate forward) :=
  (targetTest s forward).trans (trackMovement _)

theorem settleExpires : s.Drives s.settleExpires := by
  unfold State.settleExpires
  split
  · exact items s _ ⟨rfl, rfl, rfl, nofun, id, id, fun h => .inr (.inr (.inr h)), le_rfl⟩
  · dsimp only
    split
    · exact enterAtTarget s
    · split
      · split
        · exact enterReversing s ‹_›
        · exact (mark s { s.fcs with overshoot := true } rfl rfl rfl rfl rfl rfl rfl le_rfl).trans (enterAtTarget _)
      · exact enterCreeping s

theorem homeExpires : s.Drives s.homeExpires := ((tell s _).trans (unstop _)).trans (enterPaused _ _)

theorem stallExpires : s.Drives s.stallExpires := (tell s _).trans (enterPaused _ _)

theorem sawExpires (h : s.fcs.state ≠ .felling) : s.Drives s.sawExpires := by
  have hoff : s.Drives { s with fcs.sawTimer := none } :=
    items s _ ⟨rfl, rfl, rfl, id, nofun, id, fun h => .inr (.inr (.inr h)), le_rfl⟩
  unfold State.sawExpires
  split
  · exact absurd ‹_› h
  · exact (tell s _).trans (enterPaused _ _)
  all_goals exact hoff

theorem sawHomeAsserts : s.Drives s.sawHomeAsserts := by
  unfold State.sawHomeAsserts
  split
  · exact endSawReturn s
  all_goals exact stays s

theorem stopCut (h : s.fcs.cutKind.isSome) : s.Drives s.stopCut :=
  (mark s { s.fcs with stopped := true } rfl rfl rfl rfl rfl rfl rfl le_rfl).trans (enterSawReturn _ h)

end State.Drives

/-! ### What every move keeps -/

/-- A commitment keeps the sequencer's state and what its law speaks of. -/
theorem State.commit_calmer (s : State) : s.fcs.Calmer s.commit.fcs := by
  have hsame : ∀ f : Sequencer, f.Calmer f := fun f => ⟨rfl, rfl, rfl, id, id, id, fun h => .inr (.inr (.inr h)), le_rfl⟩
  unfold State.commit
  split
  · split
    · split
      · exact ⟨rfl, rfl, rfl, id, id, id, fun h => .inr (.inr (.inr h)), Nat.zero_le _⟩
      · exact hsame _
    · exact hsame _
  · exact hsame _

/-- The sequencer's law and its being in a processing state pass through every move. -/
theorem State.Drives.law {s t : State} (h : s.Drives t)
    (hs : Sequencer.Law false s.fcs ∧ s.fcs.state.isProcessing = true) :
    Sequencer.Law false t.fcs ∧ t.fcs.state.isProcessing = true := by
  have hne : ∀ st : SeqState, st.isProcessing = true → (st == .halted) = false := by
    intro st
    cases st <;> simp [SeqState.isProcessing]
  have hcalmer : ∀ {u v : State}, u.fcs.Calmer v.fcs → Sequencer.Law false u.fcs ∧ u.fcs.state.isProcessing = true →
      Sequencer.Law false v.fcs ∧ v.fcs.state.isProcessing = true := fun hc hu =>
    ⟨hu.1.calmer hc, by rw [hc.state]; exact hu.2⟩
  induction h with
  | stays => exact hs
  | tell => simpa using hs
  | ask => simpa using hs
  | check => simpa using hs
  | commit => exact hcalmer (State.commit_calmer _) hs
  | items s f h => exact hcalmer h hs
  | move s st why hst hp hc =>
    have := Sequencer.Law.moveTo (s := s) (st := st) (why := why) hs.1.reversals hp hc
    rw [hne st hst] at this
    exact ⟨this, hst⟩
  | cut s kind =>
    exact ⟨Sequencer.Law.moveTo (s := { s with fcs.cutKind := some kind, fcs.stopped := false }) (st := .cutting) (why := none)
      hs.1.reversals nofun fun _ => rfl, rfl⟩
  | turn s h =>
    exact ⟨Sequencer.Law.moveTo (s := { s with fcs.reversals := s.fcs.reversals + 1 }) (st := .reversing) (why := none)
      (Nat.succ_le_of_lt h) nofun nofun, rfl⟩
  | trans _ _ ih ih' => exact ih' (ih hs)

/-- What none of the single moves touches. -/
theorem State.Drives.frame {s t : State} (h : s.Drives t) : t.lnu = s.lnu ∧ t.lines = s.lines ∧ t.dsq = s.dsq ∧
    t.atb = s.atb ∧ t.params = s.params ∧ t.pending = s.pending ∧ t.stb.group = s.stb.group ∧
    t.stb.nextHandle = s.stb.nextHandle := by
  induction h with
  | trans _ _ ih ih' => simp [ih, ih']
  | _ => simp

end Sys2Proof.Machine

/-! PROOF. The requesters (R70, R74) and the pass requests (R124, R134): arbitration leaves no requester waiting behind an
idle sequencer, and a pass-pending flag stands only while a pass is in flight. -/

namespace Sys2Proof.Machine

open Sys2Proof

/-! ### The two laws apart -/

/-- The law of the requesters of the Diameter Sequencer (R70, R74). -/
structure DiameterSequencer.Law (d : DiameterSequencer) : Prop where
  feed : d.stateNumber = 1 → d.feedPending = none
  trim : d.stateNumber = 2 → d.trimPending = none
  cab : d.stateNumber = 3 → d.cabPending = none
  idle : d.running = none → d.feedPending = none ∧ d.trimPending = none ∧ d.cabPending = none

/-- The law of the pass requests (R124, R134). -/
structure BuckingEngine.Law (b : BuckingEngine) : Prop where
  flag : b.flag = true → b.inFlight.isSome
  counter : b.counter ≤ 255
  number : ∀ p, b.inFlight = some p → p.number ≤ 255

theorem State.requesterLaw_iff (s : State) : s.RequesterLaw ↔ s.dsq.Law ∧ s.bke.Law :=
  ⟨fun ⟨h1, h2, h3, h4, h5, h6, h7⟩ => ⟨⟨h1, h2, h3, h4⟩, h5, h6, h7⟩,
    fun ⟨⟨h1, h2, h3, h4⟩, h5, h6, h7⟩ => ⟨h1, h2, h3, h4, h5, h6, h7⟩⟩

/-! ### Arbitration (R74) -/

/-- Arbitration leaves the law where the sequencer runs and has it, and where it is idle. -/
theorem State.arbitrate_law {s : State} (h : s.dsq.running.isSome → s.dsq.Law) : s.arbitrate.dsq.Law := by
  unfold State.arbitrate
  split
  · rename_i q hq
    exact h (by simp [hq])
  · split
    · constructor <;> simp [DiameterSequencer.stateNumber, RunningSequence.starting]
    · constructor <;> simp [DiameterSequencer.stateNumber, RunningSequence.starting]
    · constructor <;> simp [DiameterSequencer.stateNumber, RunningSequence.starting]
    · rename_i hr _ _ _ hf ht hc
      constructor <;> simp [hf, ht, hc]

/-- A raised FEED request keeps the law. -/
theorem State.raiseFeed_law {s : State} (h : s.dsq.Law) (r : FeedRequest) : (s.raiseFeed r).dsq.Law := by
  unfold State.raiseFeed
  split
  · simpa using h
  · rename_i hb
    refine State.arbitrate_law fun hr => ⟨fun h1 => ?_, h.trim, h.cab, fun hn => ?_⟩
    · simp only [DiameterSequencer.feedBusy, Bool.or_eq_true, beq_iff_eq, not_or] at hb
      exact absurd h1 hb.2
    · exact absurd (show s.dsq.running = none from hn) (Option.isSome_iff_ne_none.mp hr)

/-- A raised TRIM request keeps the law. -/
theorem State.raiseTrim_law {s : State} (h : s.dsq.Law) (r : TrimRequest) : (s.raiseTrim r).dsq.Law := by
  unfold State.raiseTrim
  split
  · exact h
  · rename_i hb
    refine State.arbitrate_law fun hr => ⟨h.feed, fun h1 => ?_, h.cab, fun hn => ?_⟩
    · simp only [DiameterSequencer.trimBusy, Bool.or_eq_true, beq_iff_eq, not_or] at hb
      exact absurd h1 hb.2
    · exact absurd (show s.dsq.running = none from hn) (Option.isSome_iff_ne_none.mp hr)

/-- So does a CAB request of a free requester. -/
theorem State.raiseCab_law {s : State} (h : s.dsq.Law) (hb : s.dsq.cabBusy = false) (c : CabRequest) :
    (State.arbitrate { s with dsq.cabPending := some c }).dsq.Law := by
  refine State.arbitrate_law fun hr => ⟨h.feed, h.trim, fun h1 => ?_, fun hn => ?_⟩
  · simp only [DiameterSequencer.cabBusy, Bool.or_eq_false_iff, beq_eq_false_iff_ne] at hb
    exact absurd h1 hb.2
  · exact absurd (show s.dsq.running = none from hn) (Option.isSome_iff_ne_none.mp hr)

/-- The FEED requester at a group end keeps the law. -/
theorem State.cancelFeed_law {s : State} (h : s.dsq.Law) : s.cancelFeed.dsq.Law := by
  unfold State.cancelFeed
  dsimp only
  split
  · exact State.arbitrate_law (by simp)
  · exact ⟨fun _ => rfl, h.trim, h.cab, fun hn => ⟨rfl, (h.idle hn).2⟩⟩

/-- Nothing that a delivery tells the sequencer starts a sequence in the place of the one that has ended. -/
theorem State.deliver_running {s : State} (h : s.dsq.running = none) (q : RunningSequence) (m : MeasureReport) :
    (s.deliver q m).dsq.running = none := by
  have hend : ∀ t : State, t.dsq.running = none → t.groupEnd.dsq.running = none := by
    intro t ht
    simp [State.groupEnd, State.cancelFeed, DiameterSequencer.stateNumber, ht]
  unfold State.deliver
  split
  · unfold State.deliverFeed
    split
    · exact h
    · split
      · simpa using h
      · dsimp only
        split
        · exact hend _ (by simpa using h)
        · simpa using h
  · simpa using h
  · simpa using h

theorem State.finishSequence_law (s : State) (q : RunningSequence) (r : Readings) : (s.finishSequence q r).dsq.Law :=
  State.arbitrate_law fun h => by
    rw [State.deliver_running (s := { s with dsq.running := none }) rfl] at h
    cases h

/-- A trigger keeps the law. -/
theorem State.triggerCheck_law {s : State} (h : s.dsq.Law) : s.triggerCheck.dsq.Law := by
  unfold State.triggerCheck
  split
  · exact State.raiseFeed_law h _
  · exact h

theorem State.pulse_dsqLaw {s : State} (h : s.dsq.Law) (e : Encoder) (d : Direction) : (s.pulse e d).dsq.Law := by
  have hupdate : ∀ (t : State) (forward : Bool), t.dsq.Law → (t.lengthUpdate forward).dsq.Law := by
    intro t forward ht
    unfold State.lengthUpdate
    dsimp only
    split
    · exact State.triggerCheck_law (by simpa using ht)
    · simpa using ht
  have hlength : ∀ t : State, t.dsq.Law → t.updateLength.dsq.Law := by
    intro t ht
    unfold State.updateLength
    dsimp only
    split
    · simpa using ht
    · exact hupdate _ _ (by simpa using ht)
  unfold State.pulse
  rw [(State.accountWindow_frame _ e d).2.1]
  split
  · exact hlength _ (by simpa using h)
  · simpa using h

/-! ### Pass requests (R124, R126, R134) -/

theorem BuckingEngine.Law.startPass {s : State} (h : s.bke.Law) (lead : StemRecord) : (s.startPass lead).bke.Law where
  flag h := by cases h
  counter := Nat.le_of_lt_succ (Nat.mod_lt _ (by decide))
  number p hp := by
    cases hp
    exact h.counter

theorem BuckingEngine.Law.requestPass {s : State} (h : s.bke.Law) : s.requestPass.bke.Law := by
  unfold State.requestPass
  split
  · exact h
  · split
    · exact ⟨fun _ => ‹_›, h.counter, h.number⟩
    · exact h.startPass _

theorem BuckingEngine.Law.voidPass {s : State} (h : s.bke.Law) : s.voidPass.bke.Law where
  flag h := by cases h
  counter := h.counter
  number p hp := by
    obtain ⟨q, hq, rfl⟩ := Option.map_eq_some_iff.mp hp
    exact h.number q hq

theorem BuckingEngine.Law.voidPassOf {s : State} (h : s.bke.Law) (lead : Nat) : (s.voidPassOf lead).bke.Law := by
  unfold State.voidPassOf
  split
  · split
    · exact h.voidPass
    · exact h
  · exact h.voidPass

theorem BuckingEngine.Law.checkPending {s : State} (h : s.bke.Law) : s.checkPending.bke.Law := by
  obtain ⟨-, he⟩ | ⟨k, r, res, -, -, ⟨-, he⟩ | ⟨-, he⟩⟩ := s.checkPending_cases
  · rwa [he]
  · rw [he]
    exact requestPass (by simpa using h)
  · rw [he]
    have hi : (s.install k r .fromPending res).bke.Law := by simpa using h
    exact ⟨hi.flag, hi.counter, hi.number⟩

/-- The law passes through every move of the sequencer. -/
theorem State.Drives.bke_law {s t : State} (h : s.Drives t) (hs : s.bke.Law) : t.bke.Law := by
  induction h with
  | ask s => exact hs.requestPass
  | check s => exact hs.checkPending
  | trans _ _ ih ih' => exact ih' (ih hs)
  | _ => simpa using hs

/-- A completion ends the pass; the flag that asks for the next one does not outlive it. -/
theorem BuckingEngine.Law.finishPass {s : State} (h : s.bke.Law) (p : Pass) : (s.finishPass p).bke.Law := by
  have hact : ∀ (o : PassOutcome) (held : Option Override) (res : PassResult), (s.actOn held res o).bke.counter ≤ 255 := by
    intro o held res
    unfold State.actOn
    cases o <;> dsimp only <;> (try split) <;> simp [State.recordOutcome, h.counter]
  have hend : ∀ t : State, t.bke.counter ≤ 255 → t.nextPass.bke.Law := by
    intro t ht
    unfold State.nextPass
    dsimp only
    have hended : BuckingEngine.Law { t.bke with inFlight := none, flag := false } :=
      ⟨fun h => (by cases h), ht, fun p hp => by cases hp⟩
    split
    · exact BuckingEngine.Law.startPass (s := { t with bke.inFlight := none, bke.flag := false }) hended _
    · exact hended
  exact hend _ (hact _ _ _)

/-! ### The parts of a step -/

/-- The entry into SAW_RETURN, and the end of the return at once where the saw is home. -/
theorem State.Drives.sawReturn_entered (s : State) : (s.enter .sawReturn).Drives s.enterSawReturn := by
  unfold State.enterSawReturn
  dsimp only
  split
  · exact .endSawReturn _
  · exact .stays _

theorem BuckingEngine.Law.enterSawReturn {s : State} (h : s.bke.Law) : s.enterSawReturn.bke.Law :=
  (State.Drives.sawReturn_entered s).bke_law (by simpa using h)

theorem BuckingEngine.Law.completeCut {s : State} (h : s.bke.Law) : s.completeCut.bke.Law := by
  unfold State.completeCut
  extract_lets u v
  have hu : u.bke = s.bke := by
    simp only [u]
    split <;> simp
  have hv : v.bke.Law := requestPass (s := u.clearPieceFlags) (by simpa [hu] using h)
  exact enterSawReturn (by simpa using hv)

theorem BuckingEngine.Law.sawEndAsserts {s : State} (h : s.bke.Law) : s.sawEndAsserts.bke.Law := by
  unfold State.sawEndAsserts
  split
  · exact h.completeCut
  · simpa using h
  all_goals simpa using h

theorem BuckingEngine.Law.deliver {s : State} (h : s.bke.Law) (q : RunningSequence) (m : MeasureReport) :
    (s.deliver q m).bke.Law := by
  have hend : ∀ t : State, t.bke.Law → t.groupEnd.bke.Law := by
    intro t ht
    have : t.groupEnd.bke = t.cancelFeed.voidPass.bke := by simp [State.groupEnd]
    rw [this]
    exact voidPass (by simpa using ht)
  unfold State.deliver
  split
  · unfold State.deliverFeed
    split
    · exact h
    · split
      · simpa using h
      · dsimp only
        split
        · exact hend _ (by simpa using h)
        · exact requestPass (by simpa using h)
  · simpa using h
  · simpa using h

theorem BuckingEngine.Law.pulse {s : State} (h : s.bke.Law) (e : Encoder) (d : Direction) : (s.pulse e d).bke.Law := by
  have hupdate : ∀ (t : State) (forward : Bool), t.bke.Law → (t.lengthUpdate forward).bke.Law := by
    intro t forward ht
    have := (State.Drives.sequencerUpdate (t.modifyActive (StemRecord.reached t.lnu.length)) forward).bke_law
      (by simpa using ht)
    unfold State.lengthUpdate
    dsimp only
    split
    · simpa using this
    · exact this
  have hlength : ∀ t : State, t.bke.Law → t.updateLength.bke.Law := by
    intro t ht
    unfold State.updateLength
    dsimp only
    split
    · simpa using ht
    · exact hupdate _ _ (by simpa using ht)
  unfold State.pulse
  rw [(State.accountWindow_frame _ e d).2.2.2.1]
  split
  · exact hlength _ (by simpa using h)
  · simpa using h

theorem BuckingEngine.Law.sawExpires {s : State} (h : s.bke.Law) : s.sawExpires.bke.Law := by
  by_cases hst : s.fcs.state = .felling
  · unfold State.sawExpires
    simpa [hst] using h
  · exact (State.Drives.sawExpires s hst).bke_law h

theorem BuckingEngine.Law.storeParameter {s : State} (h : s.bke.Law) (n v : Nat) : (s.storeParameter n v).bke.Law := by
  have hs : ({ s with params := s.params.set n v } : State).bke.Law := h
  unfold State.storeParameter
  split
  · exact h
  · split
    · simpa using h
    · simpa using h
    · unfold State.timerAtChange
      split
      · split
        · exact (State.Drives.settleExpires _).bke_law hs
        · exact hs
      · split
        · exact hs.sawExpires
        · exact hs
      · split
        · exact (State.Drives.homeExpires _).bke_law hs
        · exact hs
      · split
        · exact (State.Drives.stallExpires _).bke_law hs
        · exact hs
      · exact hs

/-- A handled request keeps the law of the requesters. -/
theorem State.Handles.dsq_law {s t : State} (h : s.Handles t) (hs : s.dsq.Law) : t.dsq.Law := by
  have hfree : ∀ d : DiameterSequencer, d.running = none → d.feedPending = none → d.trimPending = none →
      d.cabPending = none → d.Law := fun d h1 h2 h3 h4 => ⟨fun _ => h2, fun _ => h3, fun _ => h4, fun _ => ⟨h2, h3, h4⟩⟩
  have habort : ∀ u : State, u.abortMeasurements.dsq.Law := by
    intro u
    unfold State.abortMeasurements
    dsimp only
    split <;> exact hfree _ (by simp) (by simp) (by simp) (by simp)
  cases h with
  | armPoint c i raw con =>
    have hn : (s.dsq.setTable c ((s.dsq.table c).setIfInBounds i (some ⟨raw, con⟩))).stateNumber = s.dsq.stateNumber := by
      simp [DiameterSequencer.stateNumber]
    exact ⟨fun h1 => by simpa using hs.feed (hn ▸ h1), fun h1 => by simpa using hs.trim (hn ▸ h1),
      fun h1 => by simpa using hs.cab (hn ▸ h1), fun h1 => by simpa using hs.idle (by simpa using h1)⟩
  | fell slot species =>
    have := State.raiseTrim_law (s := s.openRecord slot species) (by simpa using hs) ⟨slot, s.stb.nextHandle⟩
    simpa [State.acceptFell] using this
  | release =>
    unfold State.release
    dsimp only
    split
    · have := State.cancelFeed_law (s := s.releaseGroup) (by simpa using hs)
      simpa using this
    · simpa using hs
  | cab c hb => exact State.raiseCab_law hs hb c
  | stems => simpa [State.reinitialiseStems] using habort s
  | all =>
    have : s.reinitialiseAll.dsq = s.abortMeasurements.clearTables.dsq := by
      simp [State.reinitialiseAll, State.clearConfiguration]
    rw [this]
    unfold State.abortMeasurements
    dsimp only
    split <;> exact hfree _ (by simp [State.clearTables]) (by simp [State.clearTables]) (by simp [State.clearTables])
      (by simp [State.clearTables])
  | _ => simpa using hs

/-- A handled request keeps the law of the pass requests. -/
theorem State.Handles.bke_law {s t : State} (h : s.Handles t) (hs : s.bke.Law) : t.bke.Law := by
  cases h with
  | parameter n v => exact hs.storeParameter n v
  | recordPass => exact BuckingEngine.Law.requestPass (by simpa using hs)
  | freeze => exact BuckingEngine.Law.voidPassOf (by simpa using hs) _
  | pass => exact hs.requestPass
  | start =>
    refine (State.Drives.enterWaiting _).bke_law (BuckingEngine.Law.requestPass ?_)
    simpa using hs
  | resume => exact (State.Drives.enterFeeding _).bke_law hs
  | await => exact (State.Drives.enterWaiting _).bke_law hs
  | stop => exact (State.Drives.enterPaused _ _).bke_law hs
  | stopCut => exact BuckingEngine.Law.enterSawReturn (s := { s with fcs.stopped := true }) hs
  | release =>
    unfold State.release
    dsimp only
    split
    · have := BuckingEngine.Law.voidPass (s := s.releaseGroup.cancelFeed) (by simpa using hs)
      simpa using this
    · simpa using hs
  | stems =>
    have : s.reinitialiseStems.bke = s.voidPass.bke := by simp [State.reinitialiseStems, State.voidPass]
    rw [this]
    exact hs.voidPass
  | all =>
    have : s.reinitialiseAll.bke = s.voidPass.bke := by
      simp [State.reinitialiseAll, State.clearConfiguration, State.voidPass]
    rw [this]
    exact hs.voidPass
  | _ => simpa using hs

/-- The law of the requesters passes through every part of a step. -/
theorem requester_parts : StepParts (fun _ s => s.dsq.Law ∧ s.bke.Law) fun _ s => s.dsq.Law ∧ s.bke.Law where
  blocks h hb := by rwa [hb.2.2.1, hb.2.2.2.2.1]
  blocks' h hb := by rwa [hb.2.2.1, hb.2.2.2.2.1]
  weaken h := h
  powerOn _ _ _ := ⟨⟨fun _ => rfl, fun _ => rfl, fun _ => rfl, fun _ => ⟨rfl, rfl, rfl⟩⟩, nofun, Nat.zero_le _, nofun⟩
  request h hs := ⟨h.dsq_law hs.1, h.bke_law hs.2⟩
  pulse e d h := ⟨State.pulse_dsqLaw h.1 e d, h.2.pulse e d⟩
  fault e h := by simpa using h
  contact _ h := by simpa using h
  sawEnd h := ⟨by simpa using h.1, h.2.sawEndAsserts⟩
  sawHome h := ⟨by simpa using h.1, (State.Drives.sawHomeAsserts _).bke_law h.2⟩
  haltOn h := by simpa using h
  haltOff h := by
    refine ⟨by simpa using h.1, ?_⟩
    unfold State.haltReleases
    split
    · exact (State.Drives.enterPaused _ _).bke_law h.2
    · simpa using h.2
    · simpa using h.2
  count h := by simpa using h
  settle _ h := ⟨by simpa using h.1, (State.Drives.settleExpires _).bke_law h.2⟩
  saw _ h := ⟨by simpa using h.1, h.2.sawExpires⟩
  home _ h := ⟨by simpa using h.1, (State.Drives.homeExpires _).bke_law h.2⟩
  stall _ h := ⟨by simpa using h.1, (State.Drives.stallExpires _).bke_law h.2⟩
  sequence r _ h := by
    refine ⟨State.finishSequence_law _ _ r, ?_⟩
    unfold State.finishSequence
    have hd : ∀ (s : State) (m : MeasureReport) (q : RunningSequence), s.bke.Law →
        (State.deliver { s with dsq.running := none } q m).bke.Law := fun s m q hs =>
      BuckingEngine.Law.deliver (s := { s with dsq.running := none }) hs q m
    simpa using hd _ _ _ h.2
  pass _ h := ⟨by simpa using h.1, (State.Drives.completionReport _).bke_law (h.2.finishPass _)⟩

/-- Settles O44: the two laws through the parts of a step. -/
theorem requesterLawKept : Obligations.RequesterLawKept := fun s t h hstep =>
  t.requesterLaw_iff.mpr (requester_parts.step (s.requesterLaw_iff.mp h) hstep)

end Sys2Proof.Machine

/-! PROOF. The Length Unit's ranges (R44 to R48, R55, R58 to R61): each operation on its items, and the parts of a step. -/

namespace Sys2Proof.Machine

open Sys2Proof

/-- How n follows the source state (section 3.7). -/
def SourceState.allows : SourceState → Nat → Prop
  | .wheel, n | .roller, n => n = 0
  | .disputed, n => n = 1 ∨ n = 2
  | .rejoin, n => n = 1

/-- The law of the Length Unit's items. -/
structure LengthUnit.Law (l : LengthUnit) : Prop where
  length : -2000 ≤ l.length ∧ l.length ≤ 60000
  base : -2000 ≤ l.base ∧ l.base ≤ 60000
  wheelRun : l.wheelRun.natAbs ≤ 8000000
  rollerRun : l.rollerRun.natAbs ≤ 8000000
  wheelCount : l.window.wheelCount.natAbs ≤ 8000000
  rollerCount : l.window.rollerCount.natAbs ≤ 8000000
  window : l.window.least ≤ l.length ∧ l.length ≤ l.window.greatest
  wheelFaults : l.wheelFaults ≤ 8
  rollerFaults : l.rollerFaults ≤ 8
  source : l.source.allows l.n
  rollerLen : l.source.usesWheel = false → l.rollerLen = true

theorem State.lengthLaw_iff (s : State) : s.LengthLaw ↔ s.lnu.Law := by
  unfold State.LengthLaw
  constructor
  · rintro ⟨h1, h2, h3, h4, h5, h6, h7, h8, h9, h10, h11⟩
    refine ⟨h1, h2, h3, h4, h5, h6, h7, h8, h9, ?_, h11⟩
    cases h : s.lnu.source <;> rw [h] at h10 <;> exact h10
  · rintro ⟨h1, h2, h3, h4, h5, h6, h7, h8, h9, h10, h11⟩
    refine ⟨h1, h2, h3, h4, h5, h6, h7, h8, h9, ?_, h11⟩
    cases h : s.lnu.source <;> rw [h] at h10 <;> exact h10

namespace LengthUnit.Law

variable {s : State}

/-! ### Counts, conversion, windows (R44, R46, R55) -/

theorem countPulse_range (d : Direction) (n : Int) : (countPulse d n).natAbs ≤ 8000000 := by
  unfold countPulse clampInt
  omega

theorem addPulse (h : s.lnu.Law) (e : Encoder) (d : Direction) : (s.addPulse e d).lnu.Law := by
  cases e with
  | wheel => exact { h with wheelRun := countPulse_range _ _, wheelCount := countPulse_range _ _ }
  | roller => exact { h with rollerRun := countPulse_range _ _, rollerCount := countPulse_range _ _ }

theorem recompute (h : s.lnu.Law) : s.recompute.lnu.Law := by
  rw [State.recompute_eq]
  refine { h with length := ?_, window := ⟨min_le_right _ _, le_max_right _ _⟩ }
  simp only [LengthUnit.converted]
  omega

theorem newWindow (h : s.lnu.Law) : s.newWindow.lnu.Law :=
  { h with wheelCount := by simp [State.newWindow], rollerCount := by simp [State.newWindow]
           window := ⟨le_refl _, le_refl _⟩, wheelFaults := Nat.zero_le _, rollerFaults := Nat.zero_le _ }

theorem rebase (h : s.lnu.Law) (toWheel : Bool) : (s.rebase toWheel).lnu.Law := by
  unfold State.rebase
  cases toWheel with
  | true => exact { h with base := h.length, wheelRun := by simp }
  | false => exact { h with base := h.length, rollerRun := by simp }

/-! ### Source states (R58 to R61) -/

theorem setSource (h : s.lnu.Law) {new : SourceState} {n : Nat} (hn : new.allows n) (cause : SourceCause) :
    (s.setSource new n cause).lnu.Law := by
  have hm : ∀ t : State, t.lnu.Law → ({ t.lnu with source := new, n := n, rollerLen := t.lnu.rollerLen || !new.usesWheel } : LengthUnit).Law :=
    fun t ht => { ht with source := hn, rollerLen := fun hw => by simp [hw] }
  unfold State.setSource
  dsimp only
  split
  · next heq => exact { h with source := heq ▸ hn }
  · split
    · simpa using hm s h
    · simpa using hm _ (h.rebase _)

theorem forceRoller (h : s.lnu.Law) (cause : SourceCause) : (s.forceRoller cause).lnu.Law := by
  unfold State.forceRoller
  split
  · exact h
  · exact h.setSource (new := .roller) rfl cause

theorem judgedMove (h : s.lnu.Law) (disputed : Bool) : (s.judgedMove disputed).lnu.Law := by
  unfold State.judgedMove
  split
  · exact h.setSource (new := .disputed) (.inl rfl) _
  · exact h
  · rename_i hs
    split
    · exact h.setSource (new := .roller) rfl _
    · have := h.source
      rw [hs] at this
      refine h.setSource (new := .disputed) ?_ _
      simp only [SourceState.allows] at this ⊢
      omega
  · exact h.setSource (new := .wheel) rfl _
  · exact h
  · exact h.setSource (new := .rejoin) rfl _
  · exact h.setSource (new := .roller) rfl _
  · rename_i hs
    have := h.source
    rw [hs] at this
    simp only [SourceState.allows] at this
    rw [if_pos (by omega)]
    exact h.setSource (new := .wheel) rfl _

theorem endWindow (h : s.lnu.Law) : s.endWindow.lnu.Law := by
  have hjudge : s.judgeWindow.lnu.Law := by
    unfold State.judgeWindow
    split
    · have hr : s.reportDisputed.lnu.Law := by simpa using h
      exact judgedMove (s := { s.reportDisputed with lnu.slipSuspect := true }) { hr with } true
    · exact h.judgedMove false
  unfold State.endWindow
  split
  · exact hjudge.newWindow
  · exact h.newWindow

theorem clearPieceFlags (h : s.lnu.Law) : s.clearPieceFlags.lnu.Law :=
  { h with rollerLen := fun hw => by simpa [State.clearPieceFlags] using hw }

/-! ### Faults, contact, datum, constants (R44, R45, R50 to R52) -/

theorem countFault_le (n : Nat) : countFault n ≤ 8 := by
  unfold countFault
  split <;> omega

theorem countQuadratureFault (h : s.lnu.Law) (e : Encoder) : (s.countQuadratureFault e).lnu.Law := by
  have hw : ({ s.lnu with wheelFaults := countFault s.lnu.wheelFaults } : LengthUnit).Law :=
    { h with wheelFaults := countFault_le _ }
  have hr : ({ s.lnu with rollerFaults := countFault s.lnu.rollerFaults } : LengthUnit).Law :=
    { h with rollerFaults := countFault_le _ }
  unfold State.countQuadratureFault
  cases e with
  | wheel =>
    dsimp only
    split
    · exact forceRoller (s := { s with lnu := { s.lnu with wheelFaults := countFault s.lnu.wheelFaults, wheelFaulty := true } })
        { hw with } _
    · exact hw
  | roller =>
    dsimp only
    split
    · have : ({ s.lnu with rollerFaults := countFault s.lnu.rollerFaults, rollerFaulty := true, slipSuspended := true } :
        LengthUnit).Law := { hr with }
      simpa [State.rollerBecomesFaulty] using this
    · exact hr

theorem contactChanged (h : s.lnu.Law) (level : Bool) : (s.contactChanged level).lnu.Law := by
  unfold State.contactChanged
  cases level with
  | true => exact newWindow h
  | false => exact newWindow (forceRoller (s := { s with lines.wheelContact := .settled false }) h _)

theorem restartLength (s : State) (trigger : Int) : (s.restartLength trigger).lnu.Law := by
  constructor <;> (try simp [State.restartLength]; done)
  unfold State.restartLength State.sourceByContact
  simp only
  split <;> rfl

theorem datum (s : State) : s.datum.lnu.Law := by
  unfold State.datum
  dsimp only
  split
  · exact restartLength s _
  · simpa using restartLength s _

theorem changeConstant (h : s.lnu.Law) (e : Encoder) (v : Nat) : (s.changeConstant e v).lnu.Law := by
  have hw : ∀ (t : State) (p : Parameters), t.lnu.Law → (State.newWindow { t with params := p }).lnu.Law :=
    fun t p ht => newWindow (s := { t with params := p }) ht
  unfold State.changeConstant
  cases e <;> dsimp only <;> split
  · exact hw _ _ (h.rebase true)
  · exact hw _ _ h
  · exact hw _ _ h
  · exact hw _ _ (h.rebase false)

/-! ### Pulses and measurements (R44, R49, R53, R10) -/

/-- T is free. -/
theorem trigger (h : s.lnu.Law) (t : Int) : ({ s.lnu with trigger := t } : LengthUnit).Law := { h with }

theorem lengthUpdate (h : s.lnu.Law) (forward : Bool) : (s.lengthUpdate forward).lnu.Law := by
  unfold State.lengthUpdate State.triggerCheck
  dsimp only
  split
  · split
    · simpa using trigger h _
    · simpa using h
  · simpa using h

theorem pulse (h : s.lnu.Law) (e : Encoder) (d : Direction) : (s.pulse e d).lnu.Law := by
  have hlast : ∀ t : State, t.lnu.Law → (t.accountWindow e d).lnu.Law := by
    intro t ht
    unfold State.accountWindow
    split
    · exact ht
    · exact ht.newWindow
    · split
      · exact ht.endWindow
      · exact ht
  have ha := h.addPulse e d
  unfold State.pulse State.updateLength
  refine hlast _ ?_
  split
  · dsimp only
    split
    · exact ha.recompute
    · exact ha.recompute.lengthUpdate _
  · exact ha

theorem deliver (h : s.lnu.Law) (q : RunningSequence) (m : MeasureReport) : (s.deliver q m).lnu.Law := by
  have happend : ∀ (f : FeedRequest) (n : Nat), (s.appendSamples f n m).lnu.Law := by
    intro f n
    have ht : ∀ (t : State) (k : Int), t.lnu = s.lnu → ({ t.lnu with trigger := k } : LengthUnit).Law :=
      fun t k hk => by rw [hk]; exact trigger h k
    unfold State.appendSamples
    dsimp only
    split
    · exact ht _ _ (by simp)
    · simpa using h
  unfold State.deliver State.deliverFeed
  split
  · split
    · exact h
    · split
      · simpa using h
      · dsimp only
        split
        · simpa [State.stemEnd, State.groupEnd] using happend _ _
        · simpa using happend _ _
  · simpa using h
  · simpa using h

end LengthUnit.Law

/-! ### The parts of a step -/

/-- A handled request keeps the law of the Length Unit. -/
theorem State.Handles.lnu_law {s t : State} (h : s.Handles t) (hs : s.lnu.Law) : t.lnu.Law := by
  cases h with
  | parameter n v =>
    unfold State.storeParameter
    split
    · exact hs
    · split
      · exact hs.changeConstant _ _
      · exact hs.changeConstant _ _
      · unfold State.timerAtChange
        split <;> (try split) <;> simpa using hs
  | start =>
    have hd := LengthUnit.Law.datum s.startMembers
    simpa [State.startGroup] using hd
  | stems =>
    have := LengthUnit.Law.restartLength s.abortMeasurements.clearStems 0
    simpa [State.reinitialiseStems] using this
  | all =>
    have := LengthUnit.Law.restartLength s.abortMeasurements.clearConfiguration.clearStems 0
    simpa [State.reinitialiseAll] using this
  | _ => simpa using hs

/-- The law of the Length Unit passes through every part of a step. -/
theorem length_parts : StepParts (fun _ s => s.lnu.Law) fun _ s => s.lnu.Law where
  blocks h hb := by rwa [hb.2.1]
  blocks' h hb := by rwa [hb.2.1]
  weaken h := h
  powerOn _ _ _ := by constructor <;> simp [State.powerOn, LengthUnit.powerOn, SourceState.allows]
  request h hs := h.lnu_law hs
  pulse e d h := h.pulse e d
  fault e h := h.countQuadratureFault e
  contact level h := h.contactChanged level
  sawEnd h := by
    unfold State.sawEndAsserts
    split
    · unfold State.completeCut
      dsimp only
      split <;> simpa using LengthUnit.Law.clearPieceFlags (s := _) (by simpa using h)
    · simpa using h
    · exact h.clearPieceFlags
    all_goals exact h
  sawHome h := by simpa using h
  haltOn h := by simpa using h
  haltOff h := by simpa using h
  count h := by simpa using h
  settle _ h := by simpa using h
  saw _ h := by simpa using h
  home _ h := by simpa using h
  stall _ h := by simpa using h
  sequence r _ h := by
    unfold State.finishSequence
    have hd : ∀ (s : State) (m : MeasureReport) (q : RunningSequence), s.lnu.Law →
        (State.deliver { s with dsq.running := none } q m).lnu.Law := fun s m q hs =>
      LengthUnit.Law.deliver (s := { s with dsq.running := none }) hs q m
    simpa using hd _ _ _ h
  pass _ h := by simpa using h

/-- Settles O49: the law through the parts of a step. -/
theorem lengthLawKept : Obligations.LengthLawKept := fun s t h hstep =>
  t.lengthLaw_iff.mpr (length_parts.step (s.lengthLaw_iff.mp h) hstep)

end Sys2Proof.Machine

/-! PROOF. The sequencer's law (R138, R139, R141, R150) through the parts of a step. -/

namespace Sys2Proof.Machine

open Sys2Proof

section SequencerParts

variable {b : Bool} {s t : State}

/-! ### Where the law puts the halt line -/

/-- In a processing state filtered HALT_N is deasserted. -/
theorem Sequencer.Law.deasserted {f : Sequencer} (h : Sequencer.Law b f) (hf : f.state.isProcessing = true) : b = false := by
  by_contra hb
  rw [h.halted.mpr (by simpa using hb)] at hf
  cases hf

/-- So it is in every state but HALTED. -/
theorem Sequencer.Law.deasserted_of_ne {f : Sequencer} (h : Sequencer.Law b f) (hf : f.state ≠ .halted) : b = false := by
  by_contra hb
  exact hf (h.halted.mpr (by simpa using hb))

/-- The law passes through the moves of a processing state, whose state stays a processing state. -/
theorem State.Drives.keeps (h : s.Drives t) (hs : Sequencer.Law b s.fcs) (hp : s.fcs.state.isProcessing = true) :
    Sequencer.Law b t.fcs := by
  obtain rfl := hs.deasserted hp
  exact (h.law ⟨hs, hp⟩).1

/-- Moves from a state just taken, which is a processing state. -/
theorem State.Drives.keeps_moved {st : SeqState} {why : Option PauseReason} (h : (s.moveTo st why).Drives t)
    (hr : s.fcs.reversals ≤ 2) (hst : st.isProcessing = true) (hp : st = .paused → why.isSome)
    (hc : st = .cutting ∨ st = .sawReturn → s.fcs.cutKind.isSome) : Sequencer.Law false t.fcs := by
  have hne : (st == .halted) = false := by cases st <;> simp_all [SeqState.isProcessing]
  have := Sequencer.Law.moveTo (s := s) hr hp hc
  rw [hne] at this
  exact (h.law ⟨this, hst⟩).1

/-- An entry that makes no check, into a state that needs neither pause reason nor cut kind. -/
theorem Sequencer.Law.enter {st : SeqState} (hr : s.fcs.reversals ≤ 2) (hp : st ≠ .paused) (h1 : st ≠ .cutting)
    (h2 : st ≠ .sawReturn) : Sequencer.Law (st == .halted) (s.enter st).fcs := by
  have hf : (s.enter st).fcs = (s.moveTo st none).fcs := by simp [State.enter, State.notifyState]
  rw [hf]
  exact .moveTo hr (fun h => absurd h hp) fun h => h.elim (fun h => absurd h h1) fun h => absurd h h2

/-! ### Operations that may meet any state -/

/-- Out of the processing states a length update leaves the sequencer. -/
theorem State.sequencerUpdate_stays (hp : s.fcs.state.isProcessing = false) (forward : Bool) :
    s.sequencerUpdate forward = s := by
  have h1 : s.targetTest forward = s := by unfold State.targetTest; split <;> simp_all [SeqState.isProcessing]
  have h2 : s.trackMovement = s := by unfold State.trackMovement; split <;> simp_all [SeqState.isProcessing]
  rw [State.sequencerUpdate, h1, h2]

/-- So does the report of a completion. -/
theorem State.completionReport_stays (hp : s.fcs.state.isProcessing = false) : s.completionReport = s := by
  unfold State.completionReport
  split <;> simp_all [SeqState.isProcessing]

theorem Sequencer.Law.completionReport (h : Sequencer.Law b s.fcs) : Sequencer.Law b s.completionReport.fcs := by
  cases hp : s.fcs.state.isProcessing with
  | true => exact (State.Drives.completionReport s).keeps h hp
  | false => rwa [State.completionReport_stays hp]

theorem Sequencer.Law.sequencerUpdate (h : Sequencer.Law b s.fcs) (forward : Bool) :
    Sequencer.Law b (s.sequencerUpdate forward).fcs := by
  cases hp : s.fcs.state.isProcessing with
  | true => exact (State.Drives.sequencerUpdate s forward).keeps h hp
  | false => rwa [State.sequencerUpdate_stays hp]

theorem Sequencer.Law.settleExpires (h : Sequencer.Law b s.fcs) (ht : s.fcs.settleTimer.isSome) :
    Sequencer.Law b s.settleExpires.fcs :=
  (State.Drives.settleExpires s).keeps h (by rw [h.settle ht]; rfl)

theorem Sequencer.Law.homeExpires (h : Sequencer.Law b s.fcs) (ht : s.fcs.homeTimer.isSome) :
    Sequencer.Law b s.homeExpires.fcs :=
  (State.Drives.homeExpires s).keeps h (by rw [h.home ht]; rfl)

theorem Sequencer.Law.stallExpires (h : Sequencer.Law b s.fcs) (ht : s.fcs.stallTimer.isSome) :
    Sequencer.Law b s.stallExpires.fcs :=
  (State.Drives.stallExpires s).keeps h (by obtain hs | hs | hs := h.stall ht <;> rw [hs] <;> rfl)

/-- A felling without a push leaves for IDLE or HOLDING. -/
theorem Sequencer.Law.leaveFelling (hr : s.fcs.reversals ≤ 2) : Sequencer.Law false s.leaveFelling.fcs := by
  unfold State.leaveFelling
  split
  · exact .enter (st := .idle) hr nofun nofun nofun
  · exact .enter (st := .holding) hr nofun nofun nofun

theorem Sequencer.Law.sawExpires (h : Sequencer.Law b s.fcs) (ht : s.fcs.sawTimer.isSome) :
    Sequencer.Law b s.sawExpires.fcs := by
  obtain hs | hs := h.saw ht
  · obtain rfl := h.deasserted_of_ne (by simp [hs])
    unfold State.sawExpires
    simp only [hs]
    exact .leaveFelling (by simpa using h.reversals)
  · exact (State.Drives.sawExpires s (by simp [hs])).keeps h (by rw [hs]; rfl)

/-- The group end: IDLE from a processing state, else the state stays. -/
theorem Sequencer.Law.groupEnd (h : Sequencer.Law b s.fcs) : Sequencer.Law b s.groupEnd.fcs := by
  have hc : Sequencer.Law b (s.cancelFeed.voidPass).fcs := by simpa using h
  unfold State.groupEnd State.sequencerGroupEnd
  split
  · next hp =>
    obtain rfl := hc.deasserted hp
    exact Sequencer.Law.enter (s := (s.cancelFeed.voidPass).clearCutItems) (st := .idle) (Nat.zero_le _) nofun nofun nofun
  · exact hc

/-- A change of a parameter, with the expiry it may bring. -/
theorem Sequencer.Law.storeParameter (h : Sequencer.Law b s.fcs) (n v : Nat) : Sequencer.Law b (s.storeParameter n v).fcs := by
  have hs : Sequencer.Law b ({ s with params := s.params.set n v } : State).fcs := h
  unfold State.storeParameter
  split
  · exact h
  · split
    · simpa using h
    · simpa using h
    · unfold State.timerAtChange
      split
      · split
        · exact hs.settleExpires (isSome_of_timerDue ‹_›)
        · exact hs
      · split
        · exact hs.sawExpires (isSome_of_timerDue ‹_›)
        · exact hs
      · split
        · exact hs.homeExpires (isSome_of_timerDue ‹_›)
        · exact hs
      · split
        · exact hs.stallExpires (isSome_of_timerDue ‹_›)
        · exact hs
      · exact hs

/-- The SAW_END of a cut. -/
theorem Sequencer.Law.completeCut (h : Sequencer.Law b s.fcs) (hst : s.fcs.state = .cutting) :
    Sequencer.Law b s.completeCut.fcs := by
  unfold State.completeCut
  extract_lets u v
  have hv : v.fcs = s.fcs := by
    simp only [v, u]
    split <;> simp
  have hz : Sequencer.Law b { v.fcs with reversals := 0, overshoot := false } :=
    (hv ▸ h).calmer ⟨rfl, rfl, rfl, id, id, id, fun h => .inr (.inr (.inr h)), Nat.zero_le _⟩
  exact (State.Drives.enterSawReturn { v with fcs.reversals := 0, fcs.overshoot := false } (hz.cutKind.mpr (.inl (by simp [hv, hst])))).keeps hz
    (by simp [hv, hst, SeqState.isProcessing])

/-- A pulse: of what it does only the sequencer's update touches the sequencer. -/
theorem Sequencer.Law.pulse (h : Sequencer.Law b s.fcs) (e : Encoder) (d : Direction) :
    Sequencer.Law b (s.pulse e d).fcs := by
  have hupdate : ∀ (u : State) (forward : Bool), Sequencer.Law b u.fcs → Sequencer.Law b (u.lengthUpdate forward).fcs := by
    intro u forward hu
    have := Sequencer.Law.sequencerUpdate (s := u.modifyActive (StemRecord.reached u.lnu.length)) (by simpa using hu) forward
    unfold State.lengthUpdate
    dsimp only
    split
    · simpa using this
    · exact this
  have hlength : ∀ u : State, Sequencer.Law b u.fcs → Sequencer.Law b u.updateLength.fcs := by
    intro u hu
    unfold State.updateLength
    dsimp only
    split
    · simpa using hu
    · exact hupdate _ _ (by simpa using hu)
  have hlast : ∀ u : State, (u.accountWindow e d).fcs = u.fcs := fun u => by simp
  unfold State.pulse
  rw [hlast]
  split
  · exact hlength _ (by simpa using h)
  · simpa using h

/-- The delivery of a result. -/
theorem Sequencer.Law.deliver (h : Sequencer.Law b s.fcs) (q : RunningSequence) (m : MeasureReport) :
    Sequencer.Law b (s.deliver q m).fcs := by
  unfold State.deliver
  split
  · unfold State.deliverFeed
    split
    · exact h
    · split
      · simpa using h
      · dsimp only
        split
        · exact Sequencer.Law.groupEnd (by simpa using h)
        · simpa using h
  · simpa using h
  · simpa using h

end SequencerParts

/-- A handled request keeps the sequencer's law. -/
theorem State.Handles.fcs_law {s t : State} (h : s.Handles t) (hs : Sequencer.Law s.lines.halt.accepted s.fcs) :
    Sequencer.Law s.lines.halt.accepted t.fcs := by
  have hfree : ∀ {st : SeqState}, s.fcs.state = st → st ≠ .halted → s.lines.halt.accepted = false := fun he hn =>
    hs.deasserted_of_ne (he ▸ hn)
  cases h with
  | parameter n v => exact hs.storeParameter n v
  | fell slot species hst =>
    rw [hst.elim (fun h => hfree h nofun) fun h => hfree h nofun]
    have hr : ((s.openRecord slot species).raiseTrim ⟨slot, s.stb.nextHandle⟩).fcs.reversals ≤ 2 := by
      simpa using hs.reversals
    exact Sequencer.Law.enter (st := .felling) hr nofun nofun nofun
  | start hst =>
    rw [hfree hst nofun]
    refine (State.Drives.enterWaiting_moved _).keeps_moved ?_ rfl nofun nofun
    simpa [State.startGroup] using hs.reversals
  | resume hst => exact (State.Drives.enterFeeding s).keeps hs (by rw [hst]; rfl)
  | await hst => exact (State.Drives.enterWaiting s).keeps hs (by rw [hst]; rfl)
  | stop hst =>
    exact (State.Drives.enterPaused s _).keeps hs (by obtain h | h | h | h | h := hst <;> rw [h] <;> rfl)
  | stopCut hst =>
    exact (State.Drives.stopCut s (hs.cutKind.mpr (.inl hst))).keeps hs (by rw [hst]; rfl)
  | stopFelling hst =>
    rw [hfree hst nofun]
    exact Sequencer.Law.leaveFelling (by simpa using hs.reversals)
  | cut kind hst =>
    exact (State.Drives.startCut s kind).keeps hs (by obtain h | h := hst <;> rw [h] <;> rfl)
  | drop hst =>
    have hfcs : ∀ u : State, u.fcs = s.fcs → Sequencer.Law s.lines.halt.accepted
        (if u.stb.group.isEmpty then u.enter .idle else u).fcs := by
      intro u hu
      split
      · rw [hfree hst nofun]
        exact Sequencer.Law.enter (st := .idle) (by rw [hu]; exact hs.reversals) nofun nofun nofun
      · rwa [hu]
    unfold State.dropTop
    dsimp only
    split <;> exact hfcs _ (by simp)
  | release hst =>
    have hb : s.lines.halt.accepted = false := hs.deasserted_of_ne (by obtain h | h | h | h := hst <;> simp [h])
    rw [hb]
    exact Sequencer.Law.enter (s := State.clearCutItems _) (st := .idle) (Nat.zero_le _) nofun nofun nofun
  | stems =>
    have : s.reinitialiseStems.fcs = .reset (if s.lines.halt.accepted then .halted else .idle) := by
      simp [State.reinitialiseStems, State.resetSequencer]
    rw [this]
    cases s.lines.halt.accepted <;> constructor <;> simp [Sequencer.reset]
  | all =>
    have : s.reinitialiseAll.fcs = .reset (if s.lines.halt.accepted then .halted else .idle) := by
      simp [State.reinitialiseAll, State.clearConfiguration, State.resetSequencer]
    rw [this]
    cases s.lines.halt.accepted <;> constructor <;> simp [Sequencer.reset]
  | _ => simpa using hs

/-- The sequencer's law passes through every part of a step. -/
theorem sequencer_parts : StepParts (fun b s => Sequencer.Law b s.fcs) fun b s => Sequencer.Law b s.fcs where
  blocks h hb := by rwa [hb.2.2.2.2.2.1]
  blocks' h hb := by rwa [hb.2.2.2.2.2.1]
  weaken h := h
  powerOn _ _ _ := by constructor <;> simp [State.powerOn, Sequencer.reset]
  request h hs := h.fcs_law hs
  pulse e d h := h.pulse e d
  fault e h := by simpa using h
  contact _ h := by simpa using h
  sawEnd h := by
    unfold State.sawEndAsserts
    split
    · exact h.completeCut ‹_›
    · next hst =>
      obtain rfl := h.deasserted_of_ne (by simp [hst])
      unfold State.completeFelling
      split <;> exact Sequencer.Law.enter (st := .holding) (by simpa using h.reversals) nofun nofun nofun
    · simpa using h
    all_goals exact h
  sawHome {b s} h := by
    by_cases hst : s.fcs.state = .sawReturn
    · exact (State.Drives.sawHomeAsserts s).keeps h (by rw [hst]; rfl)
    · unfold State.sawHomeAsserts
      split
      · exact absurd ‹_› hst
      all_goals exact h
  haltOn {s} h := by
    have hr : ({ (if s.fcs.state = .felling then s.abandonFelling else s) with
        fcs.stopped := false } : State).fcs.reversals ≤ 2 := by
      split <;> simpa using h.reversals
    exact Sequencer.Law.enter (st := .halted) hr nofun nofun nofun
  haltOff h := by
    unfold State.haltReleases
    split
    · exact (State.Drives.enterStop_moved _ _ _).keeps_moved h.reversals rfl (fun _ => rfl) nofun
    · exact Sequencer.Law.enter (st := .holding) h.reversals nofun nofun nofun
    · exact Sequencer.Law.enter (st := .idle) h.reversals nofun nofun nofun
  count h := h.calmer ⟨rfl, rfl, rfl, by simp [State.countTimers], by simp [State.countTimers], by simp [State.countTimers],
    fun h => .inr (.inr (.inr (by simpa [State.countTimers] using h))), le_rfl⟩
  settle ht h := h.settleExpires ht
  saw ht h := h.sawExpires ht
  home ht h := h.homeExpires ht
  stall ht h := h.stallExpires ht
  sequence {b s q} r _ h := by
    unfold State.finishSequence
    have := Sequencer.Law.deliver (s := { s with dsq.running := none }) (b := b) h (q.readAll r)
      (s.measureReport (q.readAll r))
    simpa using this
  pass _ h := Sequencer.Law.completionReport (by simpa using h)

/-- Settles O54: the law through the parts of a step. -/
theorem sequencerLawKept : Obligations.SequencerLawKept := fun s t h hstep =>
  t.sequencerLaw_iff.mpr (sequencer_parts.step (s.sequencerLaw_iff.mp h) hstep)

end Sys2Proof.Machine

/-! PROOF. The operations that only rework records: every slot keeps its record's handle, state and role and its law, and
the feed group and the next handle stay. -/

namespace Sys2Proof.Machine

open Sys2Proof

/-- The two states hold the same records, reworked, in the same slots and the same group. -/
structure State.Reworked (s t : State) : Prop where
  records : s.Related StemRecord.Reworks t
  group : t.stb.group = s.stb.group
  nextHandle : t.stb.nextHandle = s.stb.nextHandle

namespace State.Reworked

variable {s t u : State}

/-! ### Ways to rework -/

theorem of_stb (h : t.stb = s.stb) : s.Reworked t := ⟨.of_stb .refl h, by rw [h], by rw [h]⟩

theorem refl (s : State) : s.Reworked s := of_stb rfl

theorem trans (h : s.Reworked t) (h' : t.Reworked u) : s.Reworked u :=
  ⟨.trans .trans h.records h'.records, h'.group.trans h.group, h'.nextHandle.trans h.nextHandle⟩

/-- What leaves the Stem Table adds nothing. -/
theorem congr (h : s.Reworked t) (he : u.stb = t.stb) : s.Reworked u := h.trans (of_stb he)

theorem after_stb (h' : t.Reworked u) (h : t.stb = s.stb) : s.Reworked u := (of_stb h).trans h'

theorem setSlot {k : Nat} {r r' : StemRecord} (hk : s.record? k = some r) (h : r.Reworks r') :
    s.Reworked (s.setSlot k (some r')) := ⟨.setSlot .refl hk h, by simp, by simp⟩

theorem modifyMembers {f : StemRecord → StemRecord} (h : ∀ r : StemRecord, r.Reworks (f r)) : s.Reworked (s.modifyMembers f) :=
  ⟨.modifyMembers .refl .trans h, by simp, by simp⟩

theorem modifyActive {f : StemRecord → StemRecord} (h : ∀ r : StemRecord, r.Reworks (f r)) : s.Reworked (s.modifyActive f) :=
  ⟨.modifyActive .refl .trans h, by simp, by simp⟩

end State.Reworked

/-- The lead stands in its slot and has the role. -/
theorem State.lead?_spec {s : State} {k : Nat} {r : StemRecord} (h : s.lead? = some (k, r)) :
    s.record? k = some r ∧ r.role = some .lead := by
  refine ⟨(State.mem_members.mp (State.mem_of_lead? h)).2, ?_⟩
  unfold State.lead? at h
  split at h
  · simpa using List.find?_some h
  · cases h

theorem State.Reworked.setLead {s : State} {k : Nat} {r r' : StemRecord} (hl : s.lead? = some (k, r))
    (h : r.role = some .lead → r.Reworks r') : s.Reworked (s.setSlot k (some r')) :=
  .setSlot (State.lead?_spec hl).1 (h (State.lead?_spec hl).2)

/-! ### Records reworked -/

namespace StemRecord.Reworks

variable (r : StemRecord)

/-- A lead with another plan, its value the sum, and another pending plan. -/
theorem plan {r r' : StemRecord} (hrole : r.role = some .lead) (handle : r'.handle = r.handle) (state : r'.state = r.state)
    (role : r'.role = r.role) (why : r'.endReason = r.endReason)
    (value : r'.planValue = (r'.plan.map fun p => p.value).sum) (frozen : r'.frozen = r.frozen)
    (pieces : r'.pieces = r.pieces) : r.Reworks r' :=
  ⟨handle, state, role, fun ⟨h1, h2, _, _, h5⟩ => ⟨by rw [role, state]; exact h1, by rw [why, state]; exact h2,
    fun hn => absurd (role.trans hrole) hn, value, by rw [state, frozen, pieces]; exact h5⟩⟩

theorem missed : r.Reworks r.missed := .of_fields rfl rfl rfl rfl rfl rfl rfl rfl rfl
theorem disputed (lo hi : Int) : r.Reworks (r.disputed lo hi) := .of_fields rfl rfl rfl rfl rfl rfl rfl rfl rfl
theorem sourceChanged (new : SourceState) : r.Reworks (r.sourceChanged new) := .of_fields rfl rfl rfl rfl rfl rfl rfl rfl rfl
theorem thinned : r.Reworks r.thinned := .of_fields rfl rfl rfl rfl rfl rfl rfl rfl rfl
theorem append (p : Sample) : r.Reworks (r.append p) := .of_fields rfl rfl rfl rfl rfl rfl rfl rfl rfl
theorem withButt (n : Nat) (m : MeasureReport) : r.Reworks (r.withButt n m) := .of_fields rfl rfl rfl rfl rfl rfl rfl rfl rfl

theorem reached (length : Int) : r.Reworks (r.reached length) := by
  unfold StemRecord.reached
  split
  · exact .of_fields rfl rfl rfl rfl rfl rfl rfl rfl rfl
  · exact .refl r

theorem watched (p : Sample) : r.Reworks (r.watched p) := by
  unfold StemRecord.watched
  split
  · exact .of_fields rfl rfl rfl rfl rfl rfl rfl rfl rfl
  · exact .refl r

theorem afterDropped (held : Option Override) (res : PassResult) : r.Reworks (r.afterDropped held res) := by
  unfold StemRecord.afterDropped
  split
  · exact .of_fields rfl rfl rfl rfl rfl rfl rfl rfl rfl
  · exact .refl r

theorem installed {r : StemRecord} (h : r.role = some .lead) (res : PassResult) : r.Reworks (r.installed res) :=
  .plan h rfl rfl rfl rfl rfl rfl rfl

end StemRecord.Reworks

/-! ### Operations that rework -/

namespace State.Reworked

variable (s : State)

theorem checkPending : s.Reworked s.checkPending := by
  unfold State.checkPending
  split
  · exact .refl s
  · next k r hl =>
    split
    · exact .refl s
    · next res _ =>
      split
      · exact (setLead hl fun _ => .noPending r).congr (by simp)
      · exact (setLead hl fun h => .installed h res).congr (by simp [State.install])

theorem commit : s.Reworked s.commit := by
  unfold State.commit
  split
  · next k r hl =>
    split
    · next p rest hp =>
      split
      · refine (setLead (s := s) (r' := { r with plan := { p with status := .committed } :: rest }) hl fun h =>
          ⟨rfl, rfl, rfl, fun ⟨h1, h2, h3, h4, h5⟩ => ⟨h1, h2, fun hn => absurd h hn, ?_, h5⟩⟩).congr rfl
        simpa [hp] using h4
      · exact .refl s
    · exact .refl s
  · exact .refl s

/-- Every move of the sequencer while it works a group. -/
theorem of_drives {s t : State} (h : s.Drives t) : s.Reworked t := by
  induction h with
  | check s => exact checkPending s
  | commit s => exact commit s
  | trans _ _ ih ih' => exact ih.trans ih'
  | _ => exact of_stb (by simp)

theorem finishPass (p : Pass) : s.Reworked (s.finishPass p) := by
  have hact : ∀ (held : Option Override) (res : PassResult) (o : PassOutcome), s.Reworked (s.actOn held res o) := by
    intro held res o
    unfold State.actOn
    cases o with
    | installed =>
      dsimp only
      split
      · next k r hl =>
        have hl : s.lead? = some (k, r) := hl
        refine (setLead (s := s) hl fun h => ?_ : s.Reworked (s.setSlot k (some ((r.afterDropped held res).installed res)))).congr ?_
        · have hd := StemRecord.Reworks.afterDropped r held res
          exact hd.trans (.installed (hd.role.trans h) res)
        · simp [State.install, State.recordOutcome, State.setSlot]
      · exact of_stb rfl
    | held =>
      dsimp only
      split
      · next k r hl =>
        have hl : s.lead? = some (k, r) := hl
        refine (setLead (s := s) hl fun h => ?_ :
          s.Reworked (s.setSlot k (some { r.afterDropped held res with pendingPlan := some res }))).congr rfl
        have hd := StemRecord.Reworks.afterDropped r held res
        exact hd.trans ⟨rfl, rfl, rfl, fun ⟨h1, h2, h3, h4, h5⟩ => ⟨h1, h2, fun hn => absurd (hd.role.trans h) hn, h4, h5⟩⟩
      · exact of_stb rfl
    | _ => exact of_stb rfl
  unfold State.finishPass
  exact (hact _ _ _).congr (State.nextPass_frame _).2.1

theorem setSource (new : SourceState) (n : Nat) (c : SourceCause) : s.Reworked (s.setSource new n c) := by
  have hm : ∀ t : State, t.stb = s.stb → s.Reworked (t.modifyActive (StemRecord.sourceChanged new)) := fun t ht =>
    (of_stb ht).trans (modifyActive fun r => .sourceChanged r new)
  unfold State.setSource
  dsimp only
  split
  · exact of_stb rfl
  · refine (hm _ ?_).congr (State.offerNotice_frame _ _).1
    dsimp only
    split <;> simp

theorem forceRoller (c : SourceCause) : s.Reworked (s.forceRoller c) := by
  unfold State.forceRoller
  split
  · exact .refl s
  · exact setSource s _ _ c

theorem judgedMove (d : Bool) : s.Reworked (s.judgedMove d) := by
  unfold State.judgedMove
  split
  · exact setSource s _ _ _
  · exact .refl s
  · split <;> exact setSource s _ _ _
  · exact setSource s _ _ _
  · exact .refl s
  · exact setSource s _ _ _
  · exact setSource s _ _ _
  · split <;> exact setSource s _ _ _

theorem endWindow : s.Reworked s.endWindow := by
  have hjudge : s.Reworked s.judgeWindow := by
    unfold State.judgeWindow
    split
    · have hr : s.Reworked s.reportDisputed := modifyActive fun r => .disputed r _ _
      exact (hr.congr (u := { s.reportDisputed with lnu.slipSuspect := true }) rfl).trans (judgedMove _ true)
    · exact judgedMove s false
  unfold State.endWindow
  split
  · exact hjudge.congr (by simp)
  · exact of_stb (by simp)

theorem countQuadratureFault (e : Encoder) : s.Reworked (s.countQuadratureFault e) := by
  have hw : ∀ t : State, t.Reworked t.wheelBecomesFaulty := fun t =>
    after_stb (forceRoller { t with lnu.wheelFaulty := true } _) rfl
  unfold State.countQuadratureFault
  cases e with
  | wheel =>
    dsimp only
    split
    · exact after_stb (hw _) rfl
    · exact of_stb rfl
  | roller =>
    dsimp only
    split
    · exact of_stb (by simp [State.rollerBecomesFaulty])
    · exact of_stb rfl

theorem contactChanged (level : Bool) : s.Reworked (s.contactChanged level) := by
  have h : ∀ t : State, s.Reworked t → s.Reworked t.newWindow := fun t ht => ht.congr (by simp)
  unfold State.contactChanged
  cases level with
  | true => exact h _ (of_stb rfl)
  | false => exact h _ (after_stb (forceRoller { s with lines.wheelContact := .settled false } _) rfl)

theorem lengthUpdate (forward : Bool) : s.Reworked (s.lengthUpdate forward) := by
  have h : s.Reworked ((s.modifyActive (StemRecord.reached s.lnu.length)).sequencerUpdate forward) :=
    (modifyActive fun r => .reached r _).trans (of_drives (.sequencerUpdate _ forward))
  unfold State.lengthUpdate State.triggerCheck
  dsimp only
  split
  · split
    · refine h.trans ?_
      unfold State.raiseFeed
      split
      · exact (modifyActive fun r => .missed r).congr rfl
      · exact of_stb (by simp)
    · exact h
  · exact h

theorem pulse (e : Encoder) (d : Direction) : s.Reworked (s.pulse e d) := by
  have hwindow : ∀ t : State, s.Reworked t → s.Reworked (t.accountWindow e d) := by
    intro t ht
    unfold State.accountWindow
    split
    · exact ht
    · exact ht.congr (by simp)
    · split
      · exact ht.trans (endWindow t)
      · exact ht
  have ha : s.Reworked (s.addPulse e d) := of_stb (by simp)
  unfold State.pulse State.updateLength
  refine hwindow _ ?_
  split
  · dsimp only
    split
    · exact ha.congr (by simp)
    · exact (ha.congr (by simp)).trans (lengthUpdate _ _)
  · exact ha

theorem appendSamples (q : FeedRequest) (n : Nat) (m : MeasureReport) : s.Reworked (s.appendSamples q n m) := by
  have happ : ∀ (t : State) (p : StemRecord → Sample), s.Reworked t →
      s.Reworked (t.modifyMembers fun r => r.append (p r)) := fun t p ht =>
    ht.trans (modifyMembers fun r => .append r _)
  unfold State.appendSamples
  dsimp only
  split
  · exact (happ _ _ (modifyMembers fun r => .thinned r)).congr rfl
  · exact happ _ _ (.refl s)

theorem watchMembers : s.Reworked s.watchMembers := by
  have hslot : ∀ (t : State) (k : Nat), t.Reworked (t.watchSlot k) := by
    intro t k
    unfold State.watchSlot
    split
    · exact .refl t
    · next r hr =>
      split
      · exact .refl t
      · next p _ =>
        dsimp only
        split
        · exact (setSlot hr (.watched r p)).congr (by simp)
        · exact setSlot hr (.watched r p)
  have : ∀ (l : List Nat) (t : State), t.Reworked (l.foldl State.watchSlot t) := by
    intro l
    induction l with
    | nil => exact fun t => .refl t
    | cons k l ih => exact fun t => (hslot t k).trans (ih _)
  exact this _ s

theorem deliverTrim (q : TrimRequest) (n : Nat) (m : MeasureReport) : s.Reworked (s.deliverTrim q n m) := by
  unfold State.deliverTrim
  split
  · split
    · exact setSlot ‹_› (.withButt _ n m)
    · exact .refl s
  · exact .refl s

end State.Reworked

end Sys2Proof.Machine

/-! PROOF. Handles (R2): every operation keeps them or frees a slot, but for FELL, which takes the free handle that the
counter rests on and moves the counter to another. -/

namespace Sys2Proof.Machine

open Sys2Proof

/-! ### The counter's rest (R2) -/

/-- The counter's values stay in 1..65535 and follow one another, from 65535 to 1. -/
theorem nextHandleValue_eq {h : Nat} (h1 : 1 ≤ h) (h2 : h ≤ 65535) : nextHandleValue h = h % 65535 + 1 := by
  unfold nextHandleValue
  split <;> omega

/-- The value after some advances. -/
theorem nextHandleValue_iterate {h : Nat} (h1 : 1 ≤ h) (h2 : h ≤ 65535) (k : Nat) :
    nextHandleValue^[k] h = (h - 1 + k) % 65535 + 1 := by
  induction k with
  | zero => simp only [Function.iterate_zero, id]; omega
  | succ k ih => rw [Function.iterate_succ_apply', ih, nextHandleValue_eq (by omega) (by omega)]; omega

/-- The counter rests in its range. -/
theorem State.restHandle_range (s : State) (fuel : Nat) {h : Nat} (hh : 1 ≤ h ∧ h ≤ 65535) :
    1 ≤ s.restHandle fuel h ∧ s.restHandle fuel h ≤ 65535 := by
  induction fuel generalizing h with
  | zero => exact hh
  | succ fuel ih =>
    unfold State.restHandle
    split
    · exact ih (by unfold nextHandleValue; split <;> omega)
    · exact hh

/-- The counter rests on a free value where one of the next ones is free. -/
theorem State.restHandle_free (s : State) {fuel k : Nat} (hk : k < fuel) (h : Nat)
    (hf : s.holdsHandle (nextHandleValue^[k] h) = false) : s.holdsHandle (s.restHandle fuel h) = false := by
  induction fuel generalizing h k with
  | zero => omega
  | succ fuel ih =>
    unfold State.restHandle
    split
    · next hheld =>
      cases k with
      | zero => simp [hheld] at hf
      | succ k => exact ih (k := k) (by omega) _ (by simpa using hf)
    · next hheld => simpa using hheld

/-- Of nine successive values one is free, since the eight slots hold eight handles at most. -/
theorem State.exists_free_handle (s : State) {h : Nat} (h1 : 1 ≤ h) (h2 : h ≤ 65535) :
    ∃ k < 9, s.holdsHandle (nextHandleValue^[k] h) = false := by
  by_contra hall
  simp only [not_exists, not_and, Bool.not_eq_false, State.holdsHandle_iff] at hall
  choose slot r hr hv using fun k : Fin 9 => hall k.val k.isLt
  obtain ⟨i, j, hij, hs⟩ := Fintype.exists_ne_map_eq_of_card_lt
    (fun k : Fin 9 => (⟨slot k, State.record?_lt (hr k)⟩ : Fin 8)) (by decide)
  have hslot : slot i = slot j := congrArg Fin.val hs
  have hrec : r i = r j := Option.some.inj ((hr i).symm.trans ((congrArg s.record? hslot).trans (hr j)))
  have hval := (hv i).symm.trans ((congrArg StemRecord.handle hrec).trans (hv j))
  rw [nextHandleValue_iterate h1 h2, nextHandleValue_iterate h1 h2] at hval
  exact hij (Fin.ext (by have := i.isLt; have := j.isLt; omega))

/-! ### Handles kept or freed -/

/-- A record changed but for its handle. -/
def StemRecord.KeepsHandle (r r' : StemRecord) : Prop := r'.handle = r.handle

theorem StemRecord.KeepsHandle.refl (r : StemRecord) : r.KeepsHandle r := Eq.refl r.handle

theorem StemRecord.KeepsHandle.trans {a b c : StemRecord} (h : a.KeepsHandle b) (h' : b.KeepsHandle c) :
    a.KeepsHandle c := Eq.trans (b := b.handle) h' h

/-- The counter stays, and every handle held afterwards was held before in the same slot. -/
structure State.Thins (s t : State) : Prop where
  nextHandle : t.stb.nextHandle = s.stb.nextHandle
  held : ∀ i r, t.record? i = some r → ∃ q, s.record? i = some q ∧ q.handle = r.handle

namespace State.Thins

variable {s t u : State}

theorem of_related {R : StemRecord → StemRecord → Prop} (hR : ∀ {a b : StemRecord}, R a b → b.handle = a.handle)
    (h : s.Related R t) (hn : t.stb.nextHandle = s.stb.nextHandle) : s.Thins t :=
  ⟨hn, fun _ _ hr => let ⟨q, hq, hqr⟩ := h.some_right hr; ⟨q, hq, (hR hqr).symm⟩⟩

/-- A change of records that keeps their handles. -/
theorem of_handles (h : s.Related StemRecord.KeepsHandle t) (hn : t.stb.nextHandle = s.stb.nextHandle) :
    s.Thins t := of_related id h hn

theorem of_reworked (h : s.Reworked t) : s.Thins t := of_related (fun h => h.handle) h.records h.nextHandle

theorem of_stb (h : t.stb = s.stb) : s.Thins t := of_reworked (.of_stb h)

theorem trans (h : s.Thins t) (h' : t.Thins u) : s.Thins u :=
  ⟨h'.nextHandle.trans h.nextHandle, fun i r hr =>
    let ⟨_, hq, hqr⟩ := h'.held i r hr
    let ⟨p, hp, hpq⟩ := h.held i _ hq
    ⟨p, hp, hpq.trans hqr⟩⟩

/-- What leaves the Stem Table adds nothing. -/
theorem congr (h : s.Thins t) (he : u.stb = t.stb) : s.Thins u := h.trans (of_stb he)

/-- The law of handles passes. -/
theorem law (h : s.Thins t) (hs : s.HandleLaw) : t.HandleLaw := by
  obtain ⟨⟨h1, h2, hfree⟩, hrange, hdistinct⟩ := hs
  refine ⟨⟨h.nextHandle ▸ h1, h.nextHandle ▸ h2, ?_⟩, fun i r hr => ?_, fun i j r q hr hq he => ?_⟩
  · rw [h.nextHandle]
    by_contra hheld
    obtain ⟨i, r, hr, he⟩ := (t.holdsHandle_iff _).mp (by simpa using hheld)
    obtain ⟨q, hq, hqr⟩ := h.held i r hr
    have := (s.holdsHandle_iff s.stb.nextHandle).mpr ⟨i, q, hq, hqr.trans he⟩
    simp [hfree] at this
  · obtain ⟨p, hp, hpr⟩ := h.held i r hr
    exact hpr ▸ hrange i p hp
  · obtain ⟨p, hp, hpr⟩ := h.held i r hr
    obtain ⟨p', hp', hpr'⟩ := h.held j q hq
    exact hdistinct i j p p' hp hp' (hpr.trans (he.trans hpr'.symm))

theorem setSlot {k : Nat} {o : Option StemRecord} (h : ∀ r, o = some r → ∃ q, s.record? k = some q ∧ q.handle = r.handle) :
    s.Thins (s.setSlot k o) := by
  refine ⟨by simp, fun i r hr => ?_⟩
  rw [State.record?_setSlot'] at hr
  split at hr
  · next hi => exact hi.1 ▸ h r hr
  · exact ⟨r, hr, rfl⟩

variable (s)

theorem closeRecord (k : Nat) (st : StemState) (why : EndReason) : s.Thins (s.closeRecord k st why) := by
  refine ⟨by simp, fun i r hr => ?_⟩
  rw [State.record?_closeRecord] at hr
  split at hr
  · obtain ⟨q, hq, rfl⟩ := Option.map_eq_some_iff.mp hr
    exact ⟨q, hq, rfl⟩
  · exact ⟨r, hr, rfl⟩

theorem closeAll (l : List Nat) (st : StemRecord → StemState) (why : EndReason) : s.Thins (s.closeAll l st why) := by
  unfold State.closeAll
  induction l generalizing s with
  | nil => exact of_stb rfl
  | cons k l ih =>
    refine trans ?_ (ih _)
    dsimp only
    split
    · exact closeRecord s k _ why
    · exact of_stb rfl

theorem abandonFelling : s.Thins s.abandonFelling := by
  unfold State.abandonFelling
  split
  · exact closeRecord s _ _ _
  · exact of_stb rfl

theorem pushRecord (k : Nat) : s.Thins (s.pushRecord k) := by
  unfold State.pushRecord
  split
  · exact of_stb rfl
  · next r hr =>
    refine (setSlot (s := s) (k := k) (o := some { r with state := .held }) fun q hq => ?_).trans
      ⟨by simp, fun i q hq => ⟨q, ?_, rfl⟩⟩
    · cases hq
      exact ⟨r, hr, rfl⟩
    · rwa [State.record?_congr (State.offerNotice_frame _ _).1] at hq

theorem recordPieces (f : StemRecord → Piece) : s.Thins (s.recordPieces f) :=
  of_handles (.modifyActive .refl .trans fun r => .refl r) (by simp)

theorem modifyLead {f : StemRecord → StemRecord} (h : ∀ r, (f r).handle = r.handle) : s.Thins (s.modifyLead f) :=
  of_handles (.modifyLead .refl fun _ r _ => h r) (by simp)

theorem recordCuts : s.Thins s.recordPlannedCut ∧ s.Thins s.recordOffPlanCut := by
  have hadvance : ∀ (c : PlanPiece) (x : Int) (r : StemRecord), (r.advancePlan c x).handle = r.handle := by
    intro c x r
    unfold StemRecord.advancePlan
    dsimp only
    split <;> rfl
  constructor
  · unfold State.recordPlannedCut
    split
    · exact of_stb rfl
    · split
      · exact of_stb rfl
      · next cut _ _ =>
        have h := (recordPieces s (s.plannedPiece cut)).trans (modifyLead _ (hadvance cut s.lnu.length))
        exact h.congr (by simp)
  · have h := (recordPieces s s.offPlanPiece).trans (modifyLead _ (f := StemRecord.dropPlan) fun _ => rfl)
    exact h.congr (by simp [State.recordOffPlanCut])

theorem startGroup : s.Thins s.startGroup := by
  have hstart : s.Thins s.startMembers := by
    refine of_handles ?_ (by simp)
    exact .foldl .refl .trans (fun t k => .modifySlot (s := t) .refl k fun r _ => .refl r) _ _
  have hsum : ∀ (t : State) (f : StemRecord → SourceSummary),
      t.Thins (t.modifyMembers fun r => { r with lengthSummary := f r }) := fun t f =>
    of_reworked (.modifyMembers fun _ => .of_fields rfl rfl rfl rfl rfl rfl rfl rfl rfl)
  exact ((hstart.congr (State.datum_frame _).1).trans (hsum _ _)).congr (State.requestPass_frame _).2.1

theorem clearStems : s.Thins s.clearStems := by
  have hstb : s.clearStems.stb = { s.stb with slots := Vector.replicate 8 none, group := [] } := by
    unfold State.clearStems
    dsimp only
    split <;> simp
  refine ⟨by rw [hstb], fun i r hr => ?_⟩
  by_cases hi : i < 8
  · simp [State.record?, hstb, hi] at hr
  · rw [State.record?_none (by omega)] at hr
    cases hr

theorem deliver (q : RunningSequence) (m : MeasureReport) : s.Thins (s.deliver q m) := by
  unfold State.deliver State.deliverFeed
  split
  · split
    · exact of_stb rfl
    · split
      · exact of_reworked (.modifyActive fun r => .missed r)
      · next f _ _ _ =>
        have ht : s.Thins (s.appendSamples f q.averaging m).watchMembers :=
          of_reworked ((State.Reworked.appendSamples s f q.averaging m).trans (State.Reworked.watchMembers _))
        dsimp only
        split
        · exact (ht.trans (closeAll _ _ _ _)).congr (State.groupEnd_stb_atb _).1
        · exact (ht.trans (closeAll _ _ _ _)).congr (State.requestPass_frame _).2.1
  · exact of_reworked (.deliverTrim s _ _ _)
  · exact of_stb (by simp)

end State.Thins

/-! ### FELL (R2) -/

theorem State.freeSlot?_spec {s : State} {k : Nat} (h : s.freeSlot? = some k) : k < 8 ∧ s.record? k = none := by
  unfold State.freeSlot? at h
  rw [State.slots_eq, List.findIdx?_map] at h
  obtain ⟨h1, h2, -⟩ := List.findIdx?_eq_some_iff_getElem.mp h
  exact ⟨by simpa using h1, by simpa using h2⟩

/-- A record opened takes the counter's handle, and the counter rests on a free one. -/
theorem State.HandleLaw.openRecord {s : State} (hs : s.HandleLaw) {slot : Nat} (hf : s.freeSlot? = some slot) (species : Nat) :
    (s.openRecord slot species).HandleLaw := by
  obtain ⟨⟨h1, h2, hfree⟩, hrange, hdistinct⟩ := hs
  obtain ⟨hk, hnone⟩ := State.freeSlot?_spec hf
  have hnext : 1 ≤ nextHandleValue s.stb.nextHandle ∧ nextHandleValue s.stb.nextHandle ≤ 65535 := by
    rw [nextHandleValue_eq h1 h2]
    omega
  have hold : ∀ i r, s.record? i = some r → r.handle ≠ s.stb.nextHandle := fun i r hr he => by
    have := (s.holdsHandle_iff _).mpr ⟨i, r, hr, he⟩
    simp [hfree] at this
  set r₀ := StemRecord.opening s.stb.nextHandle species (s.stb.group.length + 1) s.params.profileStep with hr₀
  have hrec : ∀ i, (s.openRecord slot species).record? i = if i = slot then some r₀ else s.record? i := fun i =>
    State.record?_setSlot hk _ i
  refine ⟨⟨?_, ?_, ?_⟩, fun i r hr => ?_, fun i j r q hr hq he => ?_⟩
  · exact (State.restHandle_range _ 9 hnext).1
  · exact (State.restHandle_range _ 9 hnext).2
  · obtain ⟨k, hk9, hv⟩ := (s.setSlot slot (some r₀)).exists_free_handle hnext.1 hnext.2
    exact State.restHandle_free _ hk9 _ hv
  · rw [hrec] at hr
    split at hr
    · cases hr
      exact ⟨h1, h2⟩
    · exact hrange i r hr
  · rw [hrec] at hr hq
    split at hr <;> split at hq
    · omega
    · cases hr
      exact absurd he.symm (hold j q hq)
    · cases hq
      exact absurd he (hold i r hr)
    · exact hdistinct i j r q hr hq he

/-- A saw that times out abandons a record at most. -/
theorem State.sawExpires_thins (s : State) : s.Thins s.sawExpires := by
  by_cases hst : s.fcs.state = .felling
  · have : s.sawExpires.stb = s.abandonFelling.stb := by
      unfold State.sawExpires
      simp [hst, State.leaveFelling, State.enter, State.notifySawFault]
    exact (State.Thins.abandonFelling s).congr this
  · exact .of_reworked (.of_drives (.sawExpires s hst))

/-- A handled request keeps the law of handles. -/
theorem State.Handles.handleLaw {s t : State} (h : s.Handles t) (hs : s.HandleLaw) : t.HandleLaw := by
  have hstb : ∀ {u : State}, u.stb = s.stb → u.HandleLaw := fun hu => (State.Thins.of_stb hu).law hs
  have hdrives : ∀ {u v : State}, s.Thins u → u.Drives v → v.HandleLaw := fun hu hv =>
    (hu.trans (.of_reworked (.of_drives hv))).law hs
  have hrecord : ∀ {k : Nat} {r r' : StemRecord}, s.record? k = some r → r.Reworks r' → s.Thins (s.setSlot k (some r')) :=
    fun hr hw => .of_reworked (.setSlot hr hw)
  cases h with
  | parameter n v =>
    have hset : ∀ p : Parameters, s.Thins { s with params := p } := fun p => .of_stb rfl
    have hconstant : ∀ e c, (s.changeConstant e c).stb = s.stb := fun e c => by simp
    unfold State.storeParameter
    split
    · exact hs
    · split
      · exact hstb (hconstant _ _)
      · exact hstb (hconstant _ _)
      · unfold State.timerAtChange
        split
        · split
          · exact hdrives (hset _) (.settleExpires _)
          · exact hstb rfl
        · split
          · exact ((hset _).trans (State.sawExpires_thins _)).law hs
          · exact hstb rfl
        · split
          · exact hdrives (hset _) (.homeExpires _)
          · exact hstb rfl
        · split
          · exact hdrives (hset _) (.stallExpires _)
          · exact hstb rfl
        · exact hstb rfl
  | record k r r' hr hw => exact (hrecord hr hw).law hs
  | recordPass k r r' hr hw => exact ((hrecord hr hw).congr (by simp)).law hs
  | freeze k r r' hr hw => exact ((hrecord hr hw).congr (by simp)).law hs
  | retire k r hr => exact (State.Thins.setSlot (o := none) fun _ h => nomatch h).law hs
  | fell slot species _ hf =>
    exact (State.Thins.of_stb (by simp [State.acceptFell])).law (hs.openRecord hf species)
  | start => exact hdrives (.startGroup s) (.enterWaiting _)
  | resume => exact hdrives (.of_stb rfl) (.enterFeeding s)
  | await => exact hdrives (.of_stb rfl) (.enterWaiting s)
  | stop => exact hdrives (.of_stb rfl) (.enterPaused s _)
  | stopCut =>
    refine hdrives ?_ (State.Drives.sawReturn_entered { s with fcs.stopped := true })
    exact .of_stb (State.enter_frame _ _).1
  | stopFelling => exact ((State.Thins.abandonFelling s).congr (State.leaveFelling_frame _).1).law hs
  | cut kind => exact hdrives (.of_stb rfl) (.startCut s kind)
  | drop =>
    unfold State.dropTop
    extract_lets u
    have hu : s.Thins u := by
      simp only [u]
      split
      · exact .closeRecord s _ _ _
      · exact .of_stb rfl
    split
    · exact (hu.congr (by simp)).law hs
    · exact hu.law hs
  | release =>
    refine ((State.Thins.closeAll s s.stb.group StemRecord.releaseState .released).congr (u := s.release) ?_).law hs
    unfold State.release
    dsimp only
    split <;> simp [State.releaseGroup]
  | stems =>
    have h : s.Thins s.abortMeasurements.clearStems := (State.Thins.of_stb (by simp)).trans (.clearStems _)
    exact (h.congr (by simp [State.reinitialiseStems])).law hs
  | all =>
    have h : s.Thins s.abortMeasurements.clearConfiguration.clearStems :=
      (State.Thins.of_stb (by simp [State.clearConfiguration])).trans (.clearStems _)
    exact (h.congr (by simp [State.reinitialiseAll])).law hs
  | _ => exact hstb (by simp [State.raiseLock])

/-- The law of handles passes through every part of a step. -/
theorem handle_parts : StepParts (fun _ s => s.HandleLaw) fun _ s => s.HandleLaw where
  blocks h hb := (State.Thins.of_stb hb.1).law h
  blocks' h hb := (State.Thins.of_stb hb.1).law h
  weaken h := h
  powerOn node pins pending := by
    have hnone : ∀ i, (State.powerOn node pins pending).record? i = none := by
      intro i
      by_cases hi : i < 8
      · simp [State.record?, State.powerOn, StemTable.powerOn, hi]
      · exact State.record?_none (by omega)
    refine ⟨⟨le_rfl, Nat.le_of_ble_eq_true rfl, ?_⟩, fun i r hr => ?_, fun i j r q hr => ?_⟩
    · rw [Bool.eq_false_iff]
      intro h
      obtain ⟨i, r, hr, -⟩ := (State.holdsHandle_iff _ _).mp h
      simp [hnone] at hr
    · simp [hnone] at hr
    · simp [hnone] at hr
  request h hs := h.handleLaw hs
  pulse e d h := (State.Thins.of_reworked (.pulse _ e d)).law h
  fault e h := (State.Thins.of_reworked (.countQuadratureFault _ e)).law h
  contact level h := (State.Thins.of_reworked (.contactChanged _ level)).law h
  sawEnd {b s} h := by
    unfold State.sawEndAsserts
    split
    · unfold State.completeCut
      extract_lets u v
      have hu : s.Thins u := by
        simp only [u]
        split
        · exact (State.Thins.recordCuts s).2
        · exact (State.Thins.recordCuts s).1
      have hv : s.Thins (State.enter { v with fcs.reversals := 0, fcs.overshoot := false } .sawReturn) :=
        hu.congr (by simp [v])
      exact (hv.trans (.of_reworked (.of_drives (.sawReturn_entered _)))).law h
    · unfold State.completeFelling
      split
      · exact ((State.Thins.pushRecord s _).congr (State.enter_frame _ _).1).law h
      · exact (State.Thins.of_stb (by simp)).law h
    · exact (State.Thins.of_stb (by simp)).law h
    all_goals exact h
  sawHome h := (State.Thins.of_reworked (.of_drives (.sawHomeAsserts _))).law h
  haltOn {s} h := by
    unfold State.haltAsserts
    extract_lets u
    have hu : s.Thins u := by
      simp only [u]
      split
      · exact .abandonFelling s
      · exact .of_stb rfl
    exact (hu.congr (by simp)).law h
  haltOff {s} h := by
    unfold State.haltReleases
    split
    · exact (State.Thins.of_reworked (.of_drives (.enterPaused s _))).law h
    all_goals exact (State.Thins.of_stb (by simp)).law h
  count h := (State.Thins.of_stb (by simp)).law h
  settle _ h := (State.Thins.of_reworked (.of_drives (.settleExpires _))).law h
  saw _ h := (State.sawExpires_thins _).law h
  home _ h := (State.Thins.of_reworked (.of_drives (.homeExpires _))).law h
  stall _ h := (State.Thins.of_reworked (.of_drives (.stallExpires _))).law h
  sequence {b s q} r _ h := by
    unfold State.finishSequence
    have hd := State.Thins.deliver { s with dsq.running := none } (q.readAll r) (s.measureReport (q.readAll r))
    exact (((State.Thins.of_stb rfl).trans hd).congr (State.arbitrate_frame _).2.1).law h
  pass _ h := ((State.Thins.of_reworked (.finishPass _ _)).trans (.of_reworked (.of_drives (.completionReport _)))).law h

/-- Settles O31: the law through the parts of a step. -/
theorem handleLawKept : Obligations.HandleLawKept := fun _ _ h hstep => handle_parts.step h hstep

end Sys2Proof.Machine

/-! PROOF. The law of the feed group (R3, R6, R14, R28, R33) in parts: what holds of the records and the group whatever the
sequencer does, and the four shapes that a group has by the sequencer's state; and what reworked records keep of them. -/

namespace Sys2Proof.Machine

open Sys2Proof

/-! ### The parts of the law -/

/-- The law of the records and of the group's list. -/
structure State.GroupLaw (s : State) : Prop where
  records : ∀ i r, s.record? i = some r → r.Law
  nodup : s.stb.group.Nodup
  size : s.stb.group.length ≤ 4
  mem : ∀ i, i ∈ s.stb.group ↔ ∃ r, s.record? i = some r ∧ (r.state = .held ∨ r.state = .processing)

/-- No record is in FELLING. -/
def State.NoFelling (s : State) : Prop := ∀ i r, s.record? i = some r → r.state ≠ .felling

/-- Exactly one record is in FELLING. -/
def State.OneFelling (s : State) : Prop :=
  ∃ k r, s.record? k = some r ∧ r.state = .felling ∧ ∀ j q, s.record? j = some q → q.state = .felling → j = k

/-- Exactly one record leads. -/
def State.OneLead (s : State) : Prop :=
  ∃ k r, s.record? k = some r ∧ r.role = some .lead ∧ ∀ j q, s.record? j = some q → q.role = some .lead → j = k

/-- A group at rest: HELD records, possibly none, and no felling under way. -/
structure State.Resting (s : State) : Prop where
  noFelling : s.NoFelling
  all : s.groupAll .held

/-- A group at work: PROCESSING records with one lead, and no felling under way. -/
structure State.Working (s : State) : Prop where
  noFelling : s.NoFelling
  nonempty : s.stb.group ≠ []
  all : s.groupAll .processing
  lead : s.OneLead

/-- A felling under way beside a group of HELD records with room. -/
structure State.Felling (s : State) : Prop where
  one : s.OneFelling
  all : s.groupAll .held
  room : s.stb.group.length ≤ 3

/-- The shape of the group in a state of the sequencer (note to R28). -/
def State.InPhase (s : State) : SeqState → Prop
  | .idle => s.Resting ∧ s.stb.group = []
  | .holding => s.Resting ∧ s.stb.group ≠ []
  | .felling => s.Felling
  | .halted => s.Resting ∨ s.Working
  | .waiting | .feeding | .creeping | .settling | .reversing | .atTarget | .cutting | .sawReturn | .paused => s.Working

theorem State.inPhase_processing {s : State} {st : SeqState} (h : st.isProcessing = true) :
    s.InPhase st ↔ s.Working := by
  cases st <;> simp_all [SeqState.isProcessing, State.InPhase]

section Parts

variable {s t : State}

/-- A group of HELD records is not PROCESSING. -/
theorem State.groupState_ne_of_held (h : s.groupAll .held) : s.groupState ≠ .processing := by
  unfold State.groupState
  split
  · simp
  · next i r rest hm =>
    obtain ⟨hi, hr⟩ := State.mem_members.mp (hm ▸ List.mem_cons_self : (i, r) ∈ s.members)
    simp [h i hi r hr]

/-- A group's entries hold records. -/
theorem State.GroupLaw.members_ne (hg : s.GroupLaw) (h : s.stb.group ≠ []) : s.members ≠ [] := by
  obtain ⟨i, hi⟩ := List.exists_mem_of_ne_nil _ h
  obtain ⟨r, hr, -⟩ := (hg.mem i).mp hi
  exact List.ne_nil_of_mem (State.mem_members.mpr ⟨hi, hr⟩)

/-- A group at work is PROCESSING. -/
theorem State.GroupLaw.groupState_processing (hg : s.GroupLaw) (hne : s.stb.group ≠ []) (h : s.groupAll .processing) :
    s.groupState = .processing := by
  have hm := hg.members_ne hne
  unfold State.groupState
  split
  · exact absurd ‹_› hm
  · next i r rest hm =>
    obtain ⟨hi, hr⟩ := State.mem_members.mp (hm ▸ List.mem_cons_self : (i, r) ∈ s.members)
    simp [h i hi r hr]

/-- The one lead of a group at work is found. -/
theorem State.Working.lead? (hg : s.GroupLaw) (hw : s.Working) :
    ∃ k r, s.lead? = some (k, r) ∧ ∀ j q, s.record? j = some q → q.role = some .lead → j = k := by
  obtain ⟨k, r, hr, hrole, huniq⟩ := hw.lead
  have hst : r.state = .processing := (hg.records k r hr).1.mp (by simp [hrole])
  have hk : k ∈ s.stb.group := (hg.mem k).mpr ⟨r, hr, .inr hst⟩
  have hfind : (s.members.find? fun m => m.2.role == some .lead).isSome :=
    List.find?_isSome.mpr ⟨(k, r), State.mem_members.mpr ⟨hk, hr⟩, by simp [hrole]⟩
  obtain ⟨⟨j, q⟩, hq⟩ := Option.isSome_iff_exists.mp hfind
  have hlead : s.lead? = some (j, q) := by
    unfold State.lead?
    rw [if_pos (hg.groupState_processing hw.nonempty hw.all), hq]
  obtain ⟨hj, hjrole⟩ := State.lead?_spec hlead
  exact ⟨j, q, hlead, fun i p hp hprole => (huniq i p hp hprole).trans (huniq j q hj hjrole).symm⟩

/-- The law of the feed group is the law of records and list, and the shape by the sequencer's state. -/
theorem State.stemLaw_iff (s : State) : s.StemLaw ↔ s.GroupLaw ∧ s.InPhase s.fcs.state := by
  constructor
  · rintro ⟨h1, h2, h3, h4, h5, h6, h7⟩
    have hg : s.GroupLaw := ⟨h1, h2, h3, h4⟩
    refine ⟨hg, ?_⟩
    have hwork : s.NoFelling → s.stb.group ≠ [] → s.groupAll .processing → s.Working := by
      intro hf hne hall
      obtain ⟨k, r, hl, hu⟩ := h5 (hg.groupState_processing hne hall)
      exact ⟨hf, hne, hall, k, r, (State.lead?_spec hl).1, (State.lead?_spec hl).2, hu⟩
    cases hst : s.fcs.state <;> rw [hst] at h6 h7
    case idle => exact ⟨⟨h6 nofun, by simp [State.groupAll, h7]⟩, h7⟩
    case felling => exact ⟨h7.2.2, h7.1, h7.2.1⟩
    case holding => exact ⟨⟨h6 nofun, h7.2⟩, h7.1⟩
    case halted =>
      by_cases hne : s.stb.group = []
      · exact .inl ⟨h6 nofun, by simp [State.groupAll, hne]⟩
      · exact h7.imp (⟨h6 nofun, ·⟩) (hwork (h6 nofun) hne)
    all_goals exact hwork (h6 nofun) h7.1 h7.2
  · rintro ⟨hg, hp⟩
    have hheld : s.groupAll .held → s.groupState = .processing → ∃ k r, s.lead? = some (k, r) ∧
        ∀ j q, s.record? j = some q → q.role = some .lead → j = k := fun h hst =>
      absurd hst (State.groupState_ne_of_held h)
    refine ⟨hg.records, hg.nodup, hg.size, hg.mem, ?_⟩
    cases hst : s.fcs.state <;> rw [hst] at hp
    case idle => exact ⟨hheld hp.1.all, fun _ => hp.1.noFelling, hp.2⟩
    case felling => exact ⟨hheld hp.all, fun h => absurd rfl h, hp.all, hp.room, hp.one⟩
    case holding => exact ⟨hheld hp.1.all, fun _ => hp.1.noFelling, hp.2, hp.1.all⟩
    case halted =>
      obtain hr | hw := hp
      · exact ⟨hheld hr.all, fun _ => hr.noFelling, .inl hr.all⟩
      · exact ⟨fun _ => hw.lead? hg, fun _ => hw.noFelling, .inr hw.all⟩
    all_goals exact ⟨fun _ => State.Working.lead? hg hp, fun _ => hp.noFelling, hp.nonempty, hp.all⟩

/-! ### What reworked records keep -/

/-- The law of records and list where records keep their heads and their law. -/
theorem State.GroupLaw.of_heads (hg : s.GroupLaw) (h : s.Related StemRecord.SameHead t) (hgroup : t.stb.group = s.stb.group)
    (hlaw : ∀ i r, t.record? i = some r → r.Law) : t.GroupLaw where
  records := hlaw
  nodup := hgroup ▸ hg.nodup
  size := hgroup ▸ hg.size
  mem i := by
    rw [hgroup, hg.mem]
    constructor
    · rintro ⟨r, hr, hst⟩
      obtain ⟨r', hr', hh⟩ := h.some_left hr
      exact ⟨r', hr', by rwa [hh.state]⟩
    · rintro ⟨r', hr', hst⟩
      obtain ⟨r, hr, hh⟩ := h.some_right hr'
      exact ⟨r, hr, by rwa [← hh.state]⟩

theorem State.groupAll_of_heads {st : StemState} (hs : s.groupAll st) (h : s.Related StemRecord.SameHead t)
    (hgroup : t.stb.group = s.stb.group) : t.groupAll st := fun i hi r' hr' => by
  obtain ⟨r, hr, hh⟩ := h.some_right hr'
  rw [hh.state]
  exact hs i (hgroup ▸ hi) r hr

theorem State.NoFelling.of_heads (hs : s.NoFelling) (h : s.Related StemRecord.SameHead t) : t.NoFelling := fun i r' hr' => by
  obtain ⟨r, hr, hh⟩ := h.some_right hr'
  rw [hh.state]
  exact hs i r hr

theorem State.Resting.of_heads (hs : s.Resting) (h : s.Related StemRecord.SameHead t)
    (hgroup : t.stb.group = s.stb.group) : t.Resting :=
  ⟨hs.noFelling.of_heads h, State.groupAll_of_heads hs.all h hgroup⟩

theorem State.OneLead.of_heads (hs : s.OneLead) (h : s.Related StemRecord.SameHead t) : t.OneLead := by
  obtain ⟨k, r, hr, hrole, hu⟩ := hs
  obtain ⟨r', hr', hh⟩ := h.some_left hr
  refine ⟨k, r', hr', hh.role.trans hrole, fun j q' hq' hq => ?_⟩
  obtain ⟨q, hq0, hqh⟩ := h.some_right hq'
  exact hu j q hq0 (hqh.role.symm.trans hq)

theorem State.OneFelling.of_heads (hs : s.OneFelling) (h : s.Related StemRecord.SameHead t) : t.OneFelling := by
  obtain ⟨k, r, hr, hst, hu⟩ := hs
  obtain ⟨r', hr', hh⟩ := h.some_left hr
  refine ⟨k, r', hr', hh.state.trans hst, fun j q' hq' hq => ?_⟩
  obtain ⟨q, hq0, hqh⟩ := h.some_right hq'
  exact hu j q hq0 (hqh.state.symm.trans hq)

theorem State.Working.of_heads (hs : s.Working) (h : s.Related StemRecord.SameHead t)
    (hgroup : t.stb.group = s.stb.group) : t.Working :=
  ⟨hs.noFelling.of_heads h, hgroup ▸ hs.nonempty, State.groupAll_of_heads hs.all h hgroup, hs.lead.of_heads h⟩

theorem State.Felling.of_heads (hs : s.Felling) (h : s.Related StemRecord.SameHead t)
    (hgroup : t.stb.group = s.stb.group) : t.Felling :=
  ⟨hs.one.of_heads h, State.groupAll_of_heads hs.all h hgroup, hgroup ▸ hs.room⟩

theorem State.InPhase.of_heads {st : SeqState} (hs : s.InPhase st) (h : s.Related StemRecord.SameHead t)
    (hgroup : t.stb.group = s.stb.group) : t.InPhase st := by
  cases st
  case idle => exact ⟨hs.1.of_heads h hgroup, hgroup ▸ hs.2⟩
  case holding => exact ⟨hs.1.of_heads h hgroup, hgroup ▸ hs.2⟩
  case felling => exact State.Felling.of_heads hs h hgroup
  case halted => exact hs.imp (·.of_heads h hgroup) (·.of_heads h hgroup)
  all_goals exact State.Working.of_heads hs h hgroup

namespace State.Reworked

theorem heads (h : s.Reworked t) : s.Related StemRecord.SameHead t := h.records.mono fun h => h.head

theorem groupLaw (h : s.Reworked t) (hs : s.GroupLaw) : t.GroupLaw :=
  hs.of_heads h.heads h.group fun i r' hr' => by
    obtain ⟨r, hr, hw⟩ := h.records.some_right hr'
    exact hw.law (hs.records i r hr)

theorem inPhase {st : SeqState} (h : s.Reworked t) (hs : s.InPhase st) : t.InPhase st := hs.of_heads h.heads h.group

end State.Reworked

end Parts

end Sys2Proof.Machine

/-! PROOF. Opening, pushing and closing records, the start and the end of a group, and the SAW_END of a cut: what each does
with the law of records and list and with the shape of the group. -/

namespace Sys2Proof.Machine

open Sys2Proof

section Special

variable {s t : State}

/-! ### Closing (R4) -/

/-- The two states in which a record ends. -/
def StemState.ends : StemState → Bool
  | .closed | .abandoned => true
  | .felling | .held | .processing => false

/-- A closed record is lawful. -/
theorem StemRecord.Law.closed {r : StemRecord} {st : StemState} (hst : st.ends = true) (why : EndReason) :
    (r.closed st why).Law := by
  cases st <;> simp_all [StemState.ends, StemRecord.Law, StemRecord.closed]

/-- After closes of several slots: the other records as they were, the records of these slots at an end, and the group
without them. -/
structure State.Closes (l : List Nat) (s t : State) : Prop where
  law : t.GroupLaw
  kept : ∀ i r, t.record? i = some r → (i ∉ l ∧ s.record? i = some r) ∨ (i ∈ l ∧ r.state.ends = true)
  others : ∀ i, i ∉ l → t.record? i = s.record? i
  group : t.stb.group = s.stb.group.filter (· ∉ l)

theorem State.GroupLaw.closes_nil (hg : s.GroupLaw) : State.Closes [] s s :=
  ⟨hg, fun _ r hr => .inl ⟨by simp, hr⟩, fun _ _ => rfl, by simp⟩

/-- What leaves the Stem Table adds nothing. -/
theorem State.Closes.congr {l : List Nat} {u : State} (h : State.Closes l s t) (he : u.stb = t.stb) : State.Closes l s u :=
  ⟨(State.Reworked.of_stb he).groupLaw h.law, fun i r hr => h.kept i r (State.record?_congr he i ▸ hr),
    fun i hi => (State.record?_congr he i).trans (h.others i hi), by rw [he, h.group]⟩

theorem State.closeRecord_group {k : Nat} {r : StemRecord} (hr : s.record? k = some r) (st : StemState) (why : EndReason) :
    (s.closeRecord k st why).stb.group = s.stb.group.filter (· ≠ k) := by
  have hfilter : (s.stb.group.filter fun i => i != k) = s.stb.group.filter (· ≠ k) :=
    List.filter_congr fun i _ => by simp [← Bool.beq_eq_decide_eq, bne]
  unfold State.closeRecord
  simp only [hr]
  split <;> simpa using hfilter

/-- The close of a vacant slot changes nothing. -/
theorem State.GroupLaw.closes_vacant (hg : s.GroupLaw) {k : Nat} (hk : s.record? k = none) : State.Closes [k] s s := by
  have hne : ∀ {i r}, s.record? i = some r → i ∉ [k] := fun {i r} hr hi => by
    rw [List.mem_singleton.mp hi, hk] at hr
    cases hr
  refine ⟨hg, fun i r hr => .inl ⟨hne hr, hr⟩, fun _ _ => rfl, (List.filter_eq_self.mpr fun i hi => ?_).symm⟩
  obtain ⟨r, hr, -⟩ := (hg.mem i).mp hi
  exact decide_eq_true (hne hr)

/-- One close. -/
theorem State.GroupLaw.closeRecord (hg : s.GroupLaw) (k : Nat) {st : StemState} (hst : st.ends = true) (why : EndReason) :
    State.Closes [k] s (s.closeRecord k st why) := by
  cases hk : s.record? k with
  | none =>
    have he : s.closeRecord k st why = s := by simp [State.closeRecord, hk]
    rw [he]
    exact hg.closes_vacant hk
  | some q =>
    have hrec : ∀ i, (s.closeRecord k st why).record? i =
        if i = k then (s.record? i).map fun r => r.closed st why else s.record? i := State.record?_closeRecord s k st why
    have hgroup := State.closeRecord_group hk st why
    have hkept : ∀ i r, (s.closeRecord k st why).record? i = some r →
        (i ≠ k ∧ s.record? i = some r) ∨ (i = k ∧ ∃ p, r = StemRecord.closed p st why) := by
      intro i r hr
      rw [hrec] at hr
      split at hr
      · obtain ⟨p, -, rfl⟩ := Option.map_eq_some_iff.mp hr
        exact .inr ⟨‹_›, p, rfl⟩
      · exact .inl ⟨‹_›, hr⟩
    refine ⟨⟨fun i r hr => ?_, ?_, ?_, fun i => ?_⟩, fun i r hr => ?_, fun i hi => ?_, ?_⟩
    · obtain ⟨-, hr⟩ | ⟨-, p, rfl⟩ := hkept i r hr
      · exact hg.records i r hr
      · exact .closed hst why
    · rw [hgroup]
      exact hg.nodup.filter _
    · rw [hgroup]
      exact (List.length_filter_le _ _).trans hg.size
    · rw [hgroup, List.mem_filter, hg.mem]
      constructor
      · rintro ⟨⟨r, hr, hs⟩, hi⟩
        exact ⟨r, by rw [hrec, if_neg (by simpa using hi), hr], hs⟩
      · rintro ⟨r, hr, hs⟩
        obtain ⟨hi, hr⟩ | ⟨-, p, rfl⟩ := hkept i r hr
        · exact ⟨⟨r, hr, hs⟩, by simpa using hi⟩
        · exfalso
          cases st <;> simp_all [StemState.ends, StemRecord.closed]
    · obtain ⟨hi, hr⟩ | ⟨hi, p, rfl⟩ := hkept i r hr
      · exact .inl ⟨by simpa using hi, hr⟩
      · exact .inr ⟨by simpa using hi, hst⟩
    · rw [hrec, if_neg (by simpa using hi)]
    · rw [hgroup]
      exact List.filter_congr fun i _ => by simp

/-- A series of closes of one slot is its close, where the slot holds a record. -/
theorem State.closeAll_singleton (s : State) (k : Nat) (st : StemRecord → StemState) (why : EndReason) :
    s.closeAll [k] st why = s ∧ s.record? k = none ∨ ∃ r, s.closeAll [k] st why = s.closeRecord k (st r) why := by
  unfold State.closeAll
  cases hk : s.record? k with
  | none => exact .inl ⟨by simp [hk], rfl⟩
  | some r => exact .inr ⟨r, by simp [hk]⟩

/-- Closes of several slots, one after another. -/
theorem State.GroupLaw.closeAll (hg : s.GroupLaw) (l : List Nat) {st : StemRecord → StemState}
    (hst : ∀ r, (st r).ends = true) (why : EndReason) : State.Closes l s (s.closeAll l st why) := by
  induction l generalizing s with
  | nil => exact hg.closes_nil
  | cons k l ih =>
    have hone : State.Closes [k] s (s.closeAll [k] st why) := by
      obtain ⟨he, hk⟩ | ⟨r, he⟩ := s.closeAll_singleton k st why
      · rw [he]
        exact hg.closes_vacant hk
      · rw [he]
        exact hg.closeRecord k (hst r) why
    have hrest := ih hone.law
    refine ⟨hrest.law, fun i r hr => ?_, fun i hi => ?_, ?_⟩
    · obtain ⟨hi, hr⟩ | ⟨hi, he⟩ := hrest.kept i r hr
      · obtain ⟨hik, hr⟩ | ⟨hik, he⟩ := hone.kept i r hr
        · exact .inl ⟨by simpa using ⟨by simpa using hik, hi⟩, hr⟩
        · exact .inr ⟨List.mem_cons.mpr (.inl (by simpa using hik)), he⟩
      · exact .inr ⟨List.mem_cons_of_mem _ hi, he⟩
    · obtain ⟨hk, hl⟩ := not_or.mp (mt List.mem_cons.mpr hi)
      exact (hrest.others i hl).trans (hone.others i (by simpa using hk))
    · calc (s.closeAll (k :: l) st why).stb.group
          = (s.closeAll [k] st why).stb.group.filter (· ∉ l) := hrest.group
        _ = s.stb.group.filter (· ∉ k :: l) := by
          rw [hone.group, List.filter_filter]
          exact List.filter_congr fun i _ => by simp [Bool.and_comm]

namespace State.Closes

variable {l : List Nat}

/-- Closes start no felling. -/
theorem noFelling (h : State.Closes l s t) (hs : s.NoFelling) : t.NoFelling := fun i r hr hst => by
  obtain ⟨-, hr⟩ | ⟨-, he⟩ := h.kept i r hr
  · exact hs i r hr hst
  · simp [hst, StemState.ends] at he

/-- The records left in the group are as they were. -/
theorem groupAll {st : StemState} (h : State.Closes l s t) (hs : s.groupAll st) : t.groupAll st := fun i hi r hr => by
  rw [h.group, List.mem_filter] at hi
  obtain ⟨-, hr⟩ | ⟨hl, -⟩ := h.kept i r hr
  · exact hs i hi.1 r hr
  · simp [hl] at hi

theorem resting (h : State.Closes l s t) (hs : s.Resting) : t.Resting := ⟨h.noFelling hs.noFelling, h.groupAll hs.all⟩

/-- A group whose every record has been closed. -/
theorem resting_of_all (h : State.Closes l s t) (hs : s.NoFelling) (hl : ∀ i ∈ s.stb.group, i ∈ l) :
    t.Resting ∧ t.stb.group = [] := by
  have he : t.stb.group = [] := by
    rw [h.group]
    exact List.filter_eq_nil_iff.mpr fun i hi => by simp [hl i hi]
  exact ⟨⟨h.noFelling hs, by simp [State.groupAll, he]⟩, he⟩

/-- A group that keeps its lead goes on. -/
theorem working (h : State.Closes l s t) (hg : s.GroupLaw) (hs : s.Working)
    (hl : ∀ k r, s.record? k = some r → r.role = some .lead → k ∉ l) : t.Working := by
  obtain ⟨k, r, hr, hrole, hu⟩ := hs.lead
  have hk := hl k r hr hrole
  have hkg : k ∈ s.stb.group := (hg.mem k).mpr ⟨r, hr, .inr ((hg.records k r hr).1.mp (by simp [hrole]))⟩
  refine ⟨h.noFelling hs.noFelling, ?_, h.groupAll hs.all, k, r, (h.others k hk).trans hr, hrole, fun j q hq hqrole => ?_⟩
  · exact List.ne_nil_of_mem (a := k) (by rw [h.group]; simpa using ⟨hkg, hk⟩)
  · obtain ⟨-, hq⟩ | ⟨-, he⟩ := h.kept j q hq
    · exact hu j q hq hqrole
    · have := (h.law.records j q ‹_›).1.mp (by simp [hqrole])
      simp [this, StemState.ends] at he

end State.Closes

/-! ### A felling (R1, R29, R144) -/

/-- The one record in FELLING is found. -/
theorem State.OneFelling.slot (h : s.OneFelling) : ∃ k r, s.fellingSlot? = some k ∧ s.record? k = some r ∧
    r.state = .felling ∧ ∀ j q, s.record? j = some q → q.state = .felling → j = k := by
  obtain ⟨j, q, hq, hst, hu⟩ := h
  have hsome : s.fellingSlot?.isSome := by
    unfold State.fellingSlot?
    rw [List.findIdx?_isSome, State.slots_eq, List.any_map, List.any_eq_true]
    exact ⟨j, List.mem_range.mpr (State.record?_lt hq), by simp [hq, hst]⟩
  obtain ⟨k, hk⟩ := Option.isSome_iff_exists.mp hsome
  obtain ⟨r, hr, hrst⟩ := State.fellingSlot?_spec hk
  exact ⟨k, r, hk, hr, hrst, fun i p hp hpst => (hu i p hp hpst).trans (hu k r hr hrst).symm⟩

/-- A failed felling leaves the group of HELD records at rest. -/
theorem State.Felling.abandoned (hg : s.GroupLaw) (h : s.Felling) : s.abandonFelling.GroupLaw ∧ s.abandonFelling.Resting := by
  obtain ⟨k, r, hk, hr, hst, hu⟩ := h.one.slot
  have he : s.abandonFelling = s.closeRecord k .abandoned .fellFailed := by simp [State.abandonFelling, hk]
  have hc := hg.closeRecord k (st := .abandoned) rfl .fellFailed
  rw [he]
  refine ⟨hc.law, fun i q hq hqst => ?_, hc.groupAll h.all⟩
  obtain ⟨hi, hq⟩ | ⟨-, hend⟩ := hc.kept i q hq
  · exact hi (by simpa using hu i q hq hqst)
  · simp [hqst, StemState.ends] at hend

/-- A record pushed joins the group of HELD records. -/
theorem State.Felling.pushed (hg : s.GroupLaw) (h : s.Felling) {k : Nat} (hk : s.fellingSlot? = some k) :
    (s.pushRecord k).GroupLaw ∧ (s.pushRecord k).Resting ∧ (s.pushRecord k).stb.group ≠ [] := by
  obtain ⟨j, r, hj, hr, hst, hu⟩ := h.one.slot
  obtain rfl := Option.some.inj (hj.symm.trans hk)
  set r' : StemRecord := { r with state := .held } with hr'
  have hgroup : (s.pushRecord j).stb.group = s.stb.group ++ [j] := by simp [State.pushRecord, hr]
  have hrec : ∀ i, (s.pushRecord j).record? i = if i = j then some r' else s.record? i := by
    intro i
    rw [← State.record?_setSlot (State.record?_lt hr)]
    simp only [State.pushRecord, hr]
    rw [State.record?_congr (State.offerNotice_frame _ _).1]
    rfl
  have hnot : j ∉ s.stb.group := fun hmem => by
    have := h.all j hmem r hr
    simp [hst] at this
  obtain ⟨l1, l2, l3, l4, l5⟩ := hg.records j r hr
  have hlaw : r'.Law := by
    refine ⟨?_, ?_, l3, l4, fun _ => l5 (.inl hst)⟩
    · simpa [hst, r'] using l1
    · simpa [hst, r'] using l2
  have hkept : ∀ i q, (s.pushRecord j).record? i = some q → (i = j ∧ q = r') ∨ (i ≠ j ∧ s.record? i = some q) := by
    intro i q hq
    rw [hrec] at hq
    split at hq
    · exact .inl ⟨‹_›, (Option.some.inj hq).symm⟩
    · exact .inr ⟨‹_›, hq⟩
  refine ⟨⟨fun i q hq => ?_, ?_, ?_, fun i => ?_⟩, ⟨fun i q hq hqst => ?_, fun i hi q hq => ?_⟩, by simp [hgroup]⟩
  · obtain ⟨-, rfl⟩ | ⟨-, hq⟩ := hkept i q hq
    · exact hlaw
    · exact hg.records i q hq
  · rw [hgroup]
    exact List.nodup_append.mpr ⟨hg.nodup, List.nodup_singleton j, fun a ha b hb => by
      rw [List.mem_singleton.mp hb]
      rintro rfl
      exact hnot ha⟩
  · rw [hgroup]
    simpa using Nat.lt_succ_of_le h.room
  · rw [hgroup, List.mem_append, hg.mem, List.mem_singleton, hrec]
    by_cases hi : i = j
    · simp [hi, r']
    · simp [hi]
  · obtain ⟨-, rfl⟩ | ⟨hi, hq⟩ := hkept i q hq
    · simp [r'] at hqst
    · exact hi (hu i q hq hqst)
  · obtain ⟨-, rfl⟩ | ⟨hi', hq⟩ := hkept i q hq
    · rfl
    · rw [hgroup, List.mem_append, List.mem_singleton] at hi
      exact h.all i (hi.resolve_right hi') q hq

/-- A record opened beside a group at rest that has room. -/
theorem State.Resting.opened (hg : s.GroupLaw) (h : s.Resting) {slot : Nat} (hf : s.freeSlot? = some slot)
    (hroom : s.stb.group.length < 4) (species : Nat) :
    (s.openRecord slot species).GroupLaw ∧ (s.openRecord slot species).Felling := by
  obtain ⟨hk, hnone⟩ := State.freeSlot?_spec hf
  set r₀ := StemRecord.opening s.stb.nextHandle species (s.stb.group.length + 1) s.params.profileStep
  have hgroup : (s.openRecord slot species).stb.group = s.stb.group := by simp [State.openRecord]
  have hrec : ∀ i, (s.openRecord slot species).record? i = if i = slot then some r₀ else s.record? i := fun i =>
    State.record?_setSlot hk _ i
  have hkept : ∀ i q, (s.openRecord slot species).record? i = some q → (i = slot ∧ q = r₀) ∨ (s.record? i = some q) := by
    intro i q hq
    rw [hrec] at hq
    split at hq
    · exact .inl ⟨‹_›, (Option.some.inj hq).symm⟩
    · exact .inr hq
  have hlaw : r₀.Law := by simp [StemRecord.Law, r₀, StemRecord.opening]
  refine ⟨⟨fun i q hq => ?_, hgroup ▸ hg.nodup, hgroup ▸ hg.size, fun i => ?_⟩,
    ⟨slot, r₀, by simp [hrec], rfl, fun j q hq hqst => ?_⟩, fun i hi q hq => ?_, by rw [hgroup]; omega⟩
  · obtain ⟨-, rfl⟩ | hq := hkept i q hq
    · exact hlaw
    · exact hg.records i q hq
  · rw [hgroup, hg.mem, hrec]
    by_cases hi : i = slot
    · simp [hi, hnone, r₀, StemRecord.opening]
    · simp [hi]
  · obtain ⟨hj, -⟩ | hq := hkept j q hq
    · exact hj
    · exact absurd hqst (h.noFelling j q hq)
  · rw [hgroup] at hi
    obtain ⟨rfl, -⟩ | hq := hkept i q hq
    · obtain ⟨r, hr, -⟩ := (hg.mem i).mp hi
      simp [hnone] at hr
    · exact h.all i hi q hq

/-! ### Freeing slots (R27, R1) -/

/-- A finished record's slot freed: nothing of the group changes. -/
theorem State.GroupLaw.retired (hg : s.GroupLaw) {k : Nat} {r : StemRecord} (hr : s.record? k = some r)
    (hf : r.finished = true) {st : SeqState} (hp : s.InPhase st) :
    (s.setSlot k none).GroupLaw ∧ (s.setSlot k none).InPhase st := by
  have hend : r.state ≠ .held ∧ r.state ≠ .processing ∧ r.state ≠ .felling := by
    unfold StemRecord.finished at hf
    cases hst : r.state <;> simp_all
  have hkept : ∀ i q, (s.setSlot k none).record? i = some q ↔ i ≠ k ∧ s.record? i = some q := by
    intro i q
    rw [State.record?_setSlot (State.record?_lt hr)]
    split <;> simp_all
  have hne : ∀ i q, s.record? i = some q → (q.state = .held ∨ q.state = .processing ∨ q.state = .felling) → i ≠ k := by
    rintro i q hq hst rfl
    obtain rfl := Option.some.inj (hr.symm.trans hq)
    simp_all
  have hgroup : (s.setSlot k none).stb.group = s.stb.group := by simp
  have hall : ∀ {st}, s.groupAll st → (s.setSlot k none).groupAll st := fun h i hi q hq =>
    h i (hgroup ▸ hi) q ((hkept i q).mp hq).2
  have hno : s.NoFelling → (s.setSlot k none).NoFelling := fun h i q hq => h i q ((hkept i q).mp hq).2
  have hrest : s.Resting → (s.setSlot k none).Resting := fun h => ⟨hno h.noFelling, hall h.all⟩
  have hwork : s.Working → (s.setSlot k none).Working := by
    rintro ⟨h1, h2, h3, j, q, hq, hrole, hu⟩
    have hst := (hg.records j q hq).1.mp (by simp [hrole])
    exact ⟨hno h1, hgroup ▸ h2, hall h3, j, q, (hkept j q).mpr ⟨hne j q hq (.inr (.inl hst)), hq⟩, hrole,
      fun i p hp => hu i p ((hkept i p).mp hp).2⟩
  refine ⟨⟨fun i q hq => hg.records i q ((hkept i q).mp hq).2, hgroup ▸ hg.nodup, hgroup ▸ hg.size, fun i => ?_⟩, ?_⟩
  · rw [hgroup, hg.mem]
    constructor
    · rintro ⟨q, hq, hst⟩
      exact ⟨q, (hkept i q).mpr ⟨hne i q hq (hst.imp_right .inl), hq⟩, hst⟩
    · rintro ⟨q, hq, hst⟩
      exact ⟨q, ((hkept i q).mp hq).2, hst⟩
  · cases st
    case idle => exact ⟨hrest hp.1, hgroup ▸ hp.2⟩
    case holding => exact ⟨hrest hp.1, hgroup ▸ hp.2⟩
    case felling =>
      obtain ⟨⟨j, q, hq, hst, hu⟩, h2, h3⟩ := hp
      exact ⟨⟨j, q, (hkept j q).mpr ⟨hne j q hq (.inr (.inr hst)), hq⟩, hst, fun i p hp => hu i p ((hkept i p).mp hp).2⟩,
        hall h2, hgroup ▸ h3⟩
    case halted => exact hp.imp hrest hwork
    all_goals exact hwork hp

/-- No record at all is a group at rest. -/
theorem State.groupLaw_of_empty (hnone : ∀ i, s.record? i = none) (hgroup : s.stb.group = []) : s.GroupLaw ∧ s.Resting := by
  refine ⟨⟨fun i r hr => ?_, by simp [hgroup], by simp [hgroup], fun i => by simp [hgroup, hnone]⟩, fun i r hr => ?_,
    by simp [State.groupAll, hgroup]⟩
  · simp [hnone] at hr
  · simp [hnone] at hr

/-! ### Group start (R33, R34) -/

/-- Every slot of a list changed by a function of its number. -/
theorem State.record?_foldl_modifySlot {l : List Nat} (hl : l.Nodup) (f : Nat → StemRecord → StemRecord) (s : State) (i : Nat) :
    (l.foldl (fun t k => t.modifySlot k (f k)) s).record? i = if i ∈ l then (s.record? i).map (f i) else s.record? i := by
  induction l generalizing s with
  | nil => simp
  | cons k l ih =>
    obtain ⟨hk, hl⟩ := List.nodup_cons.mp hl
    rw [List.foldl_cons, ih hl, State.record?_modifySlot]
    by_cases hi : i = k
    · subst hi
      simp [hk]
    · simp [hi]

/-- The chosen lead is a member of the group. -/
theorem State.chooseLead_spec (h : s.members ≠ []) : ∃ k ∈ s.members.map Prod.fst, s.chooseLead = some k := by
  have hfold : ∀ (l : List (Nat × StemRecord)) (k b : Nat), ∃ j ∈ k :: l.map Prod.fst, ∃ c,
      (l.foldl (fun (best : Option (Nat × Nat)) m =>
        let b := m.2.butt.getD 0
        match best with
        | some (_, top) => if top < b then some (m.1, b) else best
        | none => some (m.1, b)) (some (k, b))) = some (j, c) := by
    intro l
    induction l with
    | nil => exact fun k b => ⟨k, by simp, b, rfl⟩
    | cons m l ih =>
      intro k b
      rw [List.foldl_cons]
      dsimp only
      split
      · obtain ⟨j, hj, c, hc⟩ := ih m.1 (m.2.butt.getD 0)
        exact ⟨j, List.mem_cons_of_mem _ hj, c, hc⟩
      · obtain ⟨j, hj, c, hc⟩ := ih k b
        refine ⟨j, ?_, c, hc⟩
        simp only [List.mem_cons, List.map_cons] at hj ⊢
        exact hj.imp_right .inr
  unfold State.chooseLead
  cases hm : s.members with
  | nil => exact absurd hm h
  | cons m l =>
    obtain ⟨j, hj, c, hc⟩ := hfold l m.1 (m.2.butt.getD 0)
    exact ⟨j, hj, by rw [List.foldl_cons]; exact congrArg (Option.map Prod.fst) hc⟩

/-- The start of a group of HELD records sets it to work under one lead. -/
theorem State.Resting.started (hg : s.GroupLaw) (h : s.Resting) (hne : s.stb.group ≠ []) :
    s.startGroup.GroupLaw ∧ s.startGroup.Working := by
  obtain ⟨k, hk, hlead⟩ := State.chooseLead_spec (hg.members_ne hne)
  have hkg : k ∈ s.stb.group := by
    obtain ⟨⟨j, q⟩, hm, rfl⟩ := List.mem_map.mp hk
    exact (State.mem_members.mp hm).1
  have hgroup : s.startMembers.stb.group = s.stb.group := by simp
  have hrec : ∀ i, s.startMembers.record? i =
      if i ∈ s.stb.group then (s.record? i).map (s.startMember s.chooseLead i) else s.record? i :=
    State.record?_foldl_modifySlot hg.nodup (fun i => s.startMember s.chooseLead i) s
  have hkept : ∀ i q, s.startMembers.record? i = some q →
      (i ∈ s.stb.group ∧ ∃ r, s.record? i = some r ∧ q = s.startMember s.chooseLead i r) ∨
      (i ∉ s.stb.group ∧ s.record? i = some q) := by
    intro i q hq
    rw [hrec] at hq
    split at hq
    · obtain ⟨r, hr, rfl⟩ := Option.map_eq_some_iff.mp hq
      exact .inl ⟨‹_›, r, hr, rfl⟩
    · exact .inr ⟨‹_›, hq⟩
  have hstarted : s.startMembers.GroupLaw ∧ s.startMembers.Working := by
    refine ⟨⟨fun i q hq => ?_, hgroup ▸ hg.nodup, hgroup ▸ hg.size, fun i => ?_⟩,
      fun i q hq => ?_, hgroup ▸ hne, fun i hi q hq => ?_, ?_⟩
    · obtain ⟨hi, r, hr, rfl⟩ | ⟨-, hq⟩ := hkept i q hq
      · obtain ⟨l1, l2, l3, l4, l5⟩ := hg.records i r hr
        have hst := h.all i hi r hr
        have hrole : r.role = none := by simpa [hst] using l1
        refine ⟨by simp [State.startMember], ?_, fun _ => l3 (by simp [hrole]), l4, by simp [State.startMember]⟩
        simpa [hst, State.startMember] using l2
      · exact hg.records i q hq
    · rw [hgroup, hg.mem]
      constructor
      · rintro ⟨r, hr, hst⟩
        have hi : i ∈ s.stb.group := (hg.mem i).mpr ⟨r, hr, hst⟩
        exact ⟨s.startMember s.chooseLead i r, by rw [hrec, if_pos hi, hr]; rfl, .inr rfl⟩
      · rintro ⟨q, hq, hst⟩
        obtain ⟨hi, -⟩ | ⟨-, hq⟩ := hkept i q hq
        · exact (hg.mem i).mp hi
        · exact ⟨q, hq, hst⟩
    · obtain ⟨-, r, -, rfl⟩ | ⟨-, hq⟩ := hkept i q hq
      · simp [State.startMember]
      · exact h.noFelling i q hq
    · obtain ⟨-, r, -, rfl⟩ | ⟨hi', -⟩ := hkept i q hq
      · rfl
      · exact absurd (hgroup ▸ hi) hi'
    · obtain ⟨r, hr, -⟩ := (hg.mem k).mp hkg
      refine ⟨k, s.startMember s.chooseLead k r, by rw [hrec, if_pos hkg, hr]; rfl, by simp [State.startMember, hlead],
        fun j q hq hrole => ?_⟩
      obtain ⟨-, p, -, rfl⟩ | ⟨hj, hq⟩ := hkept j q hq
      · by_contra hjk
        simp [State.startMember, hlead, Ne.symm hjk] at hrole
      · exact absurd ((hg.mem j).mpr ⟨q, hq, .inr ((hg.records j q hq).1.mp (by simp [hrole]))⟩) hj
  have hsum : ∀ (t : State) (f : StemRecord → SourceSummary),
      t.Reworked (t.modifyMembers fun r => { r with lengthSummary := f r }) := fun t f =>
    .modifyMembers fun _ => .of_fields rfl rfl rfl rfl rfl rfl rfl rfl rfl
  have hw : s.startMembers.Reworked s.startGroup :=
    (((State.Reworked.of_stb (State.datum_frame _).1).trans (hsum _ _))).congr (State.requestPass_frame _).2.1
  exact ⟨hw.groupLaw hstarted.1, hstarted.2.of_heads hw.heads hw.group⟩

/-! ### The SAW_END of a cut (R16 to R18) -/

/-- A record of the same head that is as lawful, where it is neither being felled nor HELD. -/
structure StemRecord.CutTo (r r' : StemRecord) : Prop where
  head : r.SameHead r'
  law : r.state ≠ .felling → r.state ≠ .held → r.Law → r'.Law

theorem StemRecord.CutTo.refl (r : StemRecord) : r.CutTo r := ⟨⟨rfl, rfl, rfl⟩, fun _ _ h => h⟩

theorem StemRecord.CutTo.trans {a b c : StemRecord} (h : a.CutTo b) (h' : b.CutTo c) : a.CutTo c :=
  ⟨h.head.trans h'.head, fun h1 h2 hl => h'.law (h.head.state ▸ h1) (h.head.state ▸ h2) (h.law h1 h2 hl)⟩

theorem StemRecord.Reworks.cutTo {r r' : StemRecord} (h : r.Reworks r') : r.CutTo r' := ⟨h.head, fun _ _ => h.law⟩

/-- A plan cut down by a cut. -/
theorem StemRecord.Reworks.advancePlan (r : StemRecord) (cut : PlanPiece) (x : Int) : r.Reworks (r.advancePlan cut x) := by
  have hplan : r.Reworks (r.setPlan ((r.plan.drop 1).filter fun p => decide (x < p.cutPosition))) :=
    ⟨rfl, rfl, rfl, fun ⟨h1, h2, h3, _, h5⟩ => ⟨h1, h2, fun hn => ⟨by simp [(h3 hn).1], (h3 hn).2⟩, rfl, h5⟩⟩
  unfold StemRecord.advancePlan
  dsimp only
  split
  · exact hplan.trans (.of_fields rfl rfl rfl rfl rfl rfl rfl rfl rfl)
  · exact hplan

theorem StemRecord.Reworks.dropPlan (r : StemRecord) : r.Reworks r.dropPlan :=
  ⟨rfl, rfl, rfl, fun ⟨h1, h2, _, _, h5⟩ => ⟨h1, h2, fun _ => ⟨rfl, rfl⟩, rfl, h5⟩⟩

theorem State.related_recordPieces (s : State) (f : StemRecord → Piece) : s.Related StemRecord.CutTo (s.recordPieces f) :=
  .modifyActive .refl .trans fun _ => ⟨⟨rfl, rfl, rfl⟩, fun h1 h2 ⟨l1, l2, l3, l4, _⟩ =>
    ⟨l1, l2, l3, l4, fun h => h.elim (fun h => absurd h h1) fun h => absurd h h2⟩⟩

theorem State.related_recordCuts (s : State) :
    s.Related StemRecord.CutTo s.recordPlannedCut ∧ s.Related StemRecord.CutTo s.recordOffPlanCut := by
  have hlead : ∀ (u : State) (f : StemRecord → StemRecord), (∀ r : StemRecord, r.Reworks (f r)) →
      u.Related StemRecord.CutTo (u.modifyLead f) := fun u f hf => .modifyLead .refl fun _ r _ => (hf r).cutTo
  have hstb : ∀ {u v : State}, v.stb = u.stb → u.Related StemRecord.CutTo v := fun h => .of_stb .refl h
  constructor
  · unfold State.recordPlannedCut
    split
    · exact hstb rfl
    · split
      · exact hstb rfl
      · next cut _ _ =>
        have h := (State.related_recordPieces s (s.plannedPiece cut)).trans .trans
          (hlead _ (StemRecord.advancePlan cut s.lnu.length) fun r => .advancePlan r _ _)
        exact h.trans .trans (hstb (by simp))
  · have h := (State.related_recordPieces s s.offPlanPiece).trans .trans
      (hlead _ StemRecord.dropPlan .dropPlan)
    exact h.trans .trans (hstb (by simp [State.recordOffPlanCut]))

/-- A cut keeps a group at work at work. -/
theorem State.Working.cut (hg : s.GroupLaw) (hw : s.Working) (h : s.Related StemRecord.CutTo t)
    (hgroup : t.stb.group = s.stb.group) : t.GroupLaw ∧ t.Working := by
  have hh : s.Related StemRecord.SameHead t := h.mono fun h => h.head
  refine ⟨hg.of_heads hh hgroup fun i r' hr' => ?_, hw.of_heads hh hgroup⟩
  obtain ⟨r, hr, hc⟩ := h.some_right hr'
  refine hc.law (hw.noFelling i r hr) (fun hheld => ?_) (hg.records i r hr)
  have := hw.all i ((hg.mem i).mpr ⟨r, hr, .inl hheld⟩) r hr
  simp [hheld] at this

end Special

end Sys2Proof.Machine

/-! PROOF. The law of the feed group through the parts of a step, with the sequencer's law. -/

namespace Sys2Proof.Machine

open Sys2Proof

/-- The law of records and list, and the shape of the group in the sequencer's state. -/
structure State.Stems (s : State) : Prop where
  law : s.GroupLaw
  phase : s.InPhase s.fcs.state

namespace State.Stems

variable {s t u : State} {b : Bool}

/-! ### Operations in any state -/

theorem reworked (hs : s.Stems) (h : s.Reworked t) (hf : t.fcs.state = s.fcs.state) : t.Stems :=
  ⟨h.groupLaw hs.law, hf ▸ h.inPhase hs.phase⟩

/-- Where the Stem Table and the sequencer's state stay. -/
theorem congr (hs : s.Stems) (h : t.stb = s.stb) (hf : t.fcs.state = s.fcs.state) : t.Stems := hs.reworked (.of_stb h) hf

/-- The shape that an entered state asks for. -/
theorem entered {st : SeqState} (hl : s.GroupLaw) (hp : s.InPhase st) : (s.enter st).Stems := by
  have hstb : (s.enter st).stb = s.stb := by simp
  have hst : (s.enter st).fcs.state = st := by simp [State.enter, State.notifyState]
  refine ⟨(State.Reworked.of_stb hstb).groupLaw hl, ?_⟩
  rw [hst]
  exact (State.Reworked.of_stb hstb).inPhase hp

/-- Moves from a state at work stay at work. -/
theorem drives (hs : s.Stems) (h : s.Drives t) (hl : Sequencer.Law b s.fcs) (hp : s.fcs.state.isProcessing = true) :
    t.Stems := by
  obtain rfl := hl.deasserted hp
  have hw := State.Reworked.of_drives h
  refine ⟨hw.groupLaw hs.law, ?_⟩
  rw [State.inPhase_processing (h.law ⟨hl, hp⟩).2]
  exact hw.inPhase (st := .waiting) ((State.inPhase_processing hp).mp hs.phase)

/-- A group at work whose sequencer moves on from a processing state just taken. -/
theorem drives_moved {st : SeqState} {why : Option PauseReason} (hg : s.GroupLaw) (hw : s.Working)
    (h : (s.moveTo st why).Drives t) (hr : s.fcs.reversals ≤ 2) (hst : st.isProcessing = true) (hp : st = .paused → why.isSome)
    (hc : st = .cutting ∨ st = .sawReturn → s.fcs.cutKind.isSome) : t.Stems := by
  have hne : (st == .halted) = false := by cases st <;> simp_all [SeqState.isProcessing]
  have hm := Sequencer.Law.moveTo (s := s) hr hp hc
  have hstb : (s.moveTo st why).stb = s.stb := by simp
  have hmoved : (s.moveTo st why).Stems := ⟨(State.Reworked.of_stb hstb).groupLaw hg,
    (State.inPhase_processing hst).mpr ((State.Reworked.of_stb hstb).inPhase (st := .waiting) hw)⟩
  exact hmoved.drives h (hne ▸ hm) hst

/-- What the sequencer does in a processing state and not at all in another. -/
theorem drives_or_stays (hs : s.Stems) (hl : Sequencer.Law b s.fcs) (h : s.Drives t)
    (hn : s.fcs.state.isProcessing = false → t = s) : t.Stems := by
  cases hp : s.fcs.state.isProcessing with
  | true => exact hs.drives h hl hp
  | false => rwa [hn hp]

theorem working (hs : s.Stems) (hp : s.fcs.state.isProcessing = true) : s.Working :=
  (State.inPhase_processing hp).mp hs.phase

/-- Of a PROCESSING group the sequencer works it or is HALTED. -/
theorem working_of_groupState (hs : s.Stems) (h : s.groupState = .processing) : s.Working := by
  have hheld : s.groupAll .held → s.Working := fun ha => absurd h (State.groupState_ne_of_held ha)
  have hp := hs.phase
  cases hst : s.fcs.state <;> rw [hst] at hp
  case idle => exact hheld hp.1.all
  case felling => exact hheld hp.all
  case holding => exact hheld hp.1.all
  case halted => exact hp.elim (fun h => hheld h.all) id
  all_goals exact hp

/-! ### Felling (R143, R144, R161) -/

theorem leaveFelling (hg : s.GroupLaw) (hr : s.Resting) : s.leaveFelling.Stems := by
  unfold State.leaveFelling
  split
  · exact entered hg (st := .idle) ⟨hr, List.isEmpty_iff.mp ‹_›⟩
  · exact entered hg (st := .holding) ⟨hr, fun h => by simp_all⟩

theorem felling (hs : s.Stems) (hst : s.fcs.state = .felling) : s.Felling := by
  have := hs.phase
  rwa [hst] at this

theorem stopFelling (hs : s.Stems) (hst : s.fcs.state = .felling) : s.stopFelling.Stems :=
  let ⟨hg, hr⟩ := State.Felling.abandoned hs.law (hs.felling hst)
  leaveFelling hg hr

theorem sawExpires (hs : s.Stems) (hl : Sequencer.Law b s.fcs) (ht : s.fcs.sawTimer.isSome) : s.sawExpires.Stems := by
  obtain hst | hst := hl.saw ht
  · obtain ⟨hg, hr⟩ := State.Felling.abandoned hs.law (hs.felling hst)
    have hw : s.abandonFelling.Reworked (s.abandonFelling.notifySawFault .fellTimeout s.fellingHandle none) :=
      .of_stb (by simp)
    unfold State.sawExpires
    simp only [hst]
    exact leaveFelling (hw.groupLaw hg) (hr.of_heads hw.heads hw.group)
  · exact hs.drives (.sawExpires s (by simp [hst])) hl (by rw [hst]; rfl)

theorem completeFelling (hs : s.Stems) (hst : s.fcs.state = .felling) : s.completeFelling.Stems := by
  obtain ⟨k, -, hk, -⟩ := (hs.felling hst).one.slot
  obtain ⟨hg, hr, hne⟩ := State.Felling.pushed hs.law (hs.felling hst) hk
  unfold State.completeFelling
  simp only [hk]
  exact entered hg (st := .holding) ⟨hr, hne⟩

theorem haltAsserts (hs : s.Stems) : s.haltAsserts.Stems := by
  have hhalt : ∀ u : State, u.GroupLaw → u.InPhase .halted →
      (State.enter { u with fcs.stopped := false } .halted).Stems := fun u hg hp =>
    have hw : u.Reworked { u with fcs.stopped := false } := .of_stb rfl
    entered (hw.groupLaw hg) (hw.inPhase hp)
  unfold State.haltAsserts
  dsimp only
  split
  · next hst =>
    obtain ⟨hg, hr⟩ := State.Felling.abandoned hs.law (hs.felling hst)
    exact hhalt _ hg (.inl hr)
  · refine hhalt _ hs.law ?_
    have hp := hs.phase
    cases hst : s.fcs.state <;> rw [hst] at hp
    case idle => exact .inl hp.1
    case holding => exact .inl hp.1
    case felling => exact absurd hst ‹_›
    case halted => exact hp
    all_goals exact .inr hp

/-! ### The halt line's release (R162) -/

theorem haltReleases (hs : s.Stems) (hl : Sequencer.Law true s.fcs) : s.haltReleases.Stems := by
  have hp : s.Resting ∨ s.Working := by
    have := hs.phase
    rwa [hl.halted.mpr rfl] at this
  unfold State.haltReleases
  split
  · next hst =>
    exact drives_moved hs.law (hs.working_of_groupState hst) (.enterStop_moved s _ _) hl.reversals rfl (fun _ => rfl) nofun
  · next hst =>
    obtain hr | hw := hp
    · refine entered hs.law (st := .holding) ⟨hr, fun he => ?_⟩
      simp [State.groupState, State.members, he] at hst
    · simp [hs.law.groupState_processing hw.nonempty hw.all] at hst
  · next hst =>
    have he : s.stb.group = [] := by
      by_contra hne
      have := hs.law.members_ne hne
      unfold State.groupState at hst
      split at hst
      · contradiction
      · split at hst <;> cases hst
    obtain hr | hw := hp
    · exact entered hs.law (st := .idle) ⟨hr, he⟩
    · exact absurd he hw.nonempty

/-! ### Group ends and releases (R30, R31, R37, R40) -/

/-- IDLE is entered with the group at rest and empty. -/
theorem enterIdle (hg : s.GroupLaw) (hr : s.Resting ∧ s.stb.group = []) : s.enterIdle.Stems :=
  entered (s := s.clearCutItems) ((State.Reworked.of_stb (by simp)).groupLaw hg)
    ((State.Reworked.of_stb (by simp)).inPhase (st := .idle) hr)

theorem releaseState_ends (r : StemRecord) : r.releaseState.ends = true := by
  unfold StemRecord.releaseState
  split <;> rfl

theorem release (hs : s.Stems) (hf : s.NoFelling) : s.release.Stems := by
  have hc := hs.law.closeAll s.stb.group releaseState_ends .released
  have hrest := hc.resting_of_all hf fun _ h => h
  have hstb : ∀ u : State, u.stb = s.releaseGroup.stb → u.enterIdle.Stems := fun u hu =>
    have hw : s.releaseGroup.Reworked u := .of_stb hu
    enterIdle (hw.groupLaw hc.law) (hw.inPhase (st := .idle) hrest)
  unfold State.release
  dsimp only
  split <;> exact hstb _ (by simp)

theorem dropTop (hs : s.Stems) (hst : s.fcs.state = .holding) : s.dropTop.Stems := by
  have hp : s.Resting ∧ s.stb.group ≠ [] := by
    have := hs.phase
    rwa [hst] at this
  have hleave : ∀ u : State, u.fcs = s.fcs → u.GroupLaw → u.Resting →
      (if u.stb.group.isEmpty then u.enter .idle else u).Stems := by
    intro u hu hg hr
    split
    · exact entered hg (st := .idle) ⟨hr, List.isEmpty_iff.mp ‹_›⟩
    · exact ⟨hg, by rw [hu, hst]; exact ⟨hr, fun h => by simp_all⟩⟩
  unfold State.dropTop
  dsimp only
  split
  · next k _ =>
    have hc := hs.law.closeRecord k (st := .abandoned) rfl .dropped
    exact hleave _ (by simp) hc.law (hc.resting hp.1)
  · exact hleave _ rfl hs.law hp.1

/-- The end of a group whose records have all been closed. -/
theorem groupEnd {l : List Nat} (hs : s.Stems) (hw : s.Working) (hc : State.Closes l s t) (hl : ∀ i ∈ s.stb.group, i ∈ l)
    (hf : t.fcs = s.fcs) : t.groupEnd.Stems := by
  have hrest := hc.resting_of_all hw.noFelling hl
  have hr : t.Reworked (t.cancelFeed.voidPass) := .of_stb (by simp)
  have hlaw := hr.groupLaw hc.law
  have hphase := hr.inPhase (st := .idle) hrest
  have hfcs : (t.cancelFeed.voidPass).fcs = s.fcs := by simp [hf]
  unfold State.groupEnd State.sequencerGroupEnd
  split
  · exact enterIdle hlaw hphase
  · next hp =>
    refine ⟨hlaw, ?_⟩
    rw [hfcs] at hp ⊢
    have hne := hw.nonempty
    have hph := hs.phase
    cases hst : s.fcs.state <;> rw [hst] at hph hp
    case idle => exact absurd hph.2 hne
    case halted => exact .inl hphase.1
    case felling =>
      exact absurd (hs.law.groupState_processing hne hw.all) (State.groupState_ne_of_held hph.all)
    case holding =>
      exact absurd (hs.law.groupState_processing hne hw.all) (State.groupState_ne_of_held hph.1.all)
    all_goals exact absurd rfl hp

/-! ### A cut (R152) -/

theorem completeCut (hs : s.Stems) (hl : Sequencer.Law b s.fcs) (hst : s.fcs.state = .cutting) : s.completeCut.Stems := by
  have hp : s.fcs.state.isProcessing = true := by rw [hst]; rfl
  unfold State.completeCut
  extract_lets u v
  have hu : s.Related StemRecord.CutTo u ∧ u.stb.group = s.stb.group := by
    simp only [u]
    split
    · exact ⟨s.related_recordCuts.2, by simp⟩
    · exact ⟨s.related_recordCuts.1, by simp⟩
  obtain ⟨hg, hw⟩ := State.Working.cut hs.law (hs.working hp) hu.1 hu.2
  have hv : v.fcs = s.fcs := by
    simp only [v, u]
    split <;> simp
  have hr : u.Reworked { v with fcs.reversals := 0, fcs.overshoot := false } := .of_stb (by simp [v])
  have hz : Sequencer.Law b { v.fcs with reversals := 0, overshoot := false } :=
    (hv ▸ hl).calmer ⟨rfl, rfl, rfl, id, id, id, fun h => .inr (.inr (.inr h)), Nat.zero_le _⟩
  have hstems : State.Stems { v with fcs.reversals := 0, fcs.overshoot := false } := by
    refine ⟨hr.groupLaw hg, ?_⟩
    rw [State.inPhase_processing (by simp [hv, hst, SeqState.isProcessing])]
    exact hr.inPhase (st := .waiting) hw
  exact hstems.drives (.enterSawReturn _ (hz.cutKind.mpr (.inl (by simp [hv, hst])))) hz
    (by simp [hv, hst, SeqState.isProcessing])

/-! ### Pulses (R44, R49) -/

theorem sequencerUpdate (hs : s.Stems) (hl : Sequencer.Law b s.fcs) (forward : Bool) : (s.sequencerUpdate forward).Stems :=
  hs.drives_or_stays hl (.sequencerUpdate s forward) fun hp => State.sequencerUpdate_stays hp forward

theorem triggerCheck (hs : s.Stems) : s.triggerCheck.Stems := by
  unfold State.triggerCheck
  split
  · refine hs.reworked ?_ (by simp)
    unfold State.raiseFeed
    split
    · exact (State.Reworked.modifyActive fun r => .missed r).congr rfl
    · exact .of_stb (by simp)
  · exact hs

theorem lengthUpdate (hs : s.Stems) (hl : Sequencer.Law b s.fcs) (forward : Bool) : (s.lengthUpdate forward).Stems := by
  have h : ((s.modifyActive (StemRecord.reached s.lnu.length)).sequencerUpdate forward).Stems :=
    (hs.reworked (.modifyActive fun r => .reached r _) (by simp)).sequencerUpdate (by simpa using hl) forward
  unfold State.lengthUpdate
  dsimp only
  split
  · exact h.triggerCheck
  · exact h

theorem pulse (hs : s.Stems) (hl : Sequencer.Law b s.fcs) (e : Encoder) (d : Direction) : (s.pulse e d).Stems := by
  have hwindow : ∀ t : State, t.Stems → (t.accountWindow e d).Stems := by
    intro t ht
    unfold State.accountWindow
    split
    · exact ht
    · exact ht.congr (by simp) (by simp)
    · split
      · exact ht.reworked (.endWindow t) (by simp)
      · exact ht
  have ha : (s.addPulse e d).Stems := hs.congr (by simp) (by simp)
  unfold State.pulse State.updateLength
  refine hwindow _ ?_
  split
  · dsimp only
    split
    · exact ha.congr (by simp) (by simp)
    · exact (ha.congr (by simp) (by simp)).lengthUpdate (by simpa using hl) _
  · exact ha

/-! ### Measurements (R9, R10) -/

/-- The lead is no drop-out. -/
theorem lead_not_dropOut (s : State) {k : Nat} {r : StemRecord} (hr : s.record? k = some r) (hrole : r.role = some .lead) :
    k ∉ s.dropOuts := by
  intro hk
  obtain ⟨⟨j, q⟩, hm, rfl⟩ := List.mem_map.mp hk
  obtain ⟨hm, ht⟩ := List.mem_filter.mp hm
  obtain rfl := Option.some.inj ((State.mem_members.mp hm).2.symm.trans hr)
  simp [hrole] at ht

theorem deliver (hs : s.Stems) (q : RunningSequence) (m : MeasureReport) : (s.deliver q m).Stems := by
  unfold State.deliver State.deliverFeed
  split
  · next f _ =>
    split
    · exact hs
    · next hg =>
      split
      · exact hs.reworked (.modifyActive fun r => .missed r) (by simp)
      · have hw := hs.working_of_groupState (not_not.mp hg)
        have hr : s.Reworked (s.appendSamples f q.averaging m).watchMembers :=
          (State.Reworked.appendSamples s f q.averaging m).trans (.watchMembers _)
        set t := (s.appendSamples f q.averaging m).watchMembers with ht
        have hf : t.fcs = s.fcs := by simp [ht]
        have hts : t.Stems := hs.reworked hr (by rw [hf])
        have htw : t.Working := hw.of_heads hr.heads hr.group
        dsimp only
        split
        · exact hts.groupEnd htw (hts.law.closeAll t.stb.group (fun _ => rfl) .topped) (fun _ h => h) (by simp)
        · have hc := hts.law.closeAll t.dropOuts (st := fun _ => .closed) (fun _ => rfl) .fellOut
          have hcw := hc.working hts.law htw fun k r => lead_not_dropOut t
          have hstb := State.Reworked.of_stb (State.requestPass_frame (t.closeAll t.dropOuts (fun _ => .closed) .fellOut)).2.1
          refine ⟨hstb.groupLaw hc.law, ?_⟩
          have hfcs : (t.closeAll t.dropOuts (fun _ => .closed) .fellOut).requestPass.fcs = s.fcs := by simp [hf]
          have hph := hs.phase
          rw [hfcs]
          have hheld : s.groupAll .held → False := fun h =>
            State.groupState_ne_of_held h (hs.law.groupState_processing hw.nonempty hw.all)
          cases hst : s.fcs.state <;> rw [hst] at hph
          case idle => exact (hheld hph.1.all).elim
          case felling => exact (hheld hph.all).elim
          case holding => exact (hheld hph.1.all).elim
          case halted => exact .inr (hstb.inPhase (st := .waiting) hcw)
          all_goals exact hstb.inPhase (st := .waiting) hcw
  · exact hs.reworked (.deliverTrim s _ _ m) (by simp)
  · exact hs.congr (by simp) (by simp)

/-! ### Requests -/

/-- A change of a parameter, with the expiry it may bring. -/
theorem storeParameter (hs : s.Stems) (hl : Sequencer.Law b s.fcs) (n v : Nat) : (s.storeParameter n v).Stems := by
  have hp : State.Stems { s with params := s.params.set n v } := hs.congr rfl rfl
  have hlp : Sequencer.Law b ({ s with params := s.params.set n v } : State).fcs := hl
  unfold State.storeParameter
  split
  · exact hs
  · split
    · exact hs.congr (State.changeConstant_frame s _ v).2.1 (by simp)
    · exact hs.congr (State.changeConstant_frame s _ v).2.1 (by simp)
    · unfold State.timerAtChange
      split
      · split
        · next hd => exact hp.drives (.settleExpires _) hlp (by rw [hlp.settle (isSome_of_timerDue hd)]; rfl)
        · exact hp
      · split
        · next hd => exact hp.sawExpires hlp (isSome_of_timerDue hd)
        · exact hp
      · split
        · next hd => exact hp.drives (.homeExpires _) hlp (by rw [hlp.home (isSome_of_timerDue hd)]; rfl)
        · exact hp
      · split
        · next hd =>
          refine hp.drives (.stallExpires _) hlp ?_
          obtain h | h | h := hlp.stall (isSome_of_timerDue hd) <;> rw [h] <;> rfl
        · exact hp
      · exact hp

/-- After a reinitialisation no slot holds a record. -/
theorem of_cleared (h : u.stb = { s.stb with slots := Vector.replicate 8 none, group := [] })
    (hst : u.fcs.state = .idle ∨ u.fcs.state = .halted) : u.Stems := by
  have hnone : ∀ i, u.record? i = none := fun i => by
    by_cases hi : i < 8
    · simp [State.record?, h, hi]
    · exact State.record?_none (by omega)
  obtain ⟨hg, hr⟩ := State.groupLaw_of_empty hnone (by rw [h])
  refine ⟨hg, ?_⟩
  obtain hst | hst := hst
  · rw [hst]
    exact ⟨hr, by rw [h]⟩
  · rw [hst]
    exact .inl hr

theorem clearStems_stb (s : State) :
    s.clearStems.stb = { s.stb with slots := Vector.replicate 8 none, group := [] } := by
  unfold State.clearStems
  dsimp only
  split <;> simp

theorem resetSequencer_state (s : State) : s.resetSequencer.fcs.state = .idle ∨ s.resetSequencer.fcs.state = .halted := by
  unfold State.resetSequencer
  cases s.lines.halt.accepted with
  | true => exact .inr rfl
  | false => exact .inl rfl

end State.Stems

/-- A handled request keeps the law of the feed group. -/
theorem State.Handles.stemLaw {s t : State} (h : s.Handles t) (hl : Sequencer.Law s.lines.halt.accepted s.fcs)
    (hs : s.Stems) : t.Stems := by
  have hdrives : ∀ {u : State}, s.Drives u → s.fcs.state.isProcessing = true → u.Stems := fun hd hp => hs.drives hd hl hp
  have hrecord : ∀ {k : Nat} {r r' : StemRecord}, s.record? k = some r → r.Reworks r' → (s.setSlot k (some r')).Stems :=
    fun hr hw => hs.reworked (.setSlot hr hw) (by simp)
  cases h with
  | parameter n v => exact hs.storeParameter hl n v
  | record k r r' hr hw => exact hrecord hr hw
  | recordPass k r r' hr hw => exact (hrecord hr hw).congr (by simp) (by simp)
  | freeze k r r' hr hw => exact (hrecord hr hw).congr (by simp) (by simp)
  | retire k r hr hf =>
    obtain ⟨h1, h2⟩ := hs.law.retired hr hf hs.phase
    exact ⟨h1, by simpa using h2⟩
  | fell slot species hst hf hg ht =>
    have hr : s.Resting := by
      have hp := hs.phase
      obtain h | h := hst <;> rw [h] at hp <;> exact hp.1
    obtain ⟨h1, h2⟩ := hr.opened hs.law hf hg species
    have hstb : (s.openRecord slot species).Reworked ((s.openRecord slot species).raiseTrim ⟨slot, s.stb.nextHandle⟩) :=
      .of_stb (by simp)
    exact .entered (hstb.groupLaw h1) (hstb.inPhase (st := .felling) h2)
  | start hst =>
    have hp : s.Resting ∧ s.stb.group ≠ [] := by
      have := hs.phase
      rwa [hst] at this
    obtain ⟨h1, h2⟩ := hp.1.started hs.law hp.2
    refine .drives_moved h1 h2 (.enterWaiting_moved _) ?_ rfl nofun nofun
    simpa [State.startGroup] using hl.reversals
  | resume hst => exact hdrives (.enterFeeding s) (by rw [hst]; rfl)
  | await hst => exact hdrives (.enterWaiting s) (by rw [hst]; rfl)
  | stop hst => exact hdrives (.enterPaused s _) (by obtain h | h | h | h | h := hst <;> rw [h] <;> rfl)
  | stopCut hst => exact hdrives (.stopCut s (hl.cutKind.mpr (.inl hst))) (by rw [hst]; rfl)
  | stopFelling hst => exact hs.stopFelling hst
  | cut kind hst => exact hdrives (.startCut s kind) (by obtain h | h := hst <;> rw [h] <;> rfl)
  | drop hst => exact hs.dropTop hst
  | release hst =>
    refine hs.release ?_
    have hp := hs.phase
    obtain h | h | h | h := hst <;> rw [h] at hp
    · exact hp.1.noFelling
    all_goals exact hp.noFelling
  | stems =>
    refine State.Stems.of_cleared (s := s.abortMeasurements) ?_ (State.Stems.resetSequencer_state _)
    simp [State.reinitialiseStems, State.Stems.clearStems_stb]
  | all =>
    refine State.Stems.of_cleared (s := s.abortMeasurements) ?_ (State.Stems.resetSequencer_state _)
    simp [State.reinitialiseAll, State.Stems.clearStems_stb, State.clearConfiguration]
  | _ => exact hs.congr (by simp [State.raiseLock]) (by simp [State.raiseLock])

/-- The two laws pass through every part of a step together. -/
theorem stem_parts : StepParts (fun b s => Sequencer.Law b s.fcs ∧ s.Stems) fun b s => Sequencer.Law b s.fcs ∧ s.Stems where
  blocks h hb := ⟨sequencer_parts.blocks h.1 hb, h.2.congr hb.1 (by rw [hb.2.2.2.2.2.1])⟩
  blocks' h hb := ⟨sequencer_parts.blocks h.1 hb, h.2.congr hb.1 (by rw [hb.2.2.2.2.2.1])⟩
  weaken h := h
  powerOn node pins pending := by
    refine ⟨sequencer_parts.powerOn node pins pending, State.Stems.of_cleared (s := .powerOn node pins pending) rfl (.inl rfl)⟩
  request h hs := ⟨h.fcs_law hs.1, h.stemLaw hs.1 hs.2⟩
  pulse e d h := ⟨h.1.pulse e d, h.2.pulse h.1 e d⟩
  fault e h := ⟨sequencer_parts.fault e h.1, h.2.reworked (.countQuadratureFault _ e) (by simp)⟩
  contact level h := ⟨sequencer_parts.contact level h.1, h.2.reworked (.contactChanged _ level) (by simp)⟩
  sawEnd h := by
    refine ⟨sequencer_parts.sawEnd h.1, ?_⟩
    unfold State.sawEndAsserts
    split
    · exact h.2.completeCut h.1 ‹_›
    · exact h.2.completeFelling ‹_›
    · exact h.2.congr (by simp) (by simp)
    all_goals exact h.2
  sawHome {b s} h := by
    refine ⟨sequencer_parts.sawHome h.1, h.2.drives_or_stays h.1 (.sawHomeAsserts s) fun hp => ?_⟩
    unfold State.sawHomeAsserts
    split
    · next hst => simp [hst, SeqState.isProcessing] at hp
    all_goals rfl
  haltOn h := ⟨sequencer_parts.haltOn h.1, h.2.haltAsserts⟩
  haltOff h := ⟨sequencer_parts.haltOff h.1, h.2.haltReleases h.1⟩
  count h := ⟨sequencer_parts.count h.1, h.2.congr (by simp) (by simp [State.countTimers])⟩
  settle ht h := ⟨sequencer_parts.settle ht h.1, h.2.drives (.settleExpires _) h.1 (by rw [h.1.settle ht]; rfl)⟩
  saw ht h := ⟨sequencer_parts.saw ht h.1, h.2.sawExpires h.1 ht⟩
  home ht h := ⟨sequencer_parts.home ht h.1, h.2.drives (.homeExpires _) h.1 (by rw [h.1.home ht]; rfl)⟩
  stall ht h := by
    refine ⟨sequencer_parts.stall ht h.1, h.2.drives (.stallExpires _) h.1 ?_⟩
    obtain hst | hst | hst := h.1.stall ht <;> rw [hst] <;> rfl
  sequence {b s q} r hq h := by
    refine ⟨sequencer_parts.sequence r hq h.1, ?_⟩
    unfold State.finishSequence
    have hd := State.Stems.deliver (s := { s with dsq.running := none }) (h.2.congr rfl rfl) (q.readAll r)
      (s.measureReport (q.readAll r))
    exact hd.congr (State.arbitrate_frame _).2.1 (by simp)
  pass {b s p} hp h := by
    refine ⟨sequencer_parts.pass hp h.1, ?_⟩
    have hf := h.2.reworked (State.Reworked.finishPass s p) (by simp)
    have hl : Sequencer.Law b (s.finishPass p).fcs := by simpa using h.1
    exact hf.drives_or_stays hl (.completionReport _) State.completionReport_stays

/-- Settles O40: the two laws through the parts of a step. -/
theorem stemLawKept : Obligations.StemLawKept := fun s t h hstep => by
  have hp : Sequencer.Law s.lines.halt.accepted s.fcs ∧ s.Stems :=
    ⟨s.sequencerLaw_iff.mp h.1, (s.stemLaw_iff.mp h.2).1, (s.stemLaw_iff.mp h.2).2⟩
  obtain ⟨h1, h2, h3⟩ := stem_parts.step hp hstep
  exact ⟨t.sequencerLaw_iff.mpr h1, t.stemLaw_iff.mpr ⟨h2, h3⟩⟩

end Sys2Proof.Machine

/-! PROOF. The Head Bus Port's law (R180, R181, R183, R184): every operation of the other blocks tells notices at most, and
service and the transmitter's choice leave nothing waiting that could be taken. -/

namespace Sys2Proof.Machine

open Sys2Proof

/-- The bounds of queues and counts, and an answer sent only for a request in service. -/
structure HeadBus.Sound (h : HeadBus) : Prop where
  requests : h.requests.length ≤ 8
  notices : h.notices.length ≤ 16
  requestsLost : h.requestsLost ≤ 255
  noticesLost : h.noticesLost ≤ 255
  answer : ∀ t, h.transmitter = some t → t.kind = .answer → h.inService.isSome

/-- What operations that tell notices at most do with the port: the queue of notices grows, within its bound, and counts of
what is lost stay within theirs. -/
structure HeadBus.Tells (o h : HeadBus) : Prop where
  node : h.node = o.node
  partialRequest : h.partialRequest = o.partialRequest
  requests : h.requests = o.requests
  inService : h.inService = o.inService
  transmitter : h.transmitter = o.transmitter
  lastKind : h.lastKind = o.lastKind
  grows : ∃ l, h.notices = o.notices ++ l
  notices : h.notices.length ≤ max 16 o.notices.length
  requestsLost : h.requestsLost ≤ max 255 o.requestsLost
  noticesLost : h.noticesLost ≤ max 255 o.noticesLost

theorem HeadBus.Tells.refl (o : HeadBus) : o.Tells o :=
  ⟨rfl, rfl, rfl, rfl, rfl, rfl, ⟨[], by simp⟩, le_max_right _ _, le_max_right _ _, le_max_right _ _⟩

theorem HeadBus.Sound.tells {o h : HeadBus} (ho : o.Sound) (ht : o.Tells h) : h.Sound where
  requests := ht.requests ▸ ho.requests
  notices := ht.notices.trans (max_le le_rfl ho.notices)
  requestsLost := ht.requestsLost.trans (max_le le_rfl ho.requestsLost)
  noticesLost := ht.noticesLost.trans (max_le le_rfl ho.noticesLost)
  answer := by rw [ht.transmitter, ht.inService]; exact ho.answer

theorem State.busLaw_iff (s : State) : s.BusLaw ↔ s.hbp.Sound ∧ s.busSettled :=
  ⟨fun ⟨h1, h2, h3, h4, h5, h6⟩ => ⟨⟨h1, h2, h3, h4, h6⟩, h5⟩, fun ⟨⟨h1, h2, h3, h4, h6⟩, h5⟩ => ⟨h1, h2, h3, h4, h5, h6⟩⟩

theorem saturate_le (n : Nat) : saturate n ≤ 255 := by
  unfold saturate
  split <;> omega

section Tells

variable {o : HeadBus} {s : State}

/-! ### Operations that tell notices (R183) -/

theorem State.ite_tells {p : Prop} [Decidable p] {t u : State} (ht : o.Tells t.hbp) (hu : o.Tells u.hbp) :
    o.Tells (if p then t else u).hbp := by
  split
  · exact ht
  · exact hu

@[simp] theorem State.offerNotice_tells (h : o.Tells s.hbp) (n : Notice) : o.Tells (s.offerNotice n).hbp := by
  obtain ⟨hn, he⟩ | ⟨-, he⟩ := s.offerNotice_cases n
  · rw [he]
    obtain ⟨l, hl⟩ := h.grows
    exact { h with
      grows := ⟨l ++ [n], by simp [hl]⟩
      notices := le_max_of_le_left (by simpa using Nat.succ_le_of_lt hn) }
  · rw [he]
    exact { h with noticesLost := le_max_of_le_left (saturate_le _) }

/-- Notices told one after another. -/
theorem State.foldl_tells {α : Type} {f : State → α → State} (hf : ∀ t : State, o.Tells t.hbp → ∀ a, o.Tells (f t a).hbp)
    (l : List α) (h : o.Tells s.hbp) : o.Tells (l.foldl f s).hbp := by
  induction l generalizing s with
  | nil => exact h
  | cons a l ih => exact ih (hf s h a)

theorem State.Drives.tells {t : State} (hd : s.Drives t) (h : o.Tells s.hbp) : o.Tells t.hbp := by
  induction hd with
  | tell s n => exact State.offerNotice_tells h n
  | check s =>
    obtain ⟨-, he⟩ | ⟨k, r, res, -, -, ⟨-, he⟩ | ⟨-, he⟩⟩ := s.checkPending_cases
    · rwa [he]
    · rw [he]
      simpa using h
    · rw [he]
      exact State.offerNotice_tells (s := s.setSlot _ _) (by simpa using h) _
  | trans _ _ ih ih' => exact ih' (ih h)
  | _ => simpa using h

@[simp] theorem State.applySwap_tells (h : o.Tells s.hbp) (why : SwapOccasion) : o.Tells (s.applySwap why).hbp :=
  State.offerNotice_tells (s := { s with atb.active := s.atb.edit, atb.swapPending := false }) h _

@[simp] theorem State.safePoint_tells (h : o.Tells s.hbp) : o.Tells s.safePoint.hbp := by
  unfold State.safePoint
  split <;> simp [h]

@[simp] theorem State.closeRecord_tells (h : o.Tells s.hbp) (k : Nat) (st : StemState) (why : EndReason) :
    o.Tells (s.closeRecord k st why).hbp := by
  unfold State.closeRecord
  split
  · exact h
  · have ht : ∀ u : State, o.Tells u.hbp → o.Tells u.safePoint.hbp := fun u hu => State.safePoint_tells hu
    dsimp only
    split
    · exact ht _ (by simp [h])
    · simp [h]

@[simp] theorem State.closeAll_tells (h : o.Tells s.hbp) (l : List Nat) (st : StemRecord → StemState) (why : EndReason) :
    o.Tells (s.closeAll l st why).hbp :=
  State.foldl_tells (fun t ht k => by split <;> simp [ht]) l h

@[simp] theorem State.abandonFelling_tells (h : o.Tells s.hbp) : o.Tells s.abandonFelling.hbp := by
  unfold State.abandonFelling
  split <;> simp [h]

@[simp] theorem State.pushRecord_tells (h : o.Tells s.hbp) (k : Nat) : o.Tells (s.pushRecord k).hbp := by
  unfold State.pushRecord
  split
  · exact h
  · exact State.offerNotice_tells (by simpa using h) _

@[simp] theorem State.enter_tells (h : o.Tells s.hbp) (st : SeqState) : o.Tells (s.enter st).hbp :=
  State.offerNotice_tells (by simpa using h) _

@[simp] theorem State.enterIdle_tells (h : o.Tells s.hbp) : o.Tells s.enterIdle.hbp :=
  State.enter_tells (s := s.clearCutItems) (by simpa using h) _

@[simp] theorem State.leaveFelling_tells (h : o.Tells s.hbp) : o.Tells s.leaveFelling.hbp := State.enter_tells h _

@[simp] theorem State.groupEnd_tells (h : o.Tells s.hbp) : o.Tells s.groupEnd.hbp := by
  unfold State.groupEnd State.sequencerGroupEnd
  split <;> simp [h]

/-! ### The Length Unit's notices (R12, R13, R45, R50, R51) -/

@[simp] theorem State.setSource_tells (h : o.Tells s.hbp) (new : SourceState) (n : Nat) (c : SourceCause) :
    o.Tells (s.setSource new n c).hbp := by
  unfold State.setSource
  dsimp only
  split
  · exact h
  · refine State.offerNotice_tells ?_ _
    split <;> simpa using h

@[simp] theorem State.forceRoller_tells (h : o.Tells s.hbp) (c : SourceCause) : o.Tells (s.forceRoller c).hbp := by
  unfold State.forceRoller
  split <;> simp [h]

@[simp] theorem State.judgedMove_tells (h : o.Tells s.hbp) (d : Bool) : o.Tells (s.judgedMove d).hbp := by
  unfold State.judgedMove
  (repeat' split) <;> simp [h]

@[simp] theorem State.endWindow_tells (h : o.Tells s.hbp) : o.Tells s.endWindow.hbp := by
  unfold State.endWindow State.judgeWindow
  (repeat' split) <;> simp [h]

@[simp] theorem State.countQuadratureFault_tells (h : o.Tells s.hbp) (e : Encoder) :
    o.Tells (s.countQuadratureFault e).hbp := by
  unfold State.countQuadratureFault
  cases e
  · dsimp only
    split <;> simp [h, State.wheelBecomesFaulty]
  · dsimp only
    split <;> simp [h, State.rollerBecomesFaulty]

@[simp] theorem State.contactChanged_tells (h : o.Tells s.hbp) (level : Bool) : o.Tells (s.contactChanged level).hbp := by
  unfold State.contactChanged
  cases level <;> simp [h]

@[simp] theorem State.datum_tells (h : o.Tells s.hbp) : o.Tells s.datum.hbp := by
  unfold State.datum
  dsimp only
  split <;> simp [h]

@[simp] theorem State.pulse_tells (h : o.Tells s.hbp) (e : Encoder) (d : Direction) : o.Tells (s.pulse e d).hbp := by
  have hupdate : ∀ (t : State) (forward : Bool), o.Tells t.hbp → o.Tells (t.lengthUpdate forward).hbp := by
    intro t forward ht
    have := (State.Drives.sequencerUpdate (t.modifyActive (StemRecord.reached t.lnu.length)) forward).tells (by simpa using ht)
    unfold State.lengthUpdate State.triggerCheck
    dsimp only
    split
    · split
      · simpa using this
      · exact this
    · exact this
  have hlength : ∀ t : State, o.Tells t.hbp → o.Tells t.updateLength.hbp := by
    intro t ht
    unfold State.updateLength
    dsimp only
    split
    · simpa using ht
    · exact hupdate _ _ (by simpa using ht)
  have hwindow : ∀ t : State, o.Tells t.hbp → o.Tells (t.accountWindow e d).hbp := by
    intro t ht
    unfold State.accountWindow
    (repeat' split) <;> simp [ht]
  unfold State.pulse
  refine hwindow _ ?_
  split
  · exact hlength _ (by simpa using h)
  · simpa using h

/-! ### Measurements and cuts (R10, R17, R68) -/

@[simp] theorem State.watchMembers_tells (h : o.Tells s.hbp) : o.Tells s.watchMembers.hbp := by
  refine State.foldl_tells (fun t ht k => ?_) _ h
  unfold State.watchSlot
  (repeat' split) <;> simp [ht]

@[simp] theorem State.deliver_tells (h : o.Tells s.hbp) (q : RunningSequence) (m : MeasureReport) :
    o.Tells (s.deliver q m).hbp := by
  unfold State.deliver State.deliverFeed
  split
  · next f _ =>
    have hw : o.Tells (s.appendSamples f q.averaging m).watchMembers.hbp := by simp [h]
    refine State.ite_tells h (State.ite_tells (by simpa using h) (State.ite_tells ?_ ?_))
    · exact State.groupEnd_tells (State.closeAll_tells hw _ _ _)
    · simpa using State.closeAll_tells hw _ _ _
  · simpa using h
  · simp [h]

@[simp] theorem State.completeCut_tells (h : o.Tells s.hbp) : o.Tells s.completeCut.hbp := by
  have hpieces : ∀ t : State, o.Tells t.hbp → o.Tells t.notifyPieces.hbp := fun t ht =>
    State.foldl_tells (fun u hu n => State.offerNotice_tells hu n) _ ht
  have hoff : o.Tells s.recordOffPlanCut.hbp := hpieces _ (by simpa using h)
  have hplanned : o.Tells s.recordPlannedCut.hbp := by
    unfold State.recordPlannedCut
    split
    · exact h
    · split
      · exact h
      · exact hpieces _ (by simpa using h)
  unfold State.completeCut
  refine (State.Drives.sawReturn_entered _).tells (State.enter_tells ?_ _)
  dsimp only
  split
  · simpa using hoff
  · simpa using hplanned

@[simp] theorem State.finishPass_tells (h : o.Tells s.hbp) (p : Pass) : o.Tells (s.finishPass p).hbp := by
  have hact : ∀ (held : Option Override) (res : PassResult) (out : PassOutcome), o.Tells (s.actOn held res out).hbp := by
    intro held res out
    unfold State.actOn State.install
    cases out <;> dsimp only <;> (try split) <;> simp [h]
  unfold State.finishPass
  simpa using hact _ _ _

@[simp] theorem State.abortMeasurements_tells (h : o.Tells s.hbp) : o.Tells s.abortMeasurements.hbp := by
  unfold State.abortMeasurements
  dsimp only
  split <;> simp [h]

@[simp] theorem State.clearStems_tells (h : o.Tells s.hbp) : o.Tells s.clearStems.hbp := by
  unfold State.clearStems
  dsimp only
  split
  · exact h
  · exact State.safePoint_tells h

/-! ### The sequencer (R144, R161, R162) -/

@[simp] theorem State.sawExpires_tells (h : o.Tells s.hbp) : o.Tells s.sawExpires.hbp := by
  by_cases hst : s.fcs.state = .felling
  · have : o.Tells (s.abandonFelling.notifySawFault .fellTimeout s.fellingHandle none).leaveFelling.hbp :=
      State.leaveFelling_tells (State.offerNotice_tells (State.abandonFelling_tells h) _)
    simpa [State.sawExpires, hst] using this
  · exact (State.Drives.sawExpires s hst).tells h

@[simp] theorem State.haltAsserts_tells (h : o.Tells s.hbp) : o.Tells s.haltAsserts.hbp := by
  unfold State.haltAsserts
  dsimp only
  split <;> simp [h]

@[simp] theorem State.haltReleases_tells (h : o.Tells s.hbp) : o.Tells s.haltReleases.hbp := by
  unfold State.haltReleases
  split
  · exact (State.Drives.enterPaused s _).tells h
  all_goals simp [h]

@[simp] theorem State.sawEndAsserts_tells (h : o.Tells s.hbp) : o.Tells s.sawEndAsserts.hbp := by
  unfold State.sawEndAsserts State.completeFelling
  (repeat' split) <;> simp [h]

@[simp] theorem State.sawHomeAsserts_tells (h : o.Tells s.hbp) : o.Tells s.sawHomeAsserts.hbp :=
  (State.Drives.sawHomeAsserts s).tells h

@[simp] theorem State.settleExpires_tells (h : o.Tells s.hbp) : o.Tells s.settleExpires.hbp := (State.Drives.settleExpires s).tells h
@[simp] theorem State.homeExpires_tells (h : o.Tells s.hbp) : o.Tells s.homeExpires.hbp := (State.Drives.homeExpires s).tells h
@[simp] theorem State.stallExpires_tells (h : o.Tells s.hbp) : o.Tells s.stallExpires.hbp := (State.Drives.stallExpires s).tells h

end Tells

/-! ### Requests (R181) -/

/-- A handled request tells notices at most; READ_STATUS clears the counts. -/
theorem State.Handles.tells {o : HeadBus} {s t : State} (hd : s.Handles t) (h : o.Tells s.hbp) : o.Tells t.hbp := by
  cases hd with
  | parameter n v =>
    unfold State.storeParameter State.timerAtChange
    (repeat' split) <;> simp [h]
  | fell slot species => exact State.enter_tells (by simpa using h) _
  | start =>
    have : o.Tells s.startGroup.hbp := by
      simpa [State.startGroup] using State.datum_tells (s := s.startMembers) (by simpa using h)
    exact (State.Drives.enterWaiting _).tells this
  | resume => exact (State.Drives.enterFeeding s).tells h
  | await => exact (State.Drives.enterWaiting s).tells h
  | stop => exact (State.Drives.enterPaused s _).tells h
  | stopCut =>
    exact (State.Drives.sawReturn_entered { s with fcs.stopped := true }).tells
      (State.enter_tells (s := { s with fcs.stopped := true }) h _)
  | stopFelling => exact State.leaveFelling_tells (State.abandonFelling_tells h)
  | cut kind => exact (State.Drives.startCut s kind).tells h
  | drop =>
    unfold State.dropTop
    dsimp only
    split
    · exact State.ite_tells (by simp [h]) (by simp [h])
    · exact State.ite_tells (by simp [h]) h
  | release =>
    unfold State.release State.releaseGroup
    dsimp only
    split <;> simp [h]
  | status => exact { h with requestsLost := Nat.zero_le _, noticesLost := Nat.zero_le _ }
  | stems => simpa [State.reinitialiseStems] using State.clearStems_tells (State.abortMeasurements_tells h)
  | all =>
    have hc : o.Tells s.abortMeasurements.clearConfiguration.hbp := by
      simpa [State.clearConfiguration] using State.abortMeasurements_tells h
    simpa [State.reinitialiseAll] using State.clearStems_tells hc
  | swap => exact State.applySwap_tells h _
  | _ => simpa [State.raiseLock] using h

/-! ### Service and the transmitter (R181, R184) -/

section Bus

variable {s : State}

/-- A handled entry tells notices at most. -/
theorem handleEntry_tells (s : State) (e : QueueEntry) : s.hbp.Tells (handleEntry e s).1.hbp := by
  unfold handleEntry
  split
  · exact .refl _
  · split
    · exact .refl _
    · exact .refl _
    · exact (handleRequest_handles s _ _).tells (.refl _)

/-- After service no request waits behind a free port. -/
theorem State.serve_sound (h : s.hbp.Sound) :
    s.serve.hbp.Sound ∧ (s.serve.hbp.inService = none → s.serve.hbp.requests = []) := by
  unfold State.serve
  split
  · next e rest hi hr =>
    have hrest : rest.length ≤ 8 := by
      have := h.requests
      rw [hr] at this
      exact Nat.le_of_succ_le this
    have hr : HeadBus.Sound { s.hbp with requests := rest } := { h with requests := hrest }
    have := hr.tells (handleEntry_tells { s with hbp.requests := rest } e)
    exact ⟨{ this with answer := fun _ _ _ => rfl }, nofun⟩
  · next hi => exact ⟨h, fun hn => by simp [hi] at hn⟩
  · next hr => exact ⟨h, fun _ => hr⟩

/-- The transmitter's choice leaves nothing that it could take. -/
theorem State.transmit_busLaw (h : s.hbp.Sound) (hw : s.hbp.inService = none → s.hbp.requests = []) :
    s.transmit.BusLaw := by
  rw [State.busLaw_iff]
  obtain ⟨ht, he⟩ | ⟨ht, ⟨r, hr, -, he⟩ | ⟨n, rest, hn, -, he⟩ | ⟨hi, hn, he⟩⟩ := s.transmit_cases
  · rw [he]
    exact ⟨h, hw, fun hn => by simp [hn] at ht⟩
  · rw [he]
    exact ⟨{ h with answer := fun _ _ _ => by simp [State.sendAnswer, hr] }, hw, nofun⟩
  · rw [he]
    have hrest : rest.length ≤ 16 := by
      have := h.notices
      rw [hn] at this
      exact Nat.le_of_succ_le this
    refine ⟨{ h with notices := hrest, answer := fun t ht hk => ?_ }, hw, nofun⟩
    cases ht
    cases hk
  · rw [he]
    exact ⟨h, hw, fun _ => ⟨hi, hn⟩⟩

/-- Service and the transmitter's choice restore the law from its bounds. -/
theorem State.goOn_busLaw (h : s.hbp.Sound) : s.goOn.BusLaw :=
  let ⟨hs, hw⟩ := State.serve_sound h
  State.transmit_busLaw hs hw

/-- An offered entry keeps the bounds. -/
theorem State.offerRequest_sound (h : s.hbp.Sound) (e : QueueEntry) : (s.offerRequest e).hbp.Sound := by
  obtain ⟨hr, he⟩ | ⟨-, he⟩ := s.offerRequest_cases e
  · rw [he]
    exact { h with requests := by simpa using Nat.succ_le_of_lt hr }
  · rw [he]
    have hl : HeadBus.Sound { s.hbp with requestsLost := saturate s.hbp.requestsLost } :=
      { h with requestsLost := saturate_le _ }
    exact hl.tells (State.offerNotice_tells (s := { s with hbp.requestsLost := saturate s.hbp.requestsLost }) (.refl _) _)

theorem State.discardPartial_sound (h : s.hbp.Sound) : s.discardPartial.hbp.Sound := by
  unfold State.discardPartial
  split
  · exact State.offerRequest_sound (s := { s with hbp.partialRequest := none }) { h with } _
  · exact h

theorem State.joinFirst_sound (h : s.hbp.Sound) (f : Frame) : (s.joinFirst f).hbp.Sound := by
  have hd := State.discardPartial_sound h
  unfold State.joinFirst
  dsimp only
  split
  · exact State.offerRequest_sound hd _
  · exact State.offerRequest_sound hd _
  · exact { hd with }

theorem State.joinContinuation_sound (h : s.hbp.Sound) (f : Frame) : (s.joinContinuation f).hbp.Sound := by
  unfold State.joinContinuation
  split
  · exact h
  · split
    · split
      · exact State.offerRequest_sound (s := { s with hbp.partialRequest := none }) { h with } _
      · exact { h with }
    · exact State.discardPartial_sound h

theorem State.completeFrame_sound (h : s.hbp.Sound) : s.completeFrame.hbp.Sound := by
  unfold State.completeFrame
  split
  · exact h
  · next t ht =>
    split
    · refine { h with answer := fun u hu hk => ?_ }
      cases hu
      exact h.answer t ht hk
    · split
      · exact { h with answer := nofun }
      · exact { h with answer := nofun }

/-! ### The idle millisecond (log 3) -/

theorem State.expireTimer_tells (s : State) : s.hbp.Tells s.expireTimer.hbp := by
  unfold State.expireTimer
  (repeat' split) <;> simp [HeadBus.Tells.refl]

theorem State.expireGap_sound (h : s.hbp.Sound) : s.expireGap.hbp.Sound := by
  unfold State.expireGap
  split
  · split
    · exact State.discardPartial_sound h
    · exact h
  · exact h

theorem State.sampleEncodersTimes_tells {o : HeadBus} (k : Nat) (h : o.Tells s.hbp) :
    o.Tells (State.sampleEncodersTimes k s).hbp := by
  have hstep : ∀ (t : State) (e : Encoder) (q : QuadratureStep), o.Tells t.hbp → o.Tells (t.takeStep e q).hbp := by
    intro t e q ht
    cases q <;> simp [State.takeStep, ht]
  induction k generalizing s with
  | zero => exact h
  | succ k ih => exact ih (hstep _ _ _ (hstep _ _ _ h))

theorem State.sampleSwitches_tells {o : HeadBus} (h : o.Tells s.hbp) : o.Tells s.sampleSwitches.hbp := by
  unfold State.sampleSwitches
  extract_lets n l s1 m s2 s3 s4
  have h1 : o.Tells s1.hbp := h
  have h2 : o.Tells s2.hbp := State.ite_tells h1 (State.contactChanged_tells h1 _)
  have h3 : o.Tells s3.hbp := State.ite_tells (State.sawHomeAsserts_tells h2) h2
  have h4 : o.Tells s4.hbp := State.ite_tells (State.sawEndAsserts_tells h3) h3
  exact State.ite_tells h4 (State.ite_tells (State.haltAsserts_tells h4) (State.haltReleases_tells h4))

theorem State.idle_busLaw (h : s.hbp.Sound) : s.idle.BusLaw := by
  have hc : s.countTimers.hbp.Sound := { h with }
  have he := State.expireGap_sound (hc.tells (State.expireTimer_tells _))
  exact State.goOn_busLaw (he.tells (State.sampleSwitches_tells (State.sampleEncodersTimes_tells 8 (.refl _))))

/-! ### A step -/

theorem State.powerOn_busLaw (node : BitVec 3) (pins : PinLevels) (pending : List Instr) :
    (State.powerOn node pins pending).BusLaw :=
  (State.busLaw_iff _).mpr
    ⟨⟨Nat.zero_le _, Nat.zero_le _, Nat.zero_le _, Nat.zero_le _, nofun⟩, fun _ => rfl, fun _ => ⟨rfl, rfl⟩⟩

/-- Every command leaves the law. -/
theorem State.Runs.busLaw {t : State} (hr : s.Runs t) (hs : s.BusLaw) : t.BusLaw := by
  obtain ⟨h, hw, hx⟩ := s.busLaw_iff.mp hs
  cases hr with
  | unchanged => exact hs
  | powerOn node pins => exact State.powerOn_busLaw node pins _
  | offer e => exact State.goOn_busLaw (State.offerRequest_sound h e)
  | joinFirst f => exact State.goOn_busLaw (State.joinFirst_sound h f)
  | joinContinuation f => exact State.goOn_busLaw (State.joinContinuation_sound h f)
  | gap => exact State.goOn_busLaw (State.discardPartial_sound h)
  | frameSent => exact State.goOn_busLaw (State.completeFrame_sound h)
  | pulse e d =>
    have hl : (s.stepEncoder e d).hbp = s.hbp := by cases e <;> rfl
    exact State.transmit_busLaw (h.tells (State.pulse_tells (by rw [hl]; exact .refl _) e d)) (by simpa [hl] using hw)
  | fault e =>
    have hl : (s.flipEncoder e).hbp = s.hbp := by cases e <;> rfl
    exact State.transmit_busLaw (h.tells (State.countQuadratureFault_tells (by rw [hl]; exact .refl _) e))
      (by simpa [hl] using hw)
  | sawLine => exact hs
  | sequence q r =>
    have ht : s.hbp.Tells (s.finishSequence q r).hbp := by
      simpa [State.finishSequence] using State.deliver_tells (s := { s with dsq.running := none }) (.refl s.hbp)
        (q.readAll r) (s.measureReport (q.readAll r))
    exact State.transmit_busLaw (h.tells ht) (by simpa using hw)
  | pass p =>
    have ht : s.hbp.Tells (s.finishPass p).completionReport.hbp :=
      (State.Drives.completionReport _).tells (State.finishPass_tells (.refl _) p)
    exact State.transmit_busLaw (h.tells ht) (by simpa using hw)
  | _ => exact State.transmit_busLaw (h.tells (by simp [HeadBus.Tells.refl])) (by simpa using hw)

/-- Settles O9: the bounds through every operation, and the rest restored by service and the transmitter. -/
theorem busLawKept : Obligations.BusLawKept := fun s t hs hstep => by
  unfold Machine.step at hstep
  split at hstep
  · obtain rfl := Host.Outcome.next.inj hstep
    exact State.idle_busLaw (s.busLaw_iff.mp hs).1
  · next c rest _ =>
    obtain ⟨u, hu, hr⟩ := exec_runs c { s with pending := rest }
    obtain rfl := Host.Outcome.next.inj (hu.symm.trans hstep)
    exact hr.busLaw hs

end Bus

end Sys2Proof.Machine

/-! PROOF. The wire of the requests and of what the SH20 sends (R176 to R178, R181, R187), and the requests at the Head Bus
Port by its state (R180, R181, R183). -/

namespace Sys2Proof.Machine

open Sys2Proof

/-- Settles O1: the step looks at the front of the queue. -/
theorem stepRunsFrontCommand : Obligations.StepRunsFrontCommand := fun s c rest h => by
  unfold Machine.step
  rw [h]

/-- Settles O60: each law holds after power-on. -/
theorem lawsHoldAtReset : Obligations.LawsHoldAtReset :=
  have hstem := stem_parts.powerOn 0 PinLevels.quiet []
  ⟨State.powerOn_busLaw _ _ _, calibration_parts.powerOn _ _ _, lock_parts.powerOn _ _ _, handle_parts.powerOn _ _ _,
    (State.stemLaw_iff _).mpr ⟨hstem.2.law, hstem.2.phase⟩, (State.requesterLaw_iff _).mpr (requester_parts.powerOn _ _ _),
    (State.lengthLaw_iff _).mpr (length_parts.powerOn _ _ _), (State.sequencerLaw_iff _).mpr hstem.1⟩

/-! ### Requests read back (R181, R187) -/

theorem halfBytes_halfAt (p : List Byte) (i : Nat) : halfBytes (halfAt p i) = [byteAt p i, byteAt p (i + 1)] := by
  have h1 : (halfAt p i).extractLsb' 0 8 = byteAt p i := BitVec.extractLsb'_append_eq_right
  have h2 : (halfAt p i).extractLsb' 8 8 = byteAt p (i + 1) := BitVec.extractLsb'_append_eq_left
  rw [halfBytes, h1, h2]

/-- A row of u16 items read from a payload is laid as the bytes it was read from. -/
theorem flatMap_halfBytes_halfAt (p : List Byte) (k n : Nat) :
    (Vector.ofFn fun i : Fin n => halfAt p (k + 2 * i.val)).toList.flatMap halfBytes =
      (List.range n).flatMap fun i => [byteAt p (k + 2 * i), byteAt p (k + 2 * i + 1)] := by
  have h : (Vector.ofFn fun i : Fin n => halfAt p (k + 2 * i.val)).toList =
      (List.range n).map fun i => halfAt p (k + 2 * i) := List.ext_getElem (by simp) fun i _ _ => by simp
  rw [h, List.flatMap_map]
  exact List.flatMap_congr fun i _ => halfBytes_halfAt p _

theorem map_byteAt_range (p : List Byte) : (List.range p.length).map (byteAt p) = p :=
  List.ext_getElem (by simp) fun i _ h => by simp [byteAt, h]

/-- Every request's items are read back from where its payload lays them. -/
theorem requestItems_payload (r : Request) : requestItems r.code r.payload = some r := by
  have hjoin (v : Half) : v.extractLsb' 8 8 ++ v.extractLsb' 0 8 = v := BitVec.extractLsb'_append_extractLsb'
  cases r with
  | writeAssortment n e => exact congrArg (fun x => some (Request.writeAssortment n x)) (entryImageAt_bytes n e)
  | _ => simp [requestItems, Request.code, Request.payload, halfAt, byteAt, halfBytes, hjoin]

/-- The items read from a payload lay the bytes they were read from. -/
theorem payload_of_requestItems {code : Byte} {p : List Byte} {r : Request} (h : requestItems code p = some r) :
    r.code = code ∧ r.payload = (List.range ((catalogueLength code).getD 0)).map (byteAt p) := by
  unfold requestItems at h
  split at h
  all_goals cases h
  all_goals
    rename_i hc
    refine ⟨BitVec.eq_of_toNat_eq (by rw [hc]; rfl), ?_⟩
    simp [Request.payload, catalogueLength, hc, List.range_succ, halfBytes_halfAt, EntryImage.bytes, entryImageAt,
      flatMap_halfBytes_halfAt]

theorem decodeRequest_payload (r : Request) : decodeRequest r.code r.payload = .request r :=
  decodeRequest_of_items (requestItems_payload r)

/-- Settles O10: each request by its items, and the bytes of a payload by the places they are read from. -/
theorem requestCodesAgree : Obligations.RequestCodesAgree := by
  refine ⟨decodeRequest_payload, fun code payload r h => ?_⟩
  unfold decodeRequest at h
  split at h
  · cases h
  · next n hn =>
    split at h
    · next hlen =>
      split at h
      · next hi =>
        obtain rfl := DecodedRequest.request.inj h
        obtain ⟨hcode, hpay⟩ := payload_of_requestItems hi
        exact ⟨hcode, by rw [hpay, hn, Option.getD_some, ← hlen, map_byteAt_range]⟩
      · cases h
    · cases h

/-! ### The fields of an identifier (R176, R177) -/

theorem ident_fields (p : BitVec 3) (c : BitVec 2) (code : Byte) (z : BitVec 5) (node : BitVec 3) (tag : Byte) :
    (p ++ c ++ code ++ z ++ node ++ tag).extractLsb' 26 3 = p ∧ (p ++ c ++ code ++ z ++ node ++ tag).extractLsb' 24 2 = c ∧
    (p ++ c ++ code ++ z ++ node ++ tag).extractLsb' 16 8 = code ∧ (p ++ c ++ code ++ z ++ node ++ tag).extractLsb' 11 5 = z ∧
    (p ++ c ++ code ++ z ++ node ++ tag).extractLsb' 8 3 = node ∧ (p ++ c ++ code ++ z ++ node ++ tag).extractLsb' 0 8 = tag := by
  have up {v w : Nat} (a : BitVec v) (b : BitVec w) (start len : Nat) (h : w ≤ start) :
      (a ++ b).extractLsb' start len = a.extractLsb' (start - w) len := BitVec.extractLsb'_append_eq_of_le h
  have low {v w : Nat} (a : BitVec v) (b : BitVec w) : (a ++ b).extractLsb' 0 w = b := BitVec.extractLsb'_append_eq_right
  have high {v w : Nat} (a : BitVec v) (b : BitVec w) : (a ++ b).extractLsb' w v = a := BitVec.extractLsb'_append_eq_left
  refine ⟨?_, ?_, ?_, ?_, ?_, low _ _⟩
  · rw [up _ _ _ _ (by omega), up _ _ _ _ (by omega), up _ _ _ _ (by omega), up _ _ _ _ (by omega)]
    exact high _ _
  · rw [up _ _ _ _ (by omega), up _ _ _ _ (by omega), up _ _ _ _ (by omega), up _ _ _ _ (by omega)]
    exact low _ _
  · rw [up _ _ _ _ (by omega), up _ _ _ _ (by omega), up _ _ _ _ (by omega)]
    exact low _ _
  · rw [up _ _ _ _ (by omega), up _ _ _ _ (by omega)]
    exact low _ _
  · rw [up _ _ _ _ (by omega)]
    exact low _ _

/-! ### The data of the frames (R178) -/

theorem frameData_zero (p : List Byte) : frameData p 0 = BitVec.ofNat 8 p.length :: p.take 7 := rfl

theorem frameData_succ (p : List Byte) (k : Nat) : frameData p (k + 1) = BitVec.ofNat 8 (k + 1) ::
    ((p.drop (7 * (k + 1))).take 7 ++ List.replicate (7 - (p.drop (7 * (k + 1))).length) 0) := rfl

/-- The bytes of the first frames of a payload of seven bytes or more, joined. -/
theorem joined_frames {p : List Byte} (hp : 7 ≤ p.length) (c : Nat) :
    p.take 7 ++ (List.range c).flatMap (fun k => (frameData p (k + 1)).drop 1) =
      p.take (7 * (c + 1)) ++ List.replicate (7 * (c + 1) - p.length) 0 := by
  induction c with
  | zero => simp [hp]
  | succ c ih =>
    have hchunk : (frameData p (c + 1)).drop 1 =
        (p.drop (7 * (c + 1))).take 7 ++ List.replicate (7 - (p.drop (7 * (c + 1))).length) 0 := rfl
    rw [List.range_succ, List.flatMap_append, ← List.append_assoc, ih, List.flatMap_singleton, hchunk]
    have htake : p.take (7 * (c + 1 + 1)) = p.take (7 * (c + 1)) ++ (p.drop (7 * (c + 1))).take 7 := by
      rw [Nat.mul_succ 7 (c + 1), List.take_add]
    rw [htake]
    by_cases hlen : 7 * (c + 1) ≤ p.length
    · have h0 : 7 * (c + 1) - p.length = 0 := by omega
      have h1 : 7 - (p.drop (7 * (c + 1))).length = 7 * (c + 1 + 1) - p.length := by simp; omega
      rw [h0, h1]
      simp
    · have hdrop : p.drop (7 * (c + 1)) = [] := List.drop_eq_nil_of_le (by omega)
      rw [hdrop]
      simp only [List.take_nil, List.nil_append, List.length_nil, List.append_nil, List.append_assoc,
        List.replicate_append_replicate]
      congr 2
      omega

theorem continuations_eq (n : Nat) : continuations n = if n < 8 then 0 else (n - 1) / 7 := by
  unfold continuations divUp
  split <;> omega

/-- The frames of a longer payload hold it whole. -/
theorem le_of_continuations {n : Nat} (h : 8 ≤ n) : n ≤ 7 * (continuations n + 1) := by
  rw [continuations_eq]
  split <;> omega

theorem length_frameData_succ (p : List Byte) (k : Nat) : (frameData p (k + 1)).length = 8 := by
  simp [frameData_succ]
  omega

/-- Settles O11: the identifier by its fields, the data by the joined frames. -/
theorem sentFramesCarryMessage : Obligations.SentFramesCarryMessage := by
  refine ⟨fun t node => ?_, fun payload _ => ⟨rfl, fun h => ?_, fun h => ?_, fun j h1 _ => ?_, fun h => ?_⟩⟩
  · obtain ⟨h1, h2, h3, h4, h5, h6⟩ := ident_fields
      (match t.kind with | .answer => 3 | .notice => 4)
      (if 0 < t.index then 3 else match t.kind with | .answer => 1 | .notice => 2) t.code 0 node t.tag
    refine ⟨h1.trans ?_, h2.trans ?_, h3, h4, h5, h6⟩ <;> cases t.kind <;> rfl
  · rw [frameData_zero, List.take_of_length_le h]
  · simp [frameData_zero]
    omega
  · obtain ⟨k, rfl⟩ : ∃ k, j = k + 1 := ⟨j - 1, by omega⟩
    exact ⟨length_frameData_succ payload k, rfl⟩
  · rw [frameData_zero, List.drop_one, List.tail_cons, joined_frames (by omega),
      List.take_of_length_le (le_of_continuations h), Nat.mul_succ]

end Sys2Proof.Machine

/-! PROOF. Power-on (R175), and the Head Bus Port's frames and service (R177 to R181, R183, R184). -/

namespace Sys2Proof.Machine

open Sys2Proof

/-! ### Commands at an idle port (R181) -/

section Idle

variable {s : State}

/-- A request of the catalogue at an idle port is handled and answered at once. -/
theorem exec_idle {i : Instr} {tag : Byte} {r : Request} (h : i.request? = some (tag, r)) (hb : s.busIdle) :
    exec i s = .next ((handleRequest tag r s).1.answered r.code tag (handleRequest tag r s).2) := by
  rw [exec_request h, State.submit_idle hb tag r (decodeRequest_payload r)]

/-- Where its owner refuses it, it changes nothing else. -/
theorem exec_idle_of {i : Instr} {tag : Byte} {r : Request} {t : State} {a : Answer} (h : i.request? = some (tag, r))
    (hb : s.busIdle) (ha : handleRequest tag r s = (t, a)) : exec i s = .next (t.answered r.code tag a) := by
  rw [exec_idle h hb, ha]

end Idle

/-! ### Power-on (R175) -/

/-- Settles O3: the blocks at power-on, and FELL's check of the configured state. -/
theorem powerOnState : Obligations.PowerOnState := by
  intro s node pins
  have hnone : ∀ i, (State.powerOn node pins s.pending).record? i = none := by
    intro i
    by_cases hi : i < 8
    · simp [State.record?, State.powerOn, StemTable.powerOn, hi]
    · exact State.record?_none (by omega)
  have hparams : ∀ (n : Nat) (info : ParameterInfo), parameterInfo n = some info →
      Parameters.default.get n = info.default := by
    intro n info h
    unfold parameterInfo at h
    split at h <;> cases h <;> rfl
  have hfell : ∀ species : Nat, species ≤ 15 → answerFell species (State.powerOn node pins s.pending) =
      (State.powerOn node pins s.pending, .only .notConfigured) := by
    intro species h
    have hst : (State.powerOn node pins s.pending).fcs.state = .idle := rfl
    have hc : (State.powerOn node pins s.pending).configured = false := rfl
    simp [answerFell, hst, hc, show ¬15 < species by omega]
  refine ⟨State.powerOn node pins s.pending, rfl, rfl, rfl, hnone, rfl, rfl, ⟨rfl, rfl, rfl, rfl, rfl⟩, ⟨rfl, rfl, rfl, rfl⟩,
    ⟨rfl, rfl, rfl, rfl⟩, ⟨rfl, rfl, rfl⟩, ⟨rfl, rfl, rfl, rfl⟩, ⟨rfl, rfl, rfl, rfl⟩, ⟨rfl, rfl, rfl, rfl⟩, fun c i => ?_,
    fun i => ?_, rfl, rfl, fun i => ?_, rfl, rfl, hparams, fun tag species h => ?_⟩
  · cases c <;> simp [State.powerOn, DiameterSequencer.powerOn, DiameterSequencer.table]
  · simp [State.powerOn, AssortmentTable.powerOn]
  · simp [State.powerOn, AssortmentTable.powerOn, TaperEntry.default]
  · exact exec_idle_of (r := .fell species) rfl ⟨rfl, rfl⟩ (hfell _ h)

/-! ### The queue (R180, R183) -/

theorem saturate_eq (n : Nat) : saturate n = min 255 (n + 1) := by
  unfold saturate
  split <;> omega

/-- An offered entry leaves service and the transmitter as they are. -/
theorem State.offerRequest_kept (s : State) (e : QueueEntry) :
    (s.offerRequest e).hbp.inService = s.hbp.inService ∧ (s.offerRequest e).hbp.transmitter = s.hbp.transmitter ∧
      (s.offerRequest e).hbp.lastKind = s.hbp.lastKind := by
  obtain ⟨-, he⟩ | ⟨-, he⟩ := s.offerRequest_cases e
  · simp [he]
  · simp [he]

/-- Settles O5: an offered entry while service and the transmitter are busy. -/
theorem requestWaitsOrIsLost : Obligations.RequestWaitsOrIsLost := by
  intro s i e he hi ht
  obtain ⟨h1, h2, -⟩ := s.offerRequest_kept e
  have hgo : (s.offerRequest e).goOn = s.offerRequest e := by
    rw [State.goOn, State.serve_busy (by rwa [h1]), State.transmit_busy (by rwa [h2])]
  have hexec : exec i s = .next (s.offerRequest e).goOn := exec_offer he s
  rw [hexec, hgo]
  refine ⟨fun h => ?_, fun h hn => ?_, fun h hn => ?_⟩
  · simp [State.offerRequest, h]
  · simp [State.offerRequest, State.offerNotice, Nat.not_lt.mpr h, hn, saturate_eq]
  · simp [State.offerRequest, State.offerNotice, Nat.not_lt.mpr h, Nat.not_lt.mpr hn, saturate_eq]

/-! ### Frames received (R176, R177) -/

theorem State.accepts_iff (s : State) (f : Frame) : s.accepts f = true ↔
    f.extended = true ∧ f.remote = false ∧ f.ident.extractLsb' 11 5 = 0 ∧ f.ident.extractLsb' 8 3 = s.hbp.node := by
  simp [State.accepts, and_assoc]

theorem exec_firstFrame {s : State} {f : Frame} (h : s.accepts f = true) (hc : f.ident.extractLsb' 24 2 = 0) :
    exec (.firstFrame f) s = .next (s.joinFirst f).goOn := by
  show execFirstFrame f s = _
  simp [execFirstFrame, h, hc]

theorem exec_continuationFrame {s : State} {f : Frame} (h : s.accepts f = true) (hc : f.ident.extractLsb' 24 2 = 3) :
    exec (.continuationFrame f) s = .next (s.joinContinuation f).goOn := by
  show execContinuationFrame f s = _
  simp [execContinuationFrame, h, hc]

/-- A frame of a request for this part is received, with its class, code and tag. -/
theorem requestFrame_received (s : State) (priority : BitVec 3) (code tag : Byte) (payload : List Byte) (j : Nat) :
    let f := requestFrame priority s.hbp.node code tag payload j
    s.accepts f = true ∧ f.ident.extractLsb' 24 2 = (if j = 0 then 0 else 3) ∧ frameCode f = code ∧ frameTag f = tag := by
  obtain ⟨-, h2, h3, h4, h5, h6⟩ := ident_fields priority (if j = 0 then 0 else 3) code 0 s.hbp.node tag
  exact ⟨(State.accepts_iff _ _).mpr ⟨rfl, rfl, h4, h5⟩, h2, h3, h6⟩

/-- The first frame of a request says its length and up to seven bytes. -/
theorem firstData_frameData {payload : List Byte} (h : payload.length ≤ 255) : firstData (frameData payload 0) =
    if payload.length < 8 then .whole payload else .start payload.length (payload.take 7) := by
  have hl : (BitVec.ofNat 8 payload.length).toNat = payload.length := by simp; omega
  rw [frameData_zero]
  unfold firstData
  simp only [hl]
  split
  · next h8 => rw [List.take_of_length_le (by omega), if_pos rfl]
  · next h8 => rw [if_pos (by simp; omega)]

/-- A request of up to seven bytes is its first frame. -/
theorem exec_firstFrame_short {s : State} (priority : BitVec 3) (code tag : Byte) {payload : List Byte} (h7 : payload.length < 8)
    (hp : s.hbp.partialRequest = none) : exec (.firstFrame (requestFrame priority s.hbp.node code tag payload 0)) s =
      .next (s.offer (.request code tag payload)) := by
  obtain ⟨hacc, hcls, hcode, htag⟩ := requestFrame_received s priority code tag payload 0
  have hjoin : s.joinFirst (requestFrame priority s.hbp.node code tag payload 0) =
      s.offerRequest (.request code tag payload) := by
    have hdata := firstData_frameData (payload := payload) (by omega)
    rw [if_pos h7] at hdata
    have hpart : s.discardPartial = s := by simp [State.discardPartial, hp]
    unfold State.joinFirst
    rw [show (requestFrame priority s.hbp.node code tag payload 0).data = frameData payload 0 from rfl, hdata, hcode,
      htag, hpart]
  rw [exec_firstFrame hacc hcls, hjoin]
  rfl

/-- Settles O4: the port's checks in their order, then the owner. -/
theorem requestServedAtOnce : Obligations.RequestServedAtOnce := by
  refine ⟨fun s i tag r h hb => exec_idle h hb, fun s code tag payload hb => ⟨?_, fun hc => ?_, fun n priority hc hn h7 hp => ?_⟩⟩
  · exact congrArg Host.Outcome.next (State.offer_idle hb _)
  · have hd : handleEntry (.request code tag payload) s = (s, .only .unknownRequest) := by
      simp [handleEntry, decodeRequest, hc]
    rw [exec_offer (e := .request code tag payload) rfl, State.offer_idle hb, hd]
    rfl
  · have hd : handleEntry (.request code tag payload) s = (s, .only .range) := by
      simp [handleEntry, decodeRequest, hc, hn]
    rw [exec_firstFrame_short priority code tag (by omega) hp, State.offer_idle hb, hd]
    rfl

/-! ### The frames of a request (R178, R179) -/

/-- The partial request after the frames 0..k of a payload. -/
def partialAfter (code tag : Byte) (payload : List Byte) (k : Nat) : PartialRequest :=
  ⟨code, tag, payload.length, payload.take 7 ++ (List.range k).flatMap fun i => (frameData payload (i + 1)).drop 1, k + 1, 0⟩

theorem execAll_append (l m : List Instr) (s : State) : execAll (l ++ m) s =
    match execAll l s with
    | .next t => execAll m t
    | .fault f => .fault f
    | .refused r => .refused r := by
  induction l generalizing s with
  | nil => rfl
  | cons c l ih =>
    simp only [List.cons_append, execAll]
    cases exec c s with
    | next t => exact ih t
    | fault f => rfl
    | refused r => rfl

section Join

variable {s : State} {priority : BitVec 3} {code tag : Byte} {payload : List Byte}

/-- The partial request expects the next frame. -/
theorem partialAfter_expects (k : Nat) (hk : k < 255) :
    (partialAfter code tag payload k).expects (requestFrame priority s.hbp.node code tag payload (k + 1)) = true := by
  obtain ⟨-, -, hcode, htag⟩ := requestFrame_received s priority code tag payload (k + 1)
  have hlen : (requestFrame priority s.hbp.node code tag payload (k + 1)).data.length = 8 := length_frameData_succ payload k
  have hhead : (requestFrame priority s.hbp.node code tag payload (k + 1)).data.head? = some (BitVec.ofNat 8 (k + 1)) := rfl
  simp only [PartialRequest.expects, hcode, htag, hlen, hhead, partialAfter]
  simp
  omega

/-- Nothing waits beside the partial request, which service and the transmitter do not look at. -/
theorem goOn_partial (hs : s.busSettled) (p : Option PartialRequest) :
    State.goOn { s with hbp.partialRequest := p } = { s with hbp.partialRequest := p } :=
  State.goOn_settled hs

/-- A frame of the request that is not its last extends the partial request. -/
theorem exec_next_continuation (hs : s.busSettled) {k : Nat} (hk : k + 1 < continuations payload.length) (h : k < 255) :
    exec (.continuationFrame (requestFrame priority s.hbp.node code tag payload (k + 1)))
        { s with hbp.partialRequest := some (partialAfter code tag payload k) } =
      .next { s with hbp.partialRequest := some (partialAfter code tag payload (k + 1)) } := by
  obtain ⟨hacc, hcls, -, -⟩ := requestFrame_received s priority code tag payload (k + 1)
  have hx := partialAfter_expects (s := s) (priority := priority) (code := code) (tag := tag) (payload := payload) k h
  have hext : (partialAfter code tag payload k).extend (requestFrame priority s.hbp.node code tag payload (k + 1)) =
      partialAfter code tag payload (k + 1) := by
    simp [PartialRequest.extend, partialAfter, requestFrame, List.range_succ]
  rw [exec_continuationFrame (s := { s with hbp.partialRequest := some (partialAfter code tag payload k) }) hacc hcls]
  unfold State.joinContinuation
  simp only [hx, if_true]
  rw [if_neg (by simp [partialAfter]; omega), hext, goOn_partial hs]

/-- The last frame completes the request. -/
theorem exec_last_continuation {k : Nat} (h8 : 8 ≤ payload.length) (hk : k + 1 = continuations payload.length)
    (h : k < 255) : exec (.continuationFrame (requestFrame priority s.hbp.node code tag payload (k + 1)))
        { s with hbp.partialRequest := some (partialAfter code tag payload k) } =
      .next (State.offer { s with hbp.partialRequest := none } (.request code tag payload)) := by
  obtain ⟨hacc, hcls, -, -⟩ := requestFrame_received s priority code tag payload (k + 1)
  have hx := partialAfter_expects (s := s) (priority := priority) (code := code) (tag := tag) (payload := payload) k h
  have hrec : ((partialAfter code tag payload k).extend (requestFrame priority s.hbp.node code tag payload (k + 1))).received =
      payload.take (7 * (k + 1 + 1)) ++ List.replicate (7 * (k + 1 + 1) - payload.length) 0 := by
    rw [← joined_frames (p := payload) (by omega) (k + 1)]
    simp [PartialRequest.extend, partialAfter, requestFrame, List.range_succ]
  have htake : ((partialAfter code tag payload k).extend
      (requestFrame priority s.hbp.node code tag payload (k + 1))).received.take payload.length = payload := by
    rw [hrec, hk, List.take_of_length_le (le_of_continuations h8)]
    simp
  rw [exec_continuationFrame (s := { s with hbp.partialRequest := some (partialAfter code tag payload k) }) hacc hcls]
  unfold State.joinContinuation
  simp only [hx, if_true]
  rw [if_pos (by simpa [partialAfter] using hk)]
  exact congrArg (fun x => Host.Outcome.next (State.offer { s with hbp.partialRequest := none } (.request code tag x))) htake

/-- The frames 1..k of a longer request, one after another. -/
theorem execAll_continuations (hs : s.busSettled) {k : Nat} (hk : k < continuations payload.length) (h : k ≤ 255) :
    execAll ((List.range k).map fun i => .continuationFrame (requestFrame priority s.hbp.node code tag payload (i + 1)))
        { s with hbp.partialRequest := some (partialAfter code tag payload 0) } =
      .next { s with hbp.partialRequest := some (partialAfter code tag payload k) } := by
  induction k with
  | zero => rfl
  | succ k ih =>
    rw [List.range_succ, List.map_append, execAll_append, ih (by omega) (by omega)]
    simp only [List.map_cons, List.map_nil, execAll]
    rw [exec_next_continuation hs hk (by omega)]

end Join

/-- Settles O6: the first frame, the frames that extend the partial request, and the last one. -/
theorem requestFramesArrive : Obligations.RequestFramesArrive := by
  intro s priority code tag payload hlen hp hs
  obtain ⟨hacc, hcls, hcode, htag⟩ := requestFrame_received s priority code tag payload 0
  have hpart : s.discardPartial = s := by simp [State.discardPartial, hp]
  have hdata := firstData_frameData hlen
  have hframe : (requestFrame priority s.hbp.node code tag payload 0).data = frameData payload 0 := rfl
  have hnone : ({ s with hbp.partialRequest := none } : State) = s := by
    obtain ⟨⟨_, _, _, _, _, _, _, _, _⟩, _⟩ := s
    simp only at hp
    rw [hp]
  by_cases h8 : payload.length < 8
  · have hc : continuations payload.length = 0 := by simp [continuations, h8]
    rw [if_pos h8] at hdata
    simp only [requestFrames, hc, List.range_zero, List.map_nil, execAll]
    rw [exec_firstFrame hacc hcls]
    simp only [State.joinFirst, hframe, hdata, hcode, htag, hpart]
    rfl
  · rw [if_neg h8] at hdata
    have hfirst : exec (.firstFrame (requestFrame priority s.hbp.node code tag payload 0)) s =
        .next { s with hbp.partialRequest := some (partialAfter code tag payload 0) } := by
      rw [exec_firstFrame hacc hcls]
      simp only [State.joinFirst, hframe, hdata, hcode, htag, hpart]
      rw [goOn_partial hs]
      simp [partialAfter]
    obtain ⟨k, hk⟩ : ∃ k, continuations payload.length = k + 1 :=
      ⟨continuations payload.length - 1, by rw [continuations_eq, if_neg h8]; omega⟩
    have hk255 : k < 255 := by
      rw [continuations_eq, if_neg h8] at hk
      omega
    rw [requestFrames, execAll, hfirst, hk, List.range_succ, List.map_append]
    simp only
    rw [execAll_append, execAll_continuations hs (by omega) (by omega)]
    simp only [List.map_cons, List.map_nil, execAll]
    rw [exec_last_continuation (by omega) hk.symm hk255, hnone]

end Sys2Proof.Machine

/-! PROOF. Frames that join or discard (R177, R179), and the sent frame (R181, R184). -/

namespace Sys2Proof.Machine

open Sys2Proof

/-! ### Joining and discarding (R179) -/

/-- A discarded partial request: none is left, and its error entry is offered. -/
theorem State.discardPartial_eq (s : State) : s.discardPartial =
    ((s.hbp.partialRequest.map fun p => QueueEntry.error p.code p.tag).toList).foldl State.offerRequest
      { s with hbp.partialRequest := none } := by
  unfold State.discardPartial
  cases hp : s.hbp.partialRequest with
  | some p => rfl
  | none =>
    obtain ⟨⟨_, _, _, _, _, _, _, _, _⟩, _⟩ := s
    simp only at hp
    rw [hp]
    rfl

section Join

variable {s : State} {f : Frame}

/-! A class 0 frame by what its data says. -/

theorem State.joinFirst_malformed (h : firstData f.data = .malformed) :
    s.joinFirst f = s.discardPartial.offerRequest (.error (frameCode f) (frameTag f)) := by
  simp [State.joinFirst, h]

theorem State.joinFirst_whole {payload : List Byte} (h : firstData f.data = .whole payload) :
    s.joinFirst f = s.discardPartial.offerRequest (.request (frameCode f) (frameTag f) payload) := by
  simp [State.joinFirst, h]

theorem State.joinFirst_start {size : Nat} {bytes : List Byte} (h : firstData f.data = .start size bytes) :
    s.joinFirst f = { s.discardPartial with
      hbp.partialRequest := some ⟨frameCode f, frameTag f, size, bytes, 1, 0⟩ } := by
  simp [State.joinFirst, h]

theorem firstData_whole {l : Byte} {bytes : List Byte} (h : l.toNat < 8) (hb : bytes.length = l.toNat) :
    firstData (l :: bytes) = .whole bytes := by
  simp [firstData, h, hb]

theorem firstData_start {l : Byte} {bytes : List Byte} (h : 8 ≤ l.toNat) (hb : bytes.length = 7) :
    firstData (l :: bytes) = .start l.toNat bytes := by
  simp [firstData, Nat.not_lt.mpr h, hb]

theorem firstData_malformed {l : Byte} {bytes : List Byte} (hb : bytes.length ≠ if l.toNat < 8 then l.toNat else 7) :
    firstData (l :: bytes) = .malformed := by
  unfold firstData
  split at hb
  · next h => simp [h, hb]
  · next h => simp [h, hb]

/-- A frame that a partial request expects, by its fields. -/
theorem PartialRequest.expects_iff (p : PartialRequest) (f : Frame) : p.expects f = true ↔
    frameCode f = p.code ∧ frameTag f = p.tag ∧ f.data.length = 8 ∧ (byteAt f.data 0).toNat = p.nextNumber := by
  unfold PartialRequest.expects
  cases f.data with
  | nil => simp
  | cons b bytes => simp [byteAt, and_assoc]

theorem State.joinContinuation_some {p : PartialRequest} (hp : s.hbp.partialRequest = some p) : s.joinContinuation f =
    if p.expects f then
      if p.nextNumber = continuations p.size then
        State.offerRequest { s with hbp.partialRequest := none }
          (.request p.code p.tag ((p.extend f).received.take p.size))
      else { s with hbp.partialRequest := some (p.extend f) }
    else s.discardPartial := by
  simp [State.joinContinuation, hp]

end Join

/-- Settles O7: the received frame by its class, its data and the partial request. -/
theorem framesJoinOrDiscard : Obligations.FramesJoinOrDiscard := by
  intro s
  refine ⟨fun f hf => ?_, fun hs => ?_⟩
  · have hignored : ∀ c : BitVec 2, c = 0 ∨ c = 3 → ¬(s.accepts f && f.ident.extractLsb' 24 2 == c) = true := by
      intro c hc h
      rw [Bool.and_eq_true, State.accepts_iff, beq_iff_eq] at h
      obtain ⟨⟨h1, h2, h3, h4⟩, h5⟩ := h
      obtain h | h | h | h | ⟨h, h'⟩ := hf
      · simp [h] at h1
      · simp [h] at h2
      · exact h h3
      · exact h h4
      · exact hc.elim (fun hc => h (h5.trans hc)) fun hc => h' (h5.trans hc)
    exact ⟨if_neg (hignored 0 (.inl rfl)), if_neg (hignored 3 (.inr rfl))⟩
  intro rid offered discarded
  have hdiscard : s.discardPartial = offered discarded := s.discardPartial_eq
  have hnext : ∀ e, (offered discarded).offerRequest e = offered (discarded ++ [e]) := fun e => by simp [offered]
  refine ⟨?_, ?_⟩
  · intro f h1 h2 h4 h5 code tag
    have hacc : s.accepts f = true := (State.accepts_iff s f).mpr ⟨h1, h2, h4, h5⟩
    refine ⟨fun hc => ⟨fun hd => ?_, fun size bytes hd => ⟨fun h8 hb => ?_, fun h8 hb => ?_, fun hb => ?_⟩⟩,
      fun hc => ⟨fun hp => ?_, fun p hp => ⟨?_, fun hx => ?_⟩⟩⟩
    · rw [exec_firstFrame hacc hc, State.joinFirst_malformed (by rw [hd]; rfl), hdiscard, hnext]
      rfl
    · rw [exec_firstFrame hacc hc, State.joinFirst_whole (by rw [hd, firstData_whole h8 hb]), hdiscard, hnext]
      rfl
    · rw [exec_firstFrame hacc hc, State.joinFirst_start (by rw [hd, firstData_start h8 hb]), hdiscard]
      rfl
    · rw [exec_firstFrame hacc hc, State.joinFirst_malformed (by rw [hd, firstData_malformed hb]), hdiscard, hnext]
      rfl
    · rw [exec_continuationFrame hacc hc]
      simp only [State.joinContinuation, hp]
      rw [State.goOn_settled hs]
    · intro number bytes hd hb hcode htag hnum
      have hx : p.expects f = true := (p.expects_iff f).mpr ⟨hcode, htag, by simp [hd, hb], by rw [hd]; exact hnum⟩
      have hext : p.extend f = { p with received := p.received ++ bytes, nextNumber := p.nextNumber + 1, gap := 0 } := by
        simp [PartialRequest.extend, hd]
      refine ⟨fun hn => ?_, fun hn => ?_⟩
      · rw [exec_continuationFrame hacc hc, State.joinContinuation_some hp, if_pos hx, if_neg hn, hext]
        exact congrArg Host.Outcome.next (goOn_partial hs _)
      · rw [exec_continuationFrame hacc hc, State.joinContinuation_some hp, if_pos hx, if_pos hn, hext]
        rfl
    · have hx' : ¬p.expects f = true := fun h => hx ((p.expects_iff f).mp h)
      rw [exec_continuationFrame hacc hc, State.joinContinuation_some hp, if_neg hx', hdiscard]
  · have hexec : exec .gapTimerExpiry s = .next s.discardPartial.goOn := rfl
    rw [hexec]
    split
    · next hp =>
      have : s.discardPartial = s := by simp [State.discardPartial, hp]
      rw [this, State.goOn_settled hs]
    · rw [hdiscard]

/-! ### A sent frame (R181, R184) -/

section Sent

variable {s : State} {t : Transmission}

theorem exec_frameSent (s : State) : exec .frameSent s = .next s.completeFrame.goOn := rfl

theorem State.completeFrame_goesOn (ht : s.hbp.transmitter = some t) (h : t.index < continuations t.payload.length) :
    s.completeFrame = { s with hbp.transmitter := some { t with index := t.index + 1 } } := by
  simp [State.completeFrame, ht, h]

theorem State.completeFrame_notice (ht : s.hbp.transmitter = some t) (h : continuations t.payload.length ≤ t.index)
    (hk : t.kind = .notice) : s.completeFrame = { s with hbp.transmitter := none } := by
  simp [State.completeFrame, ht, Nat.not_lt.mpr h, hk]

theorem State.completeFrame_answer (ht : s.hbp.transmitter = some t) (h : continuations t.payload.length ≤ t.index)
    (hk : t.kind = .answer) : s.completeFrame = { s with hbp.transmitter := none, hbp.inService := none } := by
  simp [State.completeFrame, ht, Nat.not_lt.mpr h, hk]

/-- Where nothing waits that service could take, service and the transmitter are the transmitter's choice. -/
theorem State.goOn_transmit (h : s.hbp.inService = none → s.hbp.requests = []) : s.goOn = s.transmit := by
  have hserve : s.serve = s := by
    cases hi : s.hbp.inService with
    | some r => exact State.serve_busy (by simp [hi])
    | none => simp [State.serve, hi, h hi]
  rw [State.goOn, hserve]

end Sent

/-- Settles O8: the sent frame by its place in the message, and the transmitter's choice by what waits. -/
theorem frameSentGoesOn : Obligations.FrameSentGoesOn := by
  intro s t ht hs
  refine ⟨fun h => ?_, fun h hk hlast => ⟨fun r hr => ?_, fun n rest hi hn => ?_, fun hi hn => ?_⟩,
    fun h hk hlast => ⟨fun n rest hq hn => ?_, fun hq hn => ?_, fun e rest hq => ?_⟩⟩
  · have hset : State.busSettled { s with hbp.transmitter := some { t with index := t.index + 1 } } := ⟨hs.1, nofun⟩
    rw [exec_frameSent, State.completeFrame_goesOn ht h, State.goOn_settled hset]
  · rw [exec_frameSent, State.completeFrame_notice ht h hk,
      State.goOn_transmit (s := { s with hbp.transmitter := none }) hs.1]
    cases hn : s.hbp.notices <;> simp [State.transmit, hr, hn, hlast, State.sendAnswer, InService.message]
  · rw [exec_frameSent, State.completeFrame_notice ht h hk,
      State.goOn_transmit (s := { s with hbp.transmitter := none }) hs.1]
    simp [State.transmit, hi, hn, State.sendNotice, Notice.message, ← hlast]
  · rw [exec_frameSent, State.completeFrame_notice ht h hk,
      State.goOn_transmit (s := { s with hbp.transmitter := none }) hs.1]
    simp [State.transmit, hi, hn]
  · rw [exec_frameSent, State.completeFrame_answer ht h hk,
      State.goOn_transmit (s := { s with hbp.inService := none, hbp.transmitter := none }) fun _ => hq]
    simp [State.transmit, hn, State.sendNotice, Notice.message]
  · rw [exec_frameSent, State.completeFrame_answer ht h hk,
      State.goOn_transmit (s := { s with hbp.inService := none, hbp.transmitter := none }) fun _ => hq]
    simp [State.transmit, hn]
  · set u : State := { s with hbp.inService := none, hbp.transmitter := none, hbp.requests := rest } with hu
    have htells := handleEntry_tells u e
    refine ⟨(handleEntry e u).1.answered e.code e.tag (handleEntry e u).2, ?_, rfl, fun hn => ?_⟩
    · rw [exec_frameSent, State.completeFrame_answer ht h hk]
      simp only [State.goOn, State.serve, hq]
      rfl
    · obtain ⟨l, hl⟩ := htells.grows
      obtain ⟨n, rest', hn'⟩ : ∃ n rest', (handleEntry e u).1.hbp.notices = n :: rest' := by
        obtain ⟨n, ns, hns⟩ := List.exists_cons_of_ne_nil hn
        exact ⟨n, ns ++ l, by rw [hl]; simp [hu, hns]⟩
      have htx : (handleEntry e u).1.hbp.transmitter = none := htells.transmitter
      have hkind : (handleEntry e u).1.hbp.lastKind = .answer := htells.lastKind.trans hlast
      exact ⟨n.message, by simp [State.answered, State.transmit, htx, hn', hkind, State.sendNotice], rfl⟩

end Sys2Proof.Machine

/-! PROOF. The requests on settings: the bank swap (R87, R88), the lock size (R90, R91) and the reads (R86, R168, R171). -/

namespace Sys2Proof.Machine

open Sys2Proof

/-! ### Counting the entries of a bank (R88, R90) -/

theorem card_filter_univ {n : Nat} (p : Fin n → Prop) [DecidablePred p] :
    (Finset.univ.filter p).card = (List.finRange n).countP fun i => decide (p i) :=
  List.countP_eq_length_filter.symm

/-- The first places of a list of places are those of small number. -/
theorem take_finRange (m n : Nat) : (List.finRange m).take n = (List.finRange m).filter fun i => decide (i.val < n) := by
  conv_rhs => rw [← List.take_append_drop n (List.finRange m), List.filter_append]
  rw [List.filter_eq_self.mpr, List.filter_eq_nil_iff.mpr, List.append_nil]
  · intro i hi
    obtain ⟨j, hj, rfl⟩ := List.mem_drop_iff_getElem.mp hi
    simp
  · intro i hi
    obtain ⟨j, hj, rfl⟩ := List.mem_take_iff_getElem.mp hi
    simp only [List.getElem_finRange, decide_eq_true_eq, Fin.val_cast]
    omega

theorem Vector.toList_eq_map {α : Type} {n : Nat} (v : Vector α n) : v.toList = (List.finRange n).map fun i => v[i] := by
  refine List.ext_getElem (by simp) fun i h _ => by simp

/-- The places below a bound in which two banks differ. -/
theorem bankDifferences_eq (n : Nat) (a b : Bank) :
    bankDifferences n a b = (Finset.univ.filter fun i : Fin 32 => i.val < n ∧ a[i] ≠ b[i]).card := by
  rw [bankDifferences, Vector.toList_eq_map a, Vector.toList_eq_map b, ← List.map_take, ← List.map_take, List.zip_map',
    take_finRange, List.countP_map, List.countP_filter, card_filter_univ]
  refine List.countP_congr fun i _ => ?_
  simp [and_comm]

theorem Bank.defined_eq (b : Bank) : Bank.defined b = (Finset.univ.filter fun i : Fin 32 => b[i].isSome).card := by
  rw [Bank.defined, Vector.toList_eq_map b, List.countP_map, card_filter_univ]
  exact List.countP_congr fun i _ => by simp

/-! ### The bank swap -/

/-- Settles O20: the swap at once, or pending. -/
theorem swapBanks : Obligations.SwapBanks := by
  intro s tag hb
  have hdiff := bankDifferences_eq 32 s.atb.active s.atb.edit
  simp only [Fin.is_lt, true_and] at hdiff
  refine ⟨fun h => ?_, fun h => ⟨fun hn => ?_, fun hn => ?_⟩⟩
  · exact exec_idle_of (r := .swapBanks) rfl hb (if_neg (by omega))
  · refine exec_idle_of (r := .swapBanks) rfl hb ((if_pos h).trans ?_)
    simp [State.applySwap, State.offerNotice, hn, hdiff, Bank.defined_eq, Answer.only]
  · refine exec_idle_of (r := .swapBanks) rfl hb ((if_pos h).trans ?_)
    simp [State.applySwap, State.offerNotice, Nat.not_lt.mpr hn, saturate_eq, Answer.only]

/-! ### The lock size -/

section LockSize

variable {s : State} {n : Nat}

theorem answerSetLockSize_range (h : ¬(n = 0 ∨ n = 4 ∨ n = 8 ∨ n = 16)) : answerSetLockSize n s = (s, .only .range) := by
  rw [answerSetLockSize, if_pos (by simp; omega)]

theorem answerSetLockSize_allowed (h : n = 0 ∨ n = 4 ∨ n = 8 ∨ n = 16) : answerSetLockSize n s =
    if n < s.atb.lockSize then (s, .only .locked)
    else if n = s.atb.lockSize then (s, .okWith (u8 n ++ u8 0))
    else if s.atb.swapPending then (s, .only .swapPending)
    else (s.raiseLock n, .okWith (u8 n ++ u8 (bankDifferences n s.atb.active s.atb.edit))) := by
  rw [answerSetLockSize, if_neg (by rcases h with rfl | rfl | rfl | rfl <;> decide)]

end LockSize

theorem u8_toNat (b : Byte) : u8 b.toNat = [b] := by simp [u8]

/-- Settles O21: SET_LOCK_SIZE by its checks; a raise copies ACTIVE below the new size. -/
theorem lockSizeOnlyRises : Obligations.LockSizeOnlyRises := by
  intro s tag size hb n allowed run
  have run_of {t : State} {a : Answer} (h : answerSetLockSize n s = (t, a)) : run = .next (t.answered 20 tag a) :=
    exec_idle_of (r := .setLockSize size) rfl hb h
  refine ⟨fun h => run_of (answerSetLockSize_range h), fun h hl => run_of ?_, fun h hl => run_of ?_, fun h hl hp => run_of ?_,
    fun h hl hp => ⟨(s.raiseLock n).atb.edit, run_of ?_, fun i => ?_⟩⟩
  · rw [answerSetLockSize_allowed h, if_pos hl]
    rfl
  · rw [answerSetLockSize_allowed h, if_neg (by omega), if_pos hl, u8_toNat]
    rfl
  · rw [answerSetLockSize_allowed h, if_neg (by omega), if_neg (by omega), if_pos hp]
    rfl
  · rw [answerSetLockSize_allowed h, if_neg (by omega), if_neg (by omega), if_neg (by simp [hp]), bankDifferences_eq, u8_toNat]
    rfl
  · simp [State.raiseLock]

/-! ### Reads of settings -/

theorem Bank.entry?_fin (b : Bank) (i : Fin 32) : Bank.entry? b i = b[i] := by simp [Bank.entry?]

theorem parameterInfo_eq_none {n : Nat} (h : 22 < n) : parameterInfo n = none := by
  obtain ⟨k, rfl⟩ : ∃ k, n = k + 23 := ⟨n - 23, by omega⟩
  rfl

/-- A point is read with its values, or with their absence (R187). -/
theorem pointBytes_eq (o : Option CalPoint) : pointBytes o = o.elim [0, 255, 255, 255, 255] fun p =>
    [1] ++ u16 p.raw ++ u16 p.contribution := by
  cases o <;> rfl

theorem answerReadAssortment_entry {s : State} {bank number : Nat} (h : bank ≤ 1) (i : Fin 32) (hi : number = i) :
    answerReadAssortment bank number s = (s, .okWith (u8 bank ++ u8 number ++
      yesNo (if bank = 0 then s.atb.active else s.atb.edit)[i].isSome ++ yesNo (decide (i < s.atb.lockSize)) ++
      (((if bank = 0 then s.atb.active else s.atb.edit)[i]).elim [] Assortment.bytes))) := by
  subst hi
  rw [answerReadAssortment, if_neg (by omega), Bank.entry?_fin]
  cases (if bank = 0 then s.atb.active else s.atb.edit)[i] <;> rfl

/-- Settles O14: the reads answer with what stands. -/
theorem settingReadsAnswer : Obligations.SettingReadsAnswer := by
  intro s tag a b hb
  have param_of {x : Answer} (h : answerReadParameter a.toNat s = (s, x)) :
      exec (.readParameter tag a) s = .next (s.answered 2 tag x) := exec_idle_of (r := .readParameter a) rfl hb h
  have arm_of {x : Answer} (h : answerReadArmTable a.toNat s = (s, x)) :
      exec (.readArmTable tag a) s = .next (s.answered 4 tag x) := exec_idle_of (r := .readArmTable a) rfl hb h
  have entry_of {x : Answer} (h : answerReadAssortment a.toNat b.toNat s = (s, x)) :
      exec (.readAssortment tag a b) s = .next (s.answered 18 tag x) := exec_idle_of (r := .readAssortment a b) rfl hb h
  refine ⟨fun info h => param_of ?_, fun h => param_of ?_, fun c h => arm_of ?_, fun h => arm_of ?_,
    fun h => entry_of (if_pos h), ?_⟩
  · rw [answerReadParameter, h, u8_toNat]
    rfl
  · rw [answerReadParameter, parameterInfo_eq_none h]
    rfl
  · rw [answerReadArmTable, h, u8_toNat, funext pointBytes_eq]
    refine congrArg (fun l => (s, Answer.okWith (_ ++ l))) (List.flatMap_congr fun o _ => ?_)
    cases o <;> rfl
  · rw [answerReadArmTable, Channel.ofNumber_eq_none_iff.mpr h]
    rfl
  · intro ha i hi bank lock
    have hbank : (if a.toNat = 0 then s.atb.active else s.atb.edit) = bank := by
      simp only [bank, show a.toNat = 0 ↔ a = 0 from BitVec.toNat_inj (y := 0)]
    have hlock : yesNo (decide (i.val < s.atb.lockSize)) = lock := by
      simp only [lock]
      split <;> simp [*, yesNo, u8]
    have hread := answerReadAssortment_entry (s := s) ha i hi
    rw [hbank, hlock, u8_toNat, u8_toNat] at hread
    refine ⟨fun hn => entry_of ?_, fun e he => entry_of ?_⟩
    · rw [hread, hn]
      simp [Answer.okWith, yesNo, u8]
    · rw [hread, he]
      simp [Answer.okWith, yesNo, u8]

end Sys2Proof.Machine

/-! PROOF. The requests on stem records: handle and state (R7), the reads (R24 to R26), the override, the freeze, the update
mode, the top watch, REPLAN and RETIRE_STEM (R19 to R22, R27, R135). -/

namespace Sys2Proof.Machine

open Sys2Proof

/-! ### The handle and the record (R2, R7) -/

section Records

variable {s : State} {handle k : Nat} {r : StemRecord}

/-- The record that a handle names has this handle. -/
theorem State.findRecord_spec (h : s.findRecord handle = some (k, r)) : s.record? k = some r ∧ r.handle = handle := by
  refine ⟨State.record?_of_findRecord h, ?_⟩
  have hr := State.record?_of_findRecord h
  unfold State.findRecord at h
  split at h
  next slot hslot =>
    obtain ⟨q, hq, he⟩ := Option.map_eq_some_iff.mp h
    obtain ⟨rfl, rfl⟩ := Prod.mk.inj he
    rw [State.findSlot, State.slots_eq, List.findIdx?_map] at hslot
    obtain ⟨h1, h2, -⟩ := List.findIdx?_eq_some_iff_getElem.mp hslot
    simpa [hr] using h2
  next => cases h

/-- No record is named exactly by a handle that no occupied slot holds. -/
theorem State.findRecord_eq_none_iff : s.findRecord handle = none ↔ ∀ k r, s.record? k = some r → r.handle ≠ handle := by
  refine ⟨fun h k r hr he => ?_, fun h => ?_⟩
  · have hk := State.record?_lt hr
    obtain ⟨slot, hslot⟩ : ∃ slot, s.findSlot handle = some slot := by
      rw [← Option.isSome_iff_exists, State.findSlot, State.slots_eq, List.findIdx?_isSome, List.any_eq_true]
      exact ⟨some r, List.mem_map.mpr ⟨k, List.mem_range.mpr hk, hr⟩, by simp [he]⟩
    have hspec := hslot
    rw [State.findSlot, State.slots_eq, List.findIdx?_map] at hspec
    obtain ⟨h1, h2, -⟩ := List.findIdx?_eq_some_iff_getElem.mp hspec
    cases hrec : s.record? slot with
    | none => simp [hrec] at h2
    | some q => simp [State.findRecord, hslot, hrec] at h
  · cases hf : s.findRecord handle with
    | none => rfl
    | some m =>
      obtain ⟨hr, he⟩ := State.findRecord_spec hf
      exact absurd he (h _ _ hr)

/-- A read is a request that every record accepts. -/
theorem readRecord_eq (answer : StemRecord → Answer) :
    readRecord handle s answer = withRecord handle (fun _ => true) s fun _ r => (s, answer r) := by
  unfold readRecord withRecord
  cases s.findRecord handle <;> rfl

theorem readRecord_found (h : s.findRecord handle = some (k, r)) (answer : StemRecord → Answer) :
    readRecord handle s answer = (s, answer r) := by
  rw [readRecord_eq, withRecord_found h rfl]

/-- Every request on a record makes the two checks first. -/
theorem handleRequest_withRecord {q : Request} {h : Half} {accepts : StemRecord → Bool} (hq : onRecord? q = some (h, accepts))
    (tag : Byte) (s : State) : ∃ act, handleRequest tag q s = withRecord h.toNat accepts s act := by
  cases q <;> simp only [onRecord?, Option.some.injEq, Prod.mk.injEq, reduceCtorEq] at hq <;> obtain ⟨rfl, rfl⟩ := hq
  case readStem => exact ⟨_, readRecord_eq _⟩
  case readProfile => exact ⟨_, readRecord_eq _⟩
  case readPlan => exact ⟨_, readRecord_eq _⟩
  case readPieces => exact ⟨_, readRecord_eq _⟩
  all_goals exact ⟨_, rfl⟩

end Records

/-- Settles O23: the handle, then the record's state. -/
theorem stemRequestsCheckHandleAndState : Obligations.StemRequestsCheckHandleAndState := by
  intro s i tag q h accepts hi hq hb
  obtain ⟨act, hact⟩ := handleRequest_withRecord hq tag s
  refine ⟨fun hno => exec_idle_of hi hb ?_, fun k r hr he => ?_, fun k r hf => ?_⟩
  · rw [hact, withRecord, State.findRecord_eq_none_iff.mpr hno]
    rfl
  · by_contra hn
    exact State.findRecord_eq_none_iff.mp (by simpa using hn) k r hr he
  · obtain ⟨hr, he⟩ := State.findRecord_spec hf
    refine ⟨hr, he, fun ha => exec_idle_of hi hb ?_⟩
    rw [hact, withRecord, hf]
    simp [ha, Answer.only]

/-! ### The reads (R24 to R26) -/

/-- The occupied slots, ascending. -/
theorem State.occupied_eq (s : State) :
    s.occupied = (List.range 8).filterMap fun i => (s.record? i).map fun r => (i, r) := by
  have hzip : s.stb.slots.toList.zipIdx = (List.range 8).map fun i => (s.record? i, i) := by
    rw [State.slots_eq]
    exact List.ext_getElem (by simp) fun i _ _ => by simp
  rw [State.occupied, hzip, List.filterMap_map]
  rfl

/-- A slot is free or occupied. -/
theorem State.freeSlots_eq (s : State) : s.freeSlots = 8 - s.occupied.length := by
  have hlen : s.occupied.length = s.stb.slots.toList.countP fun o => o.isSome := by
    rw [State.occupied_eq, List.length_filterMap_eq_countP, State.slots_eq, List.countP_map]
    exact List.countP_congr fun i _ => by simp
  have hsum := List.length_eq_countP_add_countP (fun o : Option StemRecord => o.isNone) (l := s.stb.slots.toList)
  have hnot : s.stb.slots.toList.countP (fun o => decide ¬o.isNone = true) = s.stb.slots.toList.countP fun o => o.isSome :=
    List.countP_congr fun o _ => by cases o <;> simp
  have h8 : s.stb.slots.toList.length = 8 := by simp
  rw [hnot] at hsum
  unfold State.freeSlots
  omega

theorem listBytes_map {α : Type} (f : α → List Byte) (l : List α) : listBytes (l.map f) = u8 l.length ++ l.flatMap f := by
  rw [listBytes, List.length_map, List.flatMap_def]

theorem answerListStems_eq (s : State) : answerListStems s = (s, .okWith
    (u8 (8 - s.occupied.length) ++ (u8 s.occupied.length ++ s.occupied.flatMap fun p => p.2.listEntry p.1))) := by
  rw [answerListStems, State.freeSlots_eq, listBytes_map]

theorem StemRecord.fieldBytes_modes (r : StemRecord) : u8 r.updateMode.number = u8 (if r.updateMode = .immediate then 0 else 1) ∧
    u8 r.topWatch.mode.number = u8 (if r.topWatch.mode = .fall then 0 else 1) ∧
    u8 r.topWatch.origin.number = u8 (if r.topWatch.origin = .default then 0 else 1) := by
  refine ⟨?_, ?_, ?_⟩
  · cases r.updateMode <;> rfl
  · cases r.topWatch.mode <;> rfl
  · cases r.topWatch.origin <;> rfl

section Reads

variable {s : State} {handle k : Nat} {r : StemRecord}

theorem answerReadProfile_range (hf : s.findRecord handle = some (k, r)) {first count : Nat}
    (h : ¬(1 ≤ count ∧ count ≤ 32 ∧ first ≤ r.profile.length)) :
    answerReadProfile handle first count s = (s, .only .range) := by
  rw [answerReadProfile, readRecord_found hf, if_pos (by omega)]

theorem answerReadProfile_ok (hf : s.findRecord handle = some (k, r)) {first count : Nat}
    (h : 1 ≤ count ∧ count ≤ 32 ∧ first ≤ r.profile.length) :
    answerReadProfile handle first count s = (s, .okWith (u16 r.handle ++ u8 r.profile.length ++ u16 r.profileStep ++
      u8 first ++ (u8 (min count (r.profile.length - first)) ++
      ((r.profile.drop first).take count).flatMap Sample.bytes))) := by
  rw [answerReadProfile, readRecord_found hf, if_neg (by omega), listBytes_map, List.length_take, List.length_drop]

end Reads

/-- Settles O24: the reads of the Stem Table. -/
theorem stemReadsAnswer : Obligations.StemReadsAnswer := by
  refine ⟨fun s tag hb => exec_idle_of (r := .listStems) rfl hb ?_, fun s tag h a b k r hb hf => ⟨?_, ?_, fun ha => ?_,
    fun ha p hp => ?_, fun ha hp => ?_, fun ha => ?_, ?_⟩⟩
  · refine (answerListStems_eq s).trans ?_
    rw [State.occupied_eq, ← List.append_assoc]
    rfl
  · have hread : answerReadStem h.toNat s = (s, .okWith r.fieldBytes) := readRecord_found hf _
    rw [exec_idle_of (i := .readStem tag h) (r := .readStem h) rfl hb hread]
    refine congrArg (fun l => Host.Outcome.next (s.answered 33 tag ⟨.ok, l⟩)) (a₁ := r.fieldBytes) ?_
    obtain ⟨hmode, hwatch, horigin⟩ := r.fieldBytes_modes
    unfold StemRecord.fieldBytes
    refine congrArg₂ _ (congrArg₂ _ ?_ ?_) rfl
    · rw [← hmode, ← hwatch, ← horigin]
      rfl
    · cases r.pendingPlan <;> rfl
  · refine exec_idle_of (r := .readProfile h a b) rfl hb ?_
    split
    next hok =>
      refine (answerReadProfile_ok hf hok).trans ?_
      rw [u8_toNat, ← List.append_assoc]
      rfl
    next hno => exact answerReadProfile_range hf hno
  · subst ha
    refine exec_idle_of (r := .readPlan h 0) rfl hb ((readRecord_found hf _).trans ?_)
    simp only [listBytes_map, ← List.append_assoc]
    rfl
  · subst ha
    refine exec_idle_of (r := .readPlan h 1) rfl hb ((readRecord_found hf _).trans ?_)
    show (s, Answer.okWith (_ ++ optListBytes (r.pendingPlan.map _))) = _
    rw [hp]
    simp only [Option.map_some, optListBytes, List.append_assoc, listBytes_map]
    rfl
  · subst ha
    refine exec_idle_of (r := .readPlan h 1) rfl hb ((readRecord_found hf _).trans ?_)
    show (s, Answer.okWith (_ ++ optListBytes (r.pendingPlan.map _))) = _
    rw [hp]
    rfl
  · refine exec_idle_of (r := .readPlan h a) rfl hb ((readRecord_found hf _).trans ?_)
    obtain ⟨n, hn⟩ : ∃ n, a.toNat = n + 2 := ⟨a.toNat - 2, by omega⟩
    rw [hn]
    rfl
  · refine exec_idle_of (r := .readPieces h) rfl hb ((readRecord_found hf _).trans ?_)
    rw [listBytes_map, ← List.append_assoc]
    rfl

/-! ### Changes of the lead's record (R19 to R21, R135) -/

section Lead

variable {s : State} {handle k : Nat} {r : StemRecord}

theorem StemRecord.leads_of_lead? (hl : s.lead? = some (k, r)) (hst : r.state = .processing) : r.leads = true := by
  have hrole : r.role = some .lead := (State.lead?_spec hl).2
  simp [StemRecord.leads, hst, hrole]

/-- A pass requested for a lead that is not frozen, with its slot set to a record of the same head. -/
theorem State.setSlot_lead_requestPass (hl : s.lead? = some (k, r)) {r' : StemRecord} (hs : r'.state = r.state)
    (hr : r'.role = r.role) (hz : r'.frozen = false) : ∃ b : BuckingEngine, BuckingEngine.Asked s.bke b ∧
      (s.setSlot k (some r')).requestPass = { s.setSlot k (some r') with bke := b } := by
  obtain ⟨hasks, heq⟩ := State.requestPass_asks (s.setSlot k (some r'))
  refine ⟨_, ?_, heq⟩
  have hp : (s.setSlot k (some r')).plannable? = some r' := by
    simp [State.plannable?, State.lead?_setSlot hl hs hr, hz]
  unfold State.Asks at hasks
  rw [hp] at hasks
  exact hasks

end Lead

theorem State.overrideOk_big {s : State} {number length : Nat} (h : 31 < number) : s.overrideOk number length = false := by
  simp [State.overrideOk, Bank.entry?, Vector.getElem?_eq_none (xs := s.atb.active) (show 32 ≤ number by omega)]

theorem State.overrideOk_fin (s : State) (i : Fin 32) (length : Nat) :
    s.overrideOk i length = (s.atb.active[i]).any fun a => a.lengths.contains length := by
  rw [State.overrideOk, Bank.entry?_fin]

/-- Settles O27: SET_OVERRIDE and CLEAR_OVERRIDE on the lead. -/
theorem overrideSetAndCleared : Obligations.OverrideSetAndCleared := by
  intro s tag h number length k r hb hf hl hst set clear
  have hr := State.record?_of_findRecord hf
  have hleads := StemRecord.leads_of_lead? hl hst
  have hset : answerSetOverride h.toNat number.toNat length.toNat s = if !s.overrideOk number.toNat length.toNat then (s, .only .range)
      else ((s.setSlot k (some { r with override := some ⟨number.toNat, length.toNat⟩ })).requestPass, .only .ok) :=
    withRecord_found hf hleads _
  have hclear : answerClearOverride h.toNat s = if r.override.isNone then (s, .only .ok)
      else ((s.setSlot k (some { r with override := none })).requestPass, .only .ok) := withRecord_found hf hleads _
  have set_of {t : State} {a : Answer} (h' : answerSetOverride h.toNat number.toNat length.toNat s = (t, a)) :
      set = .next (t.answered 38 tag a) := exec_idle_of (r := .setOverride h number length) rfl hb h'
  have clear_of {t : State} {a : Answer} (h' : answerClearOverride h.toNat s = (t, a)) :
      clear = .next (t.answered 39 tag a) := exec_idle_of (r := .clearOverride h) rfl hb h'
  refine ⟨fun hn => set_of ?_, fun i hi => ⟨fun hn => set_of ?_, fun e he => ⟨fun hn => set_of ?_, fun hy => ?_⟩⟩,
    fun hn => clear_of ?_, fun hy => ?_⟩
  · rw [hset, State.overrideOk_big hn]
    rfl
  · rw [hset, ← hi, State.overrideOk_fin, hn]
    rfl
  · rw [hset, ← hi, State.overrideOk_fin, he]
    simp [hn, Answer.only]
  · obtain ⟨b, hasks, heq⟩ := State.setSlot_requestPass
      (r' := { r with override := some ⟨number.toNat, length.toNat⟩ }) hr rfl rfl rfl
    refine ⟨b, hasks, set_of ?_⟩
    have hok : s.overrideOk number.toNat length.toNat = true := by
      rw [← hi, State.overrideOk_fin, he]
      simp [hy]
    rw [hset, hok, ← heq]
    rfl
  · rw [hclear, hn]
    rfl
  · obtain ⟨b, hasks, heq⟩ := State.setSlot_requestPass (r' := { r with override := none }) hr rfl rfl rfl
    refine ⟨b, hasks, clear_of ?_⟩
    rw [hclear, if_neg (by simpa using hy), ← heq]
    rfl

theorem State.voidPassOf_eq {s : State} {lead : Nat} (h : ∀ p, s.bke.inFlight = some p → p.lead = lead) :
    s.voidPassOf lead = s.voidPass := by
  unfold State.voidPassOf
  split
  · rw [if_pos (h _ ‹_›)]
  · rfl

/-- Settles O28: FREEZE_PLAN and THAW_PLAN on the lead. -/
theorem freezeAndThaw : Obligations.FreezeAndThaw := by
  intro s tag h k r hb hf hl hst
  have hleads := StemRecord.leads_of_lead? hl hst
  have hfreeze : answerFreezePlan h.toNat s = if r.frozen then (s, .only .ok)
      else ((s.setSlot k (some { r with frozen := true, pendingPlan := none })).voidPassOf r.handle, .only .ok) :=
    withRecord_found hf hleads _
  have hthaw : answerThawPlan h.toNat s = if !r.frozen then (s, .only .ok)
      else ((s.setSlot k (some { r with frozen := false })).requestPass, .only .ok) := withRecord_found hf hleads _
  have freeze_of {t : State} {a : Answer} (h' : answerFreezePlan h.toNat s = (t, a)) :
      exec (.freezePlan tag h) s = .next (t.answered 40 tag a) := exec_idle_of (r := .freezePlan h) rfl hb h'
  have thaw_of {t : State} {a : Answer} (h' : answerThawPlan h.toNat s = (t, a)) :
      exec (.thawPlan tag h) s = .next (t.answered 41 tag a) := exec_idle_of (r := .thawPlan h) rfl hb h'
  refine ⟨fun hz => freeze_of ?_, fun hz hp => freeze_of ?_, fun hz => thaw_of ?_, fun hz => ?_⟩
  · rw [hfreeze, hz]
    rfl
  · rw [hfreeze, hz, State.voidPassOf_eq (s := s.setSlot k _) hp]
    rfl
  · rw [hthaw, hz]
    rfl
  · obtain ⟨b, hasked, heq⟩ := State.setSlot_lead_requestPass (r' := { r with frozen := false }) hl rfl rfl rfl
    refine ⟨b, hasked, thaw_of ?_⟩
    rw [hthaw, hz, ← heq]
    rfl

/-! ### The update mode and the top watch (R21, R22) -/

/-- A slot set to the record it holds. -/
theorem State.setSlot_self {s : State} {k : Nat} {r : StemRecord} (h : s.record? k = some r) : s.setSlot k (some r) = s := by
  have hv : s.stb.slots.setIfInBounds k (some r) = s.stb.slots := by
    refine Vector.ext fun i hi => ?_
    rw [Vector.getElem_setIfInBounds]
    split
    · subst_vars
      simpa [State.record?, hi] using h.symm
    · rfl
  simp [State.setSlot, hv]

theorem UpdateMode.ofNumber_eq_none {n : Nat} (h : 1 < n) : UpdateMode.ofNumber n = none := by
  obtain ⟨k, rfl⟩ : ∃ k, n = k + 2 := ⟨n - 2, by omega⟩
  rfl

theorem WatchMode.ofNumber_eq_none {n : Nat} (h : 1 < n) : WatchMode.ofNumber n = none := by
  obtain ⟨k, rfl⟩ : ∃ k, n = k + 2 := ⟨n - 2, by omega⟩
  rfl

theorem WatchMode.ofNumber_le {mode : Byte} (h : mode.toNat ≤ 1) :
    WatchMode.ofNumber mode.toNat = some (if mode = 0 then .fall else .every) := by
  obtain rfl | rfl : mode = 0 ∨ mode = 1 := by bv_omega
  · rfl
  · rfl

section Watch

variable {s : State} {handle k : Nat} {r : StemRecord}

theorem State.watchThreshold_range {threshold : Nat} (h : 999 < threshold) (h' : threshold ≠ 65535) :
    s.watchThreshold r threshold = none := by
  rw [State.watchThreshold, if_neg h', if_neg (by omega)]

theorem answerSetTopWatch_range (hf : s.findRecord handle = some (k, r)) (hg : r.inGroup = true) {threshold mode : Nat}
    (h : s.watchThreshold r threshold = none ∨ WatchMode.ofNumber mode = none) :
    answerSetTopWatch handle threshold mode s = (s, .only .range) := by
  rw [answerSetTopWatch, withRecord_found hf hg]
  obtain h | h := h
  · rw [h]
  · rw [h]
    cases s.watchThreshold r threshold <;> rfl

theorem answerSetTopWatch_ok (hf : s.findRecord handle = some (k, r)) (hg : r.inGroup = true) {threshold mode th : Nat}
    {origin : WatchOrigin} {m : WatchMode} (h : s.watchThreshold r threshold = some (th, origin))
    (hm : WatchMode.ofNumber mode = some m) :
    answerSetTopWatch handle threshold mode s =
      (s.setSlot k (some { r with topWatch := ⟨th, m, true, origin⟩ }), .only .ok) := by
  rw [answerSetTopWatch, withRecord_found hf hg, h, hm]

end Watch

/-- Settles O29: SET_UPDATE_MODE by the mode held, and SET_TOP_WATCH by its threshold. -/
theorem modeAndWatchSet : Obligations.ModeAndWatchSet := by
  intro s tag h mode threshold k r hb hf hg run watch m
  have hr := State.record?_of_findRecord hf
  have run_of {t : State} {a : Answer} (h' : answerSetUpdateMode h.toNat mode.toNat s = (t, a)) :
      run = .next (t.answered 42 tag a) := exec_idle_of (r := .setUpdateMode h mode) rfl hb h'
  have watch_of {t : State} {a : Answer} (h' : answerSetTopWatch h.toNat threshold.toNat mode.toNat s = (t, a)) :
      watch = .next (t.answered 44 tag a) := exec_idle_of (r := .setTopWatch h threshold mode) rfl hb h'
  have hstop (hm : mode = 1) : answerSetUpdateMode h.toNat mode.toNat s =
      (s.setSlot k (some { r with updateMode := .atStop }), .only .ok) := by
    subst hm
    exact withRecord_found hf hg _
  have himmediate (hm : mode = 0) : answerSetUpdateMode h.toNat mode.toNat s =
      if r.updateMode = .immediate then (s, .only .ok)
      else (if r.leads then (s.setSlot k (some { r with updateMode := .immediate, pendingPlan := none })).requestPass
        else s.setSlot k (some { r with updateMode := .immediate, pendingPlan := none }), .only .ok) := by
    subst hm
    exact withRecord_found hf hg _
  refine ⟨fun hm => run_of ?_, fun hm hu => run_of ?_, fun hm hu hr => run_of ?_, fun hm => run_of (hstop hm),
    fun hm hu hl => run_of ?_, fun hm hu hl => ?_, fun hx => watch_of (answerSetTopWatch_range hf hg ?_),
    fun hm ht => watch_of (answerSetTopWatch_ok hf hg ?_ (WatchMode.ofNumber_le hm)),
    fun hm ht => watch_of (answerSetTopWatch_ok hf hg ?_ (WatchMode.ofNumber_le hm))⟩
  · rw [answerSetUpdateMode, withRecord_found hf hg, UpdateMode.ofNumber_eq_none hm]
    rfl
  · rw [himmediate hm, if_pos hu]
    rfl
  · rw [hstop hm, ← hu, State.setSlot_self hr]
    rfl
  · rw [himmediate hm, if_neg (by simp [hu]), hl]
    rfl
  · obtain ⟨b, hasks, heq⟩ := State.setSlot_requestPass
      (r' := { r with updateMode := .immediate, pendingPlan := none }) hr rfl rfl rfl
    refine ⟨b, hasks, run_of ?_⟩
    rw [himmediate hm, if_neg (by simp [hu]), hl, ← heq]
    rfl
  · obtain hm | ⟨ht, ht'⟩ := hx
    · exact .inr (WatchMode.ofNumber_eq_none hm)
    · exact .inl (State.watchThreshold_range ht fun he => ht' (BitVec.toNat_inj.mp he))
  · rw [State.watchThreshold, if_neg (by omega), if_pos ht]
  · rw [ht]
    rfl

/-! ### REPLAN and RETIRE_STEM (R27, R125, R135) -/

section Replan

variable {s : State} {k : Nat} {r : StemRecord}

theorem State.requestPass_flag (hl : s.lead? = some (k, r)) (hz : r.frozen = false) (hb : s.bke.inFlight ≠ none) :
    s.requestPass = { s with bke.flag := true } := by
  simp [State.requestPass, State.plannable?, hl, hz, Option.isSome_iff_ne_none.mpr hb]

theorem State.requestPass_start (hl : s.lead? = some (k, r)) (hz : r.frozen = false) (hb : s.bke.inFlight = none) :
    s.requestPass = s.startPass r := by
  simp [State.requestPass, State.plannable?, hl, hz, hb]

theorem State.snapshot_members (s : State) (r : StemRecord) : (s.snapshot r).members =
    (s.stb.group.filterMap s.record?).map fun m =>
      ⟨m.species, m.fellingOrder, decide (m.role = some .lead), m.profile.map fun p => (p.position, p.diameter),
        (s.atb.taper[m.species]?).getD ⟨4, 10, 20⟩⟩ := by
  have hmember (m : StemRecord) : s.snapshotMember m = ⟨m.species, m.fellingOrder, decide (m.role = some .lead),
      m.profile.map fun p => (p.position, p.diameter), (s.atb.taper[m.species]?).getD ⟨4, 10, 20⟩⟩ := by
    rw [State.snapshotMember, beq_eq_decide]
    rfl
  rw [← funext hmember, State.snapshot, State.members, List.map_filterMap, List.map_filterMap]
  exact List.filterMap_congr fun i _ => by cases s.record? i <;> rfl

end Replan

/-- Settles O30: REPLAN by the lead and the pass in flight, with the snapshot, and RETIRE_STEM. -/
theorem replanAndRetire : Obligations.ReplanAndRetire := by
  intro s tag h k r hb hf
  have replan_of {t : State} {a : Answer} (h' : answerReplan h.toNat s = (t, a)) :
      exec (.replan tag h) s = .next (t.answered 43 tag a) := exec_idle_of (r := .replan h) rfl hb h'
  have hreplan (hleads : r.leads = true) : answerReplan h.toNat s =
      if r.frozen then (s, .only .frozen) else (s.requestPass, .only .ok) := withRecord_found hf hleads _
  refine ⟨fun hst hrole hz => replan_of ?_, fun hst hz hl => ⟨fun hp => replan_of ?_, fun hp => ?_⟩, fun hst => ?_⟩
  · rw [hreplan (by simp [StemRecord.leads, hst, hrole]), hz]
    rfl
  · rw [hreplan (StemRecord.leads_of_lead? hl hst), hz, State.requestPass_flag hl hz hp]
    rfl
  · refine ⟨s.snapshot r, replan_of ?_, rfl, ⟨rfl, rfl, rfl⟩, fun p rest hplan hc => ?_, fun hplanned => ?_,
      s.snapshot_members r⟩
    · rw [hreplan (StemRecord.leads_of_lead? hl hst), hz, State.requestPass_start hl hz hp]
      rfl
    · have hcommitted : r.committed? = some p := by simp [StemRecord.committed?, hplan, hc]
      exact ⟨hcommitted, by simp [State.snapshot, StemRecord.snapshotOverride, hcommitted]⟩
    · have hcommitted : r.committed? = none := by
        unfold StemRecord.committed?
        split
        next p rest hplan => simp [hplanned p rest hplan]
        next => rfl
      exact ⟨hcommitted, by simp [State.snapshot, StemRecord.snapshotOverride, hcommitted]⟩
  · have hfin : r.finished = true := by simpa [StemRecord.finished] using hst
    exact exec_idle_of (r := .retireStem h) rfl hb (withRecord_found hf hfin _)

end Sys2Proof.Machine

/-! PROOF. Told notices as the last of a step's effects, whatever comes after them; and the operating requests that are
refused, that stop, and that start a cut (R142, R144, R152, R153, R155, R157, section 8.8). -/

namespace Sys2Proof.Machine

open Sys2Proof

/-! ### Notices told before a change (R183) -/

section Told

variable (s : State) (l : List Notice)

theorem State.offerNotice_eq_told (n : Notice) : s.offerNotice n = s.told [n] := rfl

theorem State.told_nil : s.told [] = s := rfl

@[simp] theorem State.told_stb : (s.told l).stb = s.stb := (s.told_frame l).1

@[simp] theorem State.told_lnu : (s.told l).lnu = s.lnu := (s.told_frame l).2.1

@[simp] theorem State.told_lines : (s.told l).lines = s.lines := (s.told_frame l).2.2.1

@[simp] theorem State.told_dsq : (s.told l).dsq = s.dsq := (s.told_frame l).2.2.2.1

@[simp] theorem State.told_atb : (s.told l).atb = s.atb := (s.told_frame l).2.2.2.2.1

@[simp] theorem State.told_bke : (s.told l).bke = s.bke := (s.told_frame l).2.2.2.2.2.1

@[simp] theorem State.told_fcs : (s.told l).fcs = s.fcs := (s.told_frame l).2.2.2.2.2.2.1

@[simp] theorem State.told_params : (s.told l).params = s.params := (s.told_frame l).2.2.2.2.2.2.2.1

@[simp] theorem State.told_pending : (s.told l).pending = s.pending := (s.told_frame l).2.2.2.2.2.2.2.2

@[simp] theorem State.told_record? (i : Nat) : (s.told l).record? i = s.record? i := State.record?_congr (s.told_stb l) i

@[simp] theorem State.told_members : (s.told l).members = s.members := State.members_congr (s.told_stb l)

@[simp] theorem State.told_groupState : (s.told l).groupState = s.groupState := State.groupState_congr (s.told_stb l)

@[simp] theorem State.told_lead? : (s.told l).lead? = s.lead? := State.lead?_congr (s.told_stb l)

@[simp] theorem State.told_target? : (s.told l).target? = s.target? := State.target?_congr (s.told_stb l)

/-- What does not look at the Head Bus Port and leaves it can come before the notices. -/
theorem State.told_comm {g : State → State} (hg : ∀ (s : State) h, g { s with hbp := h } = { g s with hbp := h }) :
    g (s.told l) = (g s).told l := by
  have hbus : (g s).hbp = s.hbp := by rw [show g s = { g s with hbp := s.hbp } from hg s s.hbp]
  rw [State.told_eq s, State.told_eq (g s), hg, State.told_hbp hbus]

theorem State.told_setSlot (k : Nat) (o : Option StemRecord) : (s.told l).setSlot k o = (s.setSlot k o).told l :=
  State.told_comm s l (g := fun s => s.setSlot k o) fun _ _ => rfl

theorem State.told_moveTo (st : SeqState) (p : Option PauseReason) : (s.told l).moveTo st p = (s.moveTo st p).told l :=
  State.told_comm s l (g := fun s => s.moveTo st p) fun _ _ => rfl

/-- An entry after notices: its own is told last. -/
theorem State.told_enter (st : SeqState) :
    (s.told l).enter st = (s.moveTo st none).told (l ++ [.fcsState s.fcs.state st none s.lnu.length s.target?]) := by
  rw [State.enter_eq, State.told_moveTo, State.told_told, State.told_fcs, State.told_lnu, State.told_target?]

end Told

section NoPending

variable {s t : State}

theorem State.noPending_congr (h : s.stb = t.stb) : s.noPending ↔ t.noPending := by
  unfold State.noPending
  rw [State.lead?_congr h]

/-- An entry into a stop state after notices, with no pending plan. -/
theorem State.told_enterStop (h : s.noPending) (l : List Notice) (st : SeqState) (p : Option PauseReason) :
    (s.told l).enterStop st p = (s.moveTo st p).told
      (l ++ [.fcsState s.fcs.state st (if st = .paused then p else none) s.lnu.length s.target?]) := by
  rw [State.enterStop_eq ((State.noPending_congr (s.told_stb l)).mpr h), State.told_moveTo, State.told_told, State.told_fcs,
    State.told_lnu, State.told_target?]

theorem State.enterPaused_eq (h : s.noPending) (why : PauseReason) : s.enterPaused why =
    State.told { s with fcs := s.fcs.pausedBy why }
      [.fcsState s.fcs.state .paused (some why) s.lnu.length s.target?] := State.enterStop_eq h _ _

theorem State.told_enterPaused (h : s.noPending) (l : List Notice) (why : PauseReason) : (s.told l).enterPaused why =
    State.told { s with fcs := s.fcs.pausedBy why }
      (l ++ [.fcsState s.fcs.state .paused (some why) s.lnu.length s.target?]) := State.told_enterStop h l _ _

end NoPending

/-! ### The configured state (R173) -/

theorem State.configured_iff (s : State) : s.configured = true ↔
    (∀ (c : Channel) (i : Fin 9), (s.dsq.table c)[i].isSome) ∧ s.params.wheelConstant ≠ 0 ∧
      s.params.rollerConstant ≠ 0 ∧ ∃ i : Fin 32, s.atb.active[i].isSome := by
  have hactive : (s.atb.active.toList.any fun o => o.isSome) = true ↔ ∃ i : Fin 32, s.atb.active[i].isSome := by
    rw [Vector.toList_eq_map, List.any_map, List.any_eq_true]
    simp
  have htables : (∀ (c : Channel) (i : Fin 9), (s.dsq.table c)[i].isSome) ↔ armComplete s.dsq.ukl = true ∧
      armComplete s.dsq.ukr = true ∧ armComplete s.dsq.frl = true ∧ armComplete s.dsq.frr = true := by
    simp only [armComplete_iff]
    exact ⟨fun h => ⟨h .ukl, h .ukr, h .frl, h .frr⟩, fun ⟨h1, h2, h3, h4⟩ c => by cases c <;> assumption⟩
  rw [htables, ← hactive]
  simp [State.configured, State.configuredItems, and_assoc]

/-! ### FELL's checks (R142) -/

theorem State.freeSlot?_eq_none_iff {s : State} : s.freeSlot? = none ↔ ∀ k, k < 8 → s.record? k ≠ none := by
  rw [State.freeSlot?, State.slots_eq, List.findIdx?_eq_none_iff]
  simp [Option.isSome_iff_ne_none]

theorem DiameterSequencer.trimBusy_iff (d : DiameterSequencer) :
    d.trimBusy = false ↔ d.trimPending = none ∧ d.stateNumber ≠ 2 := by
  simp [DiameterSequencer.trimBusy]

/-- Settles O33: the first of FELL's checks that fails gives the answer. -/
theorem fellChecksInOrder : Obligations.FellChecksInOrder := by
  intro s tag species hb run inState configured room free
  have run_of {a : Answer} (h : answerFell species.toNat s = (s, a)) : run = .next (s.answered 48 tag a) :=
    exec_idle_of (r := .fell species) rfl hb h
  have hconf : s.configured = true ↔ configured := s.configured_iff
  have hslot : room → ∃ k, s.freeSlot? = some k ∧ ¬4 ≤ s.stb.group.length := fun ⟨⟨k, hk, hn⟩, hg⟩ => by
    obtain ⟨j, hj⟩ := Option.ne_none_iff_exists'.mp fun h => State.freeSlot?_eq_none_iff.mp h k hk hn
    exact ⟨j, hj, by omega⟩
  have hbusy : s.dsq.trimBusy = false ↔ free := s.dsq.trimBusy_iff
  refine ⟨fun h => run_of ?_, fun h hsp => run_of ?_, fun h hsp hc => run_of ?_, fun h hsp hc hr => run_of ?_,
    fun h hsp hc hr hf => run_of ?_, fun h hsp hc hr hf hh => run_of ?_⟩
  · rw [answerFell, if_pos h]
    rfl
  · rw [answerFell, if_neg (not_not.mpr h), if_pos hsp]
    rfl
  · rw [answerFell, if_neg (not_not.mpr h), if_neg (by omega), if_pos (by simpa using mt hconf.mp hc)]
    rfl
  · rw [answerFell, if_neg (not_not.mpr h), if_neg (by omega), if_neg (by simpa using hconf.mpr hc)]
    split
    · rfl
    next slot hs =>
      obtain ⟨hk, hn⟩ := State.freeSlot?_spec hs
      have hg : 4 ≤ s.stb.group.length := by
        by_contra hg
        exact hr ⟨⟨slot, hk, hn⟩, by omega⟩
      rw [if_pos hg]
      rfl
  · obtain ⟨k, hk, hg⟩ := hslot hr
    rw [answerFell, if_neg (not_not.mpr h), if_neg (by omega), if_neg (by simpa using hconf.mpr hc), hk]
    simp only
    rw [if_neg hg, if_pos (by simpa using mt hbusy.mp hf)]
    rfl
  · obtain ⟨k, hk, hg⟩ := hslot hr
    rw [answerFell, if_neg (not_not.mpr h), if_neg (by omega), if_neg (by simpa using hconf.mpr hc), hk]
    simp only
    rw [if_neg hg, if_neg (by simpa using hbusy.mpr hf), if_pos (by simpa using hh)]
    rfl

/-! ### The requests by state (section 8.8) -/

/-- Settles O39: the dashes of the table. -/
theorem requestsRefusedByState : Obligations.RequestsRefusedByState := by
  intro s tag species hb
  refine ⟨fun h => exec_idle_of (r := .fell species) rfl hb ?_, fun h => exec_idle_of (r := .feed) rfl hb ?_,
    fun h => exec_idle_of (r := .stop) rfl hb ?_, fun h => exec_idle_of (r := .cut) rfl hb ?_,
    fun h => exec_idle_of (r := .cutHere) rfl hb ?_, fun h => exec_idle_of (r := .drop) rfl hb ?_,
    fun h => exec_idle_of (r := .release) rfl hb ?_⟩
  · exact if_pos (by simpa using h)
  · show answerFeed s = _
    unfold answerFeed
    cases hf : s.fcs.state <;> simp [hf] at h <;> rfl
  · show answerStop s = _
    unfold answerStop
    cases hf : s.fcs.state <;> simp [hf] at h <;> rfl
  · have hr : s.cutReady = false := by
      unfold State.cutReady
      cases hf : s.fcs.state <;> simp [hf] at h <;> rfl
    exact if_pos (by simp [hr])
  · exact if_pos (by simpa [or_comm] using h)
  · exact if_neg h
  · show answerRelease s = _
    unfold answerRelease
    cases hf : s.fcs.state <;> simp [hf] at h <;> rfl

/-! ### Records closed outside a PROCESSING group (R4) -/

section Close

variable {s t : State} {k : Nat} {r : StemRecord}

theorem State.lead?_eq_none (h : s.groupState ≠ .processing) : s.lead? = none := if_neg h

theorem State.target?_eq_none (h : s.groupState ≠ .processing) : s.target? = none := by
  rw [State.target?, State.lead?_eq_none h]

/-- The same list of slots with the same records gives the same members. -/
theorem State.members_eq_of_records (hg : t.stb.group = s.stb.group) (h : ∀ i ∈ s.stb.group, t.record? i = s.record? i) :
    t.members = s.members := by
  rw [State.members, State.members, hg]
  exact List.filterMap_congr fun i hi => by rw [h i hi]

theorem State.groupState_eq_of_members (h : t.members = s.members) : t.groupState = s.groupState := by
  rw [State.groupState, State.groupState, h]

/-- A record that is not PROCESSING is closed by itself. -/
theorem State.closeRecord_resting (hr : s.record? k = some r) (hst : r.state ≠ .processing) (st : StemState) (why : EndReason) :
    s.closeRecord k st why = State.told
      { s.setSlot k (some (r.ended st why)) with stb.group := s.stb.group.filter fun i => i != k }
      [.stemClosed r.handle st why r.pieces.length r.plan.length] := by
  simp only [State.closeRecord, hr, hst, false_and, if_false]
  rfl

/-- A record of a group not yet started has no plan and no piece (R14). -/
theorem StemRecord.Law.fresh (h : r.Law) (hst : r.state = .felling ∨ r.state = .held) : r.plan = [] ∧ r.pieces = [] := by
  obtain ⟨hrole, -, hplan, -, hpieces⟩ := h
  have hno : r.role ≠ some .lead := fun he => by
    have := hrole.mp (by simp [he])
    simp [this] at hst
  exact ⟨(hplan hno).1, (hpieces hst).2⟩

/-- The record of a felling that fails is closed, and the group stays. -/
theorem State.Felling.abandonFelling_eq (hg : s.GroupLaw) (hf : s.Felling) (hr : s.record? k = some r)
    (hst : r.state = .felling) : s.abandonFelling =
      (s.setSlot k (some (r.ended .abandoned .fellFailed))).told [.stemClosed r.handle .abandoned .fellFailed 0 0] := by
  obtain ⟨j, q, hj, hq, hqst, huniq⟩ := hf.one.slot
  obtain rfl := huniq k r hr hst
  obtain ⟨hplan, hpieces⟩ := (hg.records k r hr).fresh (.inl hst)
  have hnot : k ∉ s.stb.group := fun hk => by
    have := hf.all k hk r hr
    simp [hst] at this
  have hgroup : (s.stb.group.filter fun i => i != k) = s.stb.group :=
    List.filter_eq_self.mpr fun i hi => by simpa using fun he : i = k => hnot (he ▸ hi)
  rw [State.abandonFelling, hj]
  simp only
  rw [State.closeRecord_resting hr (by simp [hst]), hgroup, hplan, hpieces]
  rfl

theorem State.Felling.groupState_ended (hf : s.Felling) (hr : s.record? k = some r) (hst : r.state = .felling)
    (o : Option StemRecord) : (s.setSlot k o).groupState ≠ .processing := by
  have hnot : k ∉ s.stb.group := fun hk => by
    have := hf.all k hk r hr
    simp [hst] at this
  have hrec (i : Nat) (hi : i ∈ s.stb.group) : (s.setSlot k o).record? i = s.record? i := by
    rw [State.record?_setSlot (State.record?_lt hr), if_neg fun he : i = k => hnot (he ▸ hi)]
  rw [State.groupState_eq_of_members (State.members_eq_of_records (s := s) (t := s.setSlot k o) rfl hrec)]
  exact State.groupState_ne_of_held hf.all

end Close

/-! ### STOP (R144, R157) -/

theorem State.stopCut_eq (s : State) : s.stopCut =
    if s.lines.sawHome.accepted then
      (State.told { s with fcs := { s.fcs.returns with stopped := true } }
        [.fcsState s.fcs.state .sawReturn none s.lnu.length s.target?]).endSawReturn
    else State.told { s with fcs := { s.fcs.returns with stopped := true } }
      [.fcsState s.fcs.state .sawReturn none s.lnu.length s.target?] := by
  have henter : State.enter { s with fcs.stopped := true } .sawReturn =
      State.told { s with fcs := { s.fcs.returns with stopped := true } }
        [.fcsState s.fcs.state .sawReturn none s.lnu.length s.target?] := State.enter_eq _ _
  rw [State.stopCut, State.enterSawReturn, henter]
  simp

/-- The end of a stopped cut's saw return is a pause (R156). -/
theorem State.endSawReturn_stopped {s : State} (h : s.fcs.stopped = true) (hp : s.noPending) (l : List Notice) :
    (s.told l).endSawReturn = State.told { s with fcs := { s.fcs.pausedBy .stopRequest with stopped := false } }
      (l ++ [.fcsState s.fcs.state .paused (some .stopRequest) s.lnu.length s.target?]) := by
  have hmark : ({ s.told l with fcs.stopped := false } : State) = ({ s with fcs.stopped := false } : State).told l :=
    State.told_comm s l (g := fun s => { s with fcs.stopped := false }) fun _ _ => rfl
  unfold State.endSawReturn
  rw [if_pos (by simpa using h), hmark, State.told_enterPaused (s := { s with fcs.stopped := false }) hp]
  rfl

/-- Settles O36: STOP by the sequencer's state. -/
theorem stopByState : Obligations.StopByState := by
  intro s tag hb hp run len
  have run_of {t : State} {a : Answer} (h : answerStop s = (t, a)) : run = .next (t.answered 50 tag a) :=
    exec_idle_of (r := .stop) rfl hb h
  refine ⟨fun h => run_of ?_, fun h hh => run_of ?_, fun h hh => run_of ?_, ?_⟩
  · have hans : answerStop s = (s.enterPaused .stopRequest, .only .ok) := by
      unfold answerStop
      rcases h with h | h | h | h | h <;> rw [h]
    rw [hans, State.enterPaused_eq hp]
    rfl
  · rw [answerStop, h, State.stopCut_eq, hh, h]
    rfl
  · rw [answerStop, h, State.stopCut_eq, hh, h]
    simp only [if_true]
    rw [State.endSawReturn_stopped (s := { s with fcs := { s.fcs.returns with stopped := true } }) rfl hp]
    rfl
  · intro k r h hlaw hr hst st
    refine run_of ?_
    obtain ⟨hg, hf⟩ := s.stemLaw_iff.mp hlaw
    rw [h] at hf
    have htarget := State.target?_eq_none (State.Felling.groupState_ended hf hr hst (some (r.ended .abandoned .fellFailed)))
    have hstate : (if (s.stb.group).isEmpty then SeqState.idle else .holding) = st := by simp [st]
    have hst' : (st ∉ [.felling, .feeding, .creeping, .settling, .reversing, .cutting, .sawReturn, .paused] :) := by
      simp only [st]
      split <;> decide
    rw [answerStop, h]
    simp only
    rw [State.stopFelling, State.Felling.abandonFelling_eq hg hf hr hst, State.leaveFelling, State.told_enter]
    simp only [State.told_stb, State.setSlot_group, hstate, htarget, State.moveTo_resting _ _ hst', State.setSlot_frame, h]
    rfl

/-! ### CUT and CUT_HERE (R152, R153, R155) -/

section Cut

variable {s : State} {k : Nat} {r : StemRecord}

theorem StemRecord.committed?_eq_some_iff {p : PlanPiece} :
    r.committed? = some p ↔ ∃ rest, r.plan = p :: rest ∧ p.status = .committed := by
  unfold StemRecord.committed?
  cases r.plan with
  | nil => simp
  | cons q rest =>
    by_cases h : q.status = .committed <;> simp [h]
    · rintro rfl
      exact h
    · rintro rfl
      exact h

theorem State.cutReady_paused (h : s.fcs.state = .paused) : s.cutReady = (s.lead?.bind fun m => m.2.committed?).any fun p =>
    decide ((s.lnu.length - p.cutPosition).natAbs ≤ s.params.overshootTol) := by
  unfold State.cutReady
  rw [h]
  cases s.lead?.bind fun m => m.2.committed? <;> rfl

theorem State.cutReady_iff (s : State) : s.cutReady = true ↔ s.fcs.state = .atTarget ∨
    (s.fcs.state = .paused ∧ ∃ k r p rest, s.lead? = some (k, r) ∧ r.plan = p :: rest ∧ p.status = .committed ∧
      (s.lnu.length - p.cutPosition).natAbs ≤ s.params.overshootTol) := by
  by_cases h : s.fcs.state = .paused
  · simp only [State.cutReady_paused h, h, reduceCtorEq, false_or, true_and, Option.any_eq_true, Option.bind_eq_some_iff,
      StemRecord.committed?_eq_some_iff, decide_eq_true_eq]
    constructor
    · rintro ⟨p, ⟨⟨k, r⟩, hl, rest, hplan, hc⟩, ht⟩
      exact ⟨k, r, p, rest, hl, hplan, hc, ht⟩
    · rintro ⟨k, r, p, rest, hl, hplan, hc, ht⟩
      exact ⟨p, ⟨(k, r), hl, rest, hplan, hc⟩, ht⟩
  · unfold State.cutReady
    cases hst : s.fcs.state <;> simp [hst] at h ⊢

theorem State.startCut_eq (s : State) (kind : CutKind) : s.startCut kind =
    State.told { s with fcs := s.fcs.cuts kind } [.fcsState s.fcs.state .cutting none s.lnu.length s.target?] :=
  State.enter_eq _ _

theorem answerCutHere_lead (h : s.fcs.state = .paused ∨ s.fcs.state = .atTarget) (hl : s.lead? = some (k, r)) :
    answerCutHere s =
      if 12 ≤ r.pieces.length then (s, .only .full)
      else if s.lnu.length ≤ (r.pieces.getLast?.map (·.cutPosition)).getD 0 then (s, .only .range)
      else if !s.lines.sawHome.accepted then (s, .only .sawNotHome)
      else (s.startCut .offPlan, .only .ok) := by
  rw [answerCutHere, if_neg (not_not.mpr h), hl]
  rfl

end Cut

/-- Settles O37: CUT and CUT_HERE by the first check that fails. -/
theorem cutsStart : Obligations.CutsStart := by
  intro s tag hb len cut here ready started
  have cut_of {t : State} {a : Answer} (h : answerCut s = (t, a)) : cut = .next (t.answered 51 tag a) :=
    exec_idle_of (r := .cut) rfl hb h
  have here_of {t : State} {a : Answer} (h : answerCutHere s = (t, a)) : here = .next (t.answered 52 tag a) :=
    exec_idle_of (r := .cutHere) rfl hb h
  have hready : s.cutReady = true ↔ ready := s.cutReady_iff
  have hstarted (kind : CutKind) : s.startCut kind = started kind := s.startCut_eq kind
  refine ⟨fun h => cut_of ?_, fun h hh => cut_of ?_, fun h hh => cut_of ?_, fun h1 h2 => here_of ?_, ?_⟩
  · exact if_pos (by simpa using mt hready.mp h)
  · rw [answerCut, if_neg (by simpa using hready.mpr h), if_pos (by simpa using hh)]
    rfl
  · rw [answerCut, if_neg (by simpa using hready.mpr h), if_neg (by simpa using hh), hstarted]
    rfl
  · exact if_pos (by simp [h1, h2])
  · intro k r hst hl last
    have hans := answerCutHere_lead hst hl
    refine ⟨fun h => here_of ?_, fun h hlen => here_of ?_, fun h hlen hh => here_of ?_, fun h hlen hh => here_of ?_⟩
    · rw [hans, if_pos h]
      rfl
    · rw [hans, if_neg (by omega), if_pos hlen]
      rfl
    · rw [hans, if_neg (by omega), if_neg (not_le.mpr hlen), if_pos (by simpa using hh)]
      rfl
    · rw [hans, if_neg (by omega), if_neg (not_le.mpr hlen), if_neg (by simpa using hh), hstarted]
      rfl

/-! ### CAB_MEASURE (R73, R74) -/

theorem Mask.ofCode_eq_none {n : Nat} (h : ¬(1 ≤ n ∧ n ≤ 3)) : Mask.ofCode n = none := by
  match n with
  | 0 => rfl
  | 1 | 2 | 3 => omega
  | n + 4 => rfl

theorem Mask.ofCode_code (m : Mask) : Mask.ofCode m.code = some m := by cases m <;> rfl

theorem isAveraging_iff (n : Nat) : isAveraging n = true ↔ n = 1 ∨ n = 2 ∨ n = 4 ∨ n = 8 := by simp [isAveraging, or_assoc]

theorem DiameterSequencer.cabBusy_iff (d : DiameterSequencer) :
    d.cabBusy = false ↔ d.cabPending = none ∧ d.stateNumber ≠ 3 := by
  simp [DiameterSequencer.cabBusy]

section Cab

variable {s : State} {tag : Byte} {mask : Nat} {m : Mask} {n : Nat}

theorem answerCabMeasure_range (h : ¬((1 ≤ mask ∧ mask ≤ 3) ∧ (n = 1 ∨ n = 2 ∨ n = 4 ∨ n = 8))) :
    answerCabMeasure tag mask n s = (s, .only .range) := by
  unfold answerCabMeasure
  split
  · rfl
  next m hm =>
    have hmask : 1 ≤ mask ∧ mask ≤ 3 := by
      by_contra hno
      simp [Mask.ofCode_eq_none hno] at hm
    have hn : isAveraging n = false := by
      rw [← Bool.not_eq_true, isAveraging_iff]
      exact fun hn => h ⟨hmask, hn⟩
    rw [if_pos (by simp [hn])]

theorem answerCabMeasure_mask (hm : m.code = mask) (hn : n = 1 ∨ n = 2 ∨ n = 4 ∨ n = 8) :
    answerCabMeasure tag mask n s =
      if !(m.channels.all fun c => armComplete (s.dsq.table c)) then (s, .only .notConfigured)
      else if s.dsq.cabBusy then (s, .only .busy)
      else (State.arbitrate { s with dsq.cabPending := some ⟨m, n, tag⟩ }, .only .accepted) := by
  rw [answerCabMeasure, ← hm, Mask.ofCode_code]
  simp only
  rw [if_neg (by simpa using (isAveraging_iff n).mpr hn)]

/-- A sequencer with nothing else pending starts for the cab at once (R66, R74). -/
theorem State.arbitrate_cab (c : CabRequest) (hr : s.dsq.running = none) (hf : s.dsq.feedPending = none)
    (ht : s.dsq.trimPending = none) (hc : s.dsq.cabPending = none) :
    State.arbitrate { s with dsq.cabPending := some c } =
      { s with dsq.running := some (.fresh (.cab c) c.mask c.averaging s.params.sensorSettle) } := by
  simp [State.arbitrate, hr, hf, ht, hc, RunningSequence.starting, RunningSequence.fresh]

end Cab

/-- Settles O41: CAB_MEASURE by its checks, then by the running sequence. -/
theorem cabMeasureStarts : Obligations.CabMeasureStarts := by
  intro s tag mask count hb run n ranges
  have run_of {t : State} {a : Answer} (h : answerCabMeasure tag mask.toNat n s = (t, a)) :
      run = .next (t.answered 64 tag a) := exec_idle_of (r := .cabMeasure mask count) rfl hb h
  refine ⟨fun h => run_of (answerCabMeasure_range h), ?_⟩
  intro m hm hr complete free request
  have hans := answerCabMeasure_mask (s := s) (tag := tag) hm hr.2
  have hcomplete : (m.channels.all fun c => armComplete (s.dsq.table c)) = true ↔ complete := by
    simp only [List.all_eq_true, armComplete_iff, complete]
  have hfree : s.dsq.cabBusy = false ↔ free := s.dsq.cabBusy_iff
  refine ⟨fun hc => run_of ?_, fun hc hf => run_of ?_, fun hc hf hrun => run_of ?_, fun hc hf hrun h1 h2 => run_of ?_⟩
  · rw [hans, if_pos (by simpa only [Bool.not_eq_true', Bool.not_eq_true] using mt hcomplete.mp hc)]
    rfl
  · rw [hans, if_neg (by simp only [hcomplete.mpr hc]; simp), if_pos (by simpa using mt hfree.mp hf)]
    rfl
  · rw [hans, if_neg (by simp only [hcomplete.mpr hc]; simp), if_neg (by simpa using hfree.mpr hf),
      State.arbitrate_running (by exact hrun)]
    rfl
  · rw [hans, if_neg (by simp only [hcomplete.mpr hc]; simp), if_neg (by simpa using hfree.mpr hf),
      State.arbitrate_cab _ hrun h1 h2 hf.1]
    rfl

end Sys2Proof.Machine

/-! PROOF. FELL accepted (R1, R2, R5, R142): the free slot, the counter's rest, the TRIM request and the entry into FELLING. -/

namespace Sys2Proof.Machine

open Sys2Proof

/-! ### The slot and the counter (R1, R2) -/

section Fell

variable {s : State} {k : Nat}

theorem State.freeSlot?_eq (hk : k < 8) (hn : s.record? k = none) (hall : ∀ j, j < k → (s.record? j).isSome) :
    s.freeSlot? = some k := by
  rw [State.freeSlot?, State.slots_eq]
  refine List.findIdx?_eq_some_iff_getElem.mpr ⟨by simpa using hk, by simpa using hn, fun j hj => ?_⟩
  simpa [Option.isSome_iff_ne_none] using hall j hj

/-- The value after a few advances, from any value. -/
theorem nextHandleValue_iterate_eq (h : Nat) {k : Nat} (hk : k ≤ 65535) :
    nextHandleValue^[k] h = if 65535 < h ∨ h + k ≤ 65535 then h + k else h + k - 65535 := by
  induction k with
  | zero =>
    simp only [Function.iterate_zero, id]
    split <;> omega
  | succ k ih =>
    rw [Function.iterate_succ_apply', ih (by omega), nextHandleValue]
    split <;> split <;> split <;> omega

/-- Of nine successive values one is free, whatever the first is. -/
theorem State.exists_free_value (s : State) (h : Nat) : ∃ n, n ≤ 8 ∧ s.holdsHandle (nextHandleValue^[n] h) = false := by
  by_contra hall
  simp only [not_exists, not_and, Bool.not_eq_false, State.holdsHandle_iff] at hall
  choose slot r hr hv using fun k : Fin 9 => hall k.val (by omega)
  obtain ⟨i, j, hij, hs⟩ := Fintype.exists_ne_map_eq_of_card_lt
    (fun k : Fin 9 => (⟨slot k, State.record?_lt (hr k)⟩ : Fin 8)) (by decide)
  have hslot : slot i = slot j := congrArg Fin.val hs
  have hrec : r i = r j := Option.some.inj ((hr i).symm.trans ((congrArg s.record? hslot).trans (hr j)))
  have hval := (hv i).symm.trans ((congrArg StemRecord.handle hrec).trans (hv j))
  rw [nextHandleValue_iterate_eq h (by omega), nextHandleValue_iterate_eq h (by omega)] at hval
  refine hij (Fin.ext ?_)
  split at hval <;> split at hval <;> omega

/-- The counter rests on the first free value. -/
theorem State.restHandle_first (s : State) {fuel n : Nat} (hn : n < fuel) (h : Nat)
    (hfree : s.holdsHandle (nextHandleValue^[n] h) = false)
    (hheld : ∀ m, m < n → s.holdsHandle (nextHandleValue^[m] h) = true) : s.restHandle fuel h = nextHandleValue^[n] h := by
  induction fuel generalizing h n with
  | zero => omega
  | succ fuel ih =>
    unfold State.restHandle
    cases n with
    | zero =>
      rw [if_neg]
      · rfl
      · simpa using hfree
    | succ n =>
      have h0 : s.holdsHandle h = true := hheld 0 (by omega)
      rw [if_pos h0, ih (n := n) (by omega) _ (by simpa using hfree) fun m hm => by simpa using hheld (m + 1) (by omega)]
      rfl

/-- A record opened in a free slot does not start a group. -/
theorem State.groupState_opened {r : StemRecord} (hk : k < 8) (hn : s.record? k = none) (hr : r.state = .felling)
    (hg : s.groupState ≠ .processing) : (s.setSlot k (some r)).groupState ≠ .processing := by
  have hrec (i : Nat) : (s.setSlot k (some r)).record? i = if i = k then some r else s.record? i := State.record?_setSlot hk _ i
  intro hp
  have hhead : ∃ i q rest, (s.setSlot k (some r)).members = (i, q) :: rest ∧ q.state = .processing := by
    unfold State.groupState at hp
    split at hp
    · cases hp
    next i q rest hm =>
      refine ⟨i, q, rest, hm, ?_⟩
      by_contra hq
      simp [hq] at hp
  obtain ⟨i, q, rest, hm, hq⟩ := hhead
  obtain ⟨pre, a, post, hgroup, hpre, ha, -⟩ := List.filterMap_eq_cons_iff.mp hm
  have hgroup' : s.stb.group = pre ++ a :: post := hgroup
  obtain ⟨p, hp', he⟩ := Option.map_eq_some_iff.mp ha
  obtain ⟨rfl, rfl⟩ := Prod.mk.inj he
  have hak : a ≠ k := by
    rintro rfl
    rw [hrec, if_pos rfl] at hp'
    cases hp'
    simp [hr] at hq
  rw [hrec, if_neg hak] at hp'
  have hnone (x : Nat) (hx : x ∈ pre) : ((s.record? x).map fun r => (x, r)) = none := by
    have := hpre x hx
    rw [Option.map_eq_none_iff, hrec] at this
    split at this
    · cases this
    · simp [this]
  have hmem : s.members = (a, p) :: post.filterMap fun i => (s.record? i).map fun r => (i, r) := by
    rw [State.members, hgroup', List.filterMap_append, List.filterMap_eq_nil_iff.mpr hnone, List.filterMap_cons, hp']
    rfl
  exact hg (by simp [State.groupState, hmem, hq])

/-- A TRIM request behind a running sequence waits (R74). -/
theorem State.raiseTrim_waits (t : TrimRequest) (hf : s.dsq.trimBusy = false) (hr : s.dsq.running.isSome) :
    s.raiseTrim t = { s with dsq.trimPending := some t } := by
  rw [State.raiseTrim, if_neg (by simp [hf]), State.arbitrate_running (by exact hr)]

/-- A TRIM request to an idle sequencer starts (R66, R74). -/
theorem State.raiseTrim_starts (t : TrimRequest) (hf : s.dsq.trimBusy = false) (hr : s.dsq.running = none)
    (hfeed : s.dsq.feedPending = none) : s.raiseTrim t =
      { s with dsq.running := some (.fresh (.trim t) s.params.trimMask s.params.trimAvg s.params.sensorSettle) } := by
  have ht : s.dsq.trimPending = none := (s.dsq.trimBusy_iff.mp hf).1
  rw [State.raiseTrim, if_neg (by simp [hf])]
  simp [State.arbitrate, hr, hfeed, ht, RunningSequence.starting, RunningSequence.fresh]

/-- An entry whose notice carries a known target. -/
theorem State.enter_of_target {x : Option Int} (h : s.target? = x) (st : SeqState) :
    s.enter st = (s.moveTo st none).told [.fcsState s.fcs.state st none s.lnu.length x] := by
  rw [State.enter_eq, h]

theorem answerFell_accepted {species : Nat} (hst : s.fcs.state = .idle ∨ s.fcs.state = .holding) (hsp : species ≤ 15)
    (hc : s.configured = true) (hk : s.freeSlot? = some k) (hg : s.stb.group.length < 4) (hf : s.dsq.trimBusy = false)
    (hh : s.lines.sawHome.accepted = true) : answerFell species s = (s.acceptFell k species, .only .ok) := by
  rw [answerFell, if_neg (not_not.mpr hst), if_neg (by omega), if_neg (by simp [hc]), hk]
  simp only
  rw [if_neg (by omega), if_neg (by simp [hf]), if_neg (by simp [hh])]

end Fell

/-- Settles O32: an accepted FELL, the counter resting on the first free value. -/
theorem fellOpensRecord : Obligations.FellOpensRecord := by
  intro s tag species k hb hst hsp htables hw hro hactive hk hn hall hg ht2 ht hh hgs
  set opened := s.setSlot k (some (.opening s.stb.nextHandle species.toNat (s.stb.group.length + 1) s.params.profileStep))
    with hopened
  have hbusy : s.dsq.trimBusy = false := s.dsq.trimBusy_iff.mpr ⟨ht2, ht⟩
  have hfree := opened.exists_free_value (nextHandleValue s.stb.nextHandle)
  classical
  obtain ⟨hn8, hfirst⟩ := Nat.find_spec hfree
  have hheld (m : Nat) (hm : m < Nat.find hfree) :
      opened.holdsHandle (nextHandleValue^[m] (nextHandleValue s.stb.nextHandle)) = true := by
    have := Nat.find_min hfree hm
    simpa [show m ≤ 8 by omega] using this
  set n := Nat.find hfree
  have hnext : opened.restHandle 9 (nextHandleValue s.stb.nextHandle) =
      nextHandleValue^[n] (nextHandleValue s.stb.nextHandle) := opened.restHandle_first (by omega) _ hfirst hheld
  have hopen : s.openRecord k species.toNat =
      { opened with stb.nextHandle := nextHandleValue^[n] (nextHandleValue s.stb.nextHandle) } := by
    rw [← hnext]
    rfl
  have htarget : opened.target? = none := State.target?_eq_none (State.groupState_opened hk hn rfl hgs)
  have hstb (t : State) (h : t.stb = (s.openRecord k species.toNat).stb) : t.target? = none := by
    have hg : t.stb.group = opened.stb.group := by rw [h, hopen]
    have hr (i : Nat) : t.record? i = opened.record? i := by rw [State.record?, h, hopen]; rfl
    refine State.target?_eq_none ?_
    rw [State.groupState_eq_of_members (State.members_eq_of_records (s := opened) hg fun i _ => hr i)]
    exact State.groupState_opened hk hn rfl hgs
  refine ⟨s.acceptFell k species.toNat, nextHandleValue^[n] (nextHandleValue s.stb.nextHandle), n, ?_, ⟨hn8, rfl, hfirst, hheld⟩,
    fun hr => ?_, fun hr hf => ?_⟩
  · exact exec_idle_of (r := .fell species) rfl hb (answerFell_accepted hst hsp
      (s.configured_iff.mpr ⟨htables, hw, hro, hactive⟩) (State.freeSlot?_eq hk hn hall) hg hbusy hh)
  · rw [State.acceptFell, State.raiseTrim_waits (s := s.openRecord k species.toNat) _ hbusy hr]
    refine (State.enter_of_target (x := none) ?_ _).trans ?_
    · exact hstb _ rfl
    · rw [hopen]
      rfl
  · rw [State.acceptFell, State.raiseTrim_starts (s := s.openRecord k species.toNat) _ hbusy hr hf]
    refine (State.enter_of_target (x := none) ?_ _).trans ?_
    · exact hstb _ rfl
    · rw [hopen]
      rfl

end Sys2Proof.Machine

/-! PROOF. The sequencer's entries after told notices, case by case of the target, the length and the passes (R145 to R151,
R156): equations that the statements about feeding, stopping, expiries and the saw cite. -/

namespace Sys2Proof.Machine

open Sys2Proof

/-! ### The sequencer's items replaced -/

/-- The state with other items of the sequencer. -/
def State.withFcs (s : State) (f : Sequencer) : State := { s with fcs := f }

section WithFcs

variable (s : State) (f : Sequencer)

@[simp] theorem State.withFcs_fcs : (s.withFcs f).fcs = f := rfl

@[simp] theorem State.withFcs_frame : (s.withFcs f).hbp = s.hbp ∧ (s.withFcs f).stb = s.stb ∧ (s.withFcs f).lnu = s.lnu ∧
    (s.withFcs f).lines = s.lines ∧ (s.withFcs f).dsq = s.dsq ∧ (s.withFcs f).atb = s.atb ∧ (s.withFcs f).bke = s.bke ∧
    (s.withFcs f).params = s.params ∧ (s.withFcs f).pending = s.pending := ⟨rfl, rfl, rfl, rfl, rfl, rfl, rfl, rfl, rfl⟩

@[simp] theorem State.withFcs_lead? : (s.withFcs f).lead? = s.lead? := rfl

@[simp] theorem State.withFcs_target? : (s.withFcs f).target? = s.target? := rfl

@[simp] theorem State.withFcs_noPending : (s.withFcs f).noPending ↔ s.noPending := Iff.rfl

@[simp] theorem State.withFcs_withFcs (g : Sequencer) : (s.withFcs f).withFcs g = s.withFcs g := rfl

end WithFcs

/-! ### The first piece COMMITTED (R147) -/

/-- The state with the first piece p of the lead's plan COMMITTED. -/
def State.committed (s : State) (k : Nat) (r : StemRecord) (p : PlanPiece) (rest : List PlanPiece) : State :=
  { s.setSlot k (some { r with plan := { p with status := .committed } :: rest }) with
    fcs := if p.status = .planned then { s.fcs with reversals := 0, overshoot := false } else s.fcs }

section Feeding

variable {s : State} {l : List Notice} {k : Nat} {r : StemRecord} {p : PlanPiece} {rest : List PlanPiece} {t : Int}

theorem State.noPending_of_lead? (hl : s.lead? = some (k, r)) (hp : r.pendingPlan = none) : s.noPending := fun j q h => by
  obtain ⟨rfl, rfl⟩ := Prod.mk.inj (Option.some.inj (hl.symm.trans h))
  exact hp

theorem State.target?_of_lead? (hl : s.lead? = some (k, r)) : s.target? = r.plan.head?.map (·.cutPosition) := by
  rw [State.target?, hl]

theorem State.target?_of_plan (hl : s.lead? = some (k, r)) (hplan : r.plan = p :: rest) : s.target? = some p.cutPosition := by
  rw [State.target?_of_lead? hl, hplan]
  rfl

theorem State.committed_lead? (hl : s.lead? = some (k, r)) :
    (s.committed k r p rest).lead? = some (k, { r with plan := { p with status := .committed } :: rest }) :=
  (State.lead?_congr (t := s.setSlot k _) rfl).trans (State.lead?_setSlot hl rfl rfl)

theorem State.committed_noPending (hl : s.lead? = some (k, r)) (hp : r.pendingPlan = none) :
    (s.committed k r p rest).noPending := State.noPending_of_lead? (State.committed_lead? hl) hp

theorem State.committed_target? (hl : s.lead? = some (k, r)) : (s.committed k r p rest).target? = some p.cutPosition :=
  (State.target?_of_lead? (State.committed_lead? hl)).trans rfl

/-- A piece already COMMITTED stays as it is. -/
theorem State.commit_eq (hl : s.lead? = some (k, r)) (hplan : r.plan = p :: rest) : s.commit = s.committed k r p rest := by
  unfold State.commit State.committed
  rw [hl]
  simp only [hplan]
  by_cases hst : p.status = .planned
  · simp [hst]
  · have hc : p.status = .committed := by cases hs : p.status <;> simp_all
    have hsame : { r with plan := { p with status := .committed } :: rest } = r := by rw [← hc, ← hplan]
    rw [if_neg hst, if_neg hst, hsame, State.setSlot_self (State.mem_members.mp (State.mem_of_lead? hl)).2]

theorem State.told_commit (hl : s.lead? = some (k, r)) (hplan : r.plan = p :: rest) :
    (s.told l).commit = (s.committed k r p rest).told l := by
  rw [State.commit_eq ((s.told_lead? l).trans hl) hplan]
  exact State.told_comm s l (g := fun s => s.committed k r p rest) fun _ _ => rfl

/-! ### Entries (R140, R147, R148) -/

theorem State.told_enterSettling (hp : s.noPending) : (s.told l).enterSettling =
    (s.withFcs s.fcs.settles).told (l ++ [.fcsState s.fcs.state .settling none s.lnu.length s.target?]) :=
  State.told_enterStop hp l _ _

theorem State.arrivalTest_arrived (ht : s.target? = some t) (h : t ≤ s.lnu.length) : s.arrivalTest = s.enterSettling := by
  simp [State.arrivalTest, State.arrived, ht, h]

theorem State.arrivalTest_short (ht : s.target? = some t) (h : s.lnu.length < t) : s.arrivalTest = s := by
  simp [State.arrivalTest, State.arrived, ht, h]

theorem State.approachTest_near (ht : s.target? = some t) (h : t - s.params.slowDistance ≤ s.lnu.length) :
    s.approachTest = s.commit.enterCreeping := by
  rw [State.approachTest, State.approached, ht]
  simp only
  rw [if_pos (decide_eq_true h)]

theorem State.approachTest_far (ht : s.target? = some t) (h : s.lnu.length < t - s.params.slowDistance) :
    s.approachTest = s := by
  rw [State.approachTest, State.approached, ht]
  simp only
  rw [if_neg (by simpa only [decide_eq_true_eq, not_le] using h)]

theorem State.told_enter_feeding (st : SeqState) (h : st = .feeding ∨ st = .creeping ∨ st = .reversing) (ht : s.target? = some t) :
    (s.told l).enter st = (s.withFcs (s.fcs.feedingFrom st s.lnu.length)).told
      (l ++ [.fcsState s.fcs.state st none s.lnu.length (some t)]) := by
  rw [State.told_enter, State.moveTo_feeding _ _ h, ht]
  rfl

theorem State.told_enterCreeping_short (ht : s.target? = some t) (h : s.lnu.length < t) : (s.told l).enterCreeping =
    (s.withFcs (s.fcs.feedingFrom .creeping s.lnu.length)).told
      (l ++ [.fcsState s.fcs.state .creeping none s.lnu.length (some t)]) := by
  rw [State.enterCreeping, State.told_enter_feeding _ (.inr (.inl rfl)) ht, State.arrivalTest_short (t := t) (by simpa using ht)]
  simpa using h

theorem State.told_enterCreeping_arrived (hp : s.noPending) (ht : s.target? = some t) (h : t ≤ s.lnu.length) :
    (s.told l).enterCreeping = (s.withFcs { s.fcs.settles with stallReference := s.lnu.length }).told
      (l ++ [.fcsState s.fcs.state .creeping none s.lnu.length (some t),
        .fcsState .creeping .settling none s.lnu.length (some t)]) := by
  rw [State.enterCreeping, State.told_enter_feeding _ (.inr (.inl rfl)) ht, State.arrivalTest_arrived (t := t) (by simpa using ht)
    (by simpa using h), State.told_enterSettling (by simpa using hp), State.withFcs_target?, ht, List.append_assoc]
  rfl

theorem State.told_enterFeeding_far (ht : s.target? = some t) (h : s.lnu.length < t - s.params.slowDistance) :
    (s.told l).enterFeeding = (s.withFcs (s.fcs.feedingFrom .feeding s.lnu.length)).told
      (l ++ [.fcsState s.fcs.state .feeding none s.lnu.length (some t)]) := by
  rw [State.enterFeeding, State.told_enter_feeding _ (.inl rfl) ht, State.approachTest_far (t := t) (by simpa using ht)]
  rw [State.told_lnu, State.told_params]
  exact h

/-- A feed that starts where the first piece is near commits it and creeps. -/
theorem State.told_enterFeeding_near (hl : s.lead? = some (k, r)) (hplan : r.plan = p :: rest)
    (h : p.cutPosition - s.params.slowDistance ≤ s.lnu.length) : (s.told l).enterFeeding =
      (((s.withFcs (s.fcs.feedingFrom .feeding s.lnu.length)).committed k r p rest).told
        (l ++ [.fcsState s.fcs.state .feeding none s.lnu.length (some p.cutPosition)])).enterCreeping := by
  have ht := State.target?_of_plan hl hplan
  rw [State.enterFeeding, State.told_enter_feeding _ (.inl rfl) ht, State.approachTest_near (t := p.cutPosition) (by simpa using ht),
    State.told_commit (by simpa using hl) hplan]
  rw [State.told_lnu, State.told_params]
  exact h

/-- Such a feed creeps where the target lies ahead. -/
theorem State.told_enterFeeding_creeps (hl : s.lead? = some (k, r)) (hplan : r.plan = p :: rest)
    (h : p.cutPosition - s.params.slowDistance ≤ s.lnu.length) (h' : s.lnu.length < p.cutPosition) : (s.told l).enterFeeding =
      ((s.committed k r p rest).withFcs ((s.committed k r p rest).fcs.feedingFrom .creeping s.lnu.length)).told
        (l ++ [.fcsState s.fcs.state .feeding none s.lnu.length (some p.cutPosition),
          .fcsState .feeding .creeping none s.lnu.length (some p.cutPosition)]) := by
  set v := s.withFcs (s.fcs.feedingFrom .feeding s.lnu.length) with hv
  have hvl : v.lead? = some (k, r) := hl
  rw [State.told_enterFeeding_near hl hplan h, State.told_enterCreeping_short (State.committed_target? hvl) h', List.append_assoc]
  unfold State.committed
  by_cases hs : p.status = .planned
  · simp only [hs, if_true]
    rfl
  · simp only [hs, if_false]
    rfl

/-- It settles at once where the target is reached. -/
theorem State.told_enterFeeding_settles (hl : s.lead? = some (k, r)) (hpend : r.pendingPlan = none) (hplan : r.plan = p :: rest)
    (h : p.cutPosition - s.params.slowDistance ≤ s.lnu.length) (h' : p.cutPosition ≤ s.lnu.length) : (s.told l).enterFeeding =
      ((s.committed k r p rest).withFcs { (s.committed k r p rest).fcs.settles with stallReference := s.lnu.length }).told
        (l ++ [.fcsState s.fcs.state .feeding none s.lnu.length (some p.cutPosition),
          .fcsState .feeding .creeping none s.lnu.length (some p.cutPosition),
          .fcsState .creeping .settling none s.lnu.length (some p.cutPosition)]) := by
  set v := s.withFcs (s.fcs.feedingFrom .feeding s.lnu.length) with hv
  have hvl : v.lead? = some (k, r) := hl
  rw [State.told_enterFeeding_near hl hplan h, State.told_enterCreeping_arrived (State.committed_noPending hvl hpend)
    (State.committed_target? hvl) h', List.append_assoc]
  unfold State.committed
  by_cases hs : p.status = .planned
  · simp only [hs, if_true]
    rfl
  · simp only [hs, if_false]
    rfl

/-! ### Waiting and pausing (R146, R156) -/

theorem State.told_enterPaused' (hp : s.noPending) (why : PauseReason) : (s.told l).enterPaused why =
    (s.withFcs (s.fcs.pausedBy why)).told (l ++ [.fcsState s.fcs.state .paused (some why) s.lnu.length s.target?]) :=
  State.told_enterPaused hp l why

theorem State.planNonempty_of_target? (ht : s.target? = some t) : s.planNonempty = true := by simp [State.planNonempty, ht]

theorem State.planNonempty_of_none (ht : s.target? = none) : s.planNonempty = false := by simp [State.planNonempty, ht]

theorem State.told_enterWaiting_empty (hp : s.noPending) (ht : s.target? = none) : (s.told l).enterWaiting =
    (s.withFcs (s.fcs.resting .waiting)).told (l ++ [.fcsState s.fcs.state .waiting none s.lnu.length none]) := by
  have henter : (s.told l).enterStop .waiting none = (s.withFcs (s.fcs.resting .waiting)).told
      (l ++ [.fcsState s.fcs.state .waiting none s.lnu.length none]) := by
    rw [State.told_enterStop hp, ht]
    rfl
  rw [State.enterWaiting, henter, if_neg (by simp [State.planNonempty, ht])]

theorem State.passOutstanding_iff : s.passOutstanding = true ↔ s.bke.inFlight ≠ none ∨ s.bke.flag = true := by
  simp [State.passOutstanding, Option.isSome_iff_ne_none]

theorem State.passOutstanding_told : (s.told l).passOutstanding = s.passOutstanding := by
  rw [State.passOutstanding, State.told_bke]
  rfl

theorem State.told_awaitPlan_waits (hp : s.noPending) (ht : s.target? = none) (ho : s.bke.inFlight ≠ none ∨ s.bke.flag = true) :
    (s.told l).awaitPlan = (s.withFcs (s.fcs.resting .waiting)).told
      (l ++ [.fcsState s.fcs.state .waiting none s.lnu.length none]) := by
  rw [State.awaitPlan, if_pos (State.passOutstanding_told.trans (State.passOutstanding_iff.mpr ho)),
    State.told_enterWaiting_empty hp ht]

theorem State.told_awaitPlan_done (hp : s.noPending) (ht : s.target? = none) (h1 : s.bke.inFlight = none)
    (h2 : s.bke.flag = false) : (s.told l).awaitPlan = (s.withFcs (s.fcs.pausedBy .planDone)).told
      (l ++ [.fcsState s.fcs.state .paused (some .planDone) s.lnu.length none]) := by
  have hno : s.passOutstanding = false := by simp [State.passOutstanding, h1, h2]
  rw [State.awaitPlan, if_neg (by rw [State.passOutstanding_told, hno]; decide), State.told_enterPaused' hp, ht]

/-! ### Cuts (R151, R152) -/

theorem State.told_startCut (kind : CutKind) : (s.told l).startCut kind = (s.withFcs (s.fcs.cuts kind)).told
    (l ++ [.fcsState s.fcs.state .cutting none s.lnu.length s.target?]) := by
  have hcomm : ({ s.told l with fcs.cutKind := some kind, fcs.stopped := false } : State) =
      State.told { s with fcs.cutKind := some kind, fcs.stopped := false } l :=
    State.told_comm s l (g := fun s => { s with fcs.cutKind := some kind, fcs.stopped := false }) fun _ _ => rfl
  rw [State.startCut, hcomm, State.told_enter]
  rfl

end Feeding

/-! ### FEED in PAUSED (R145) -/

/-- Settles O35: FEED in PAUSED by the saw, the plan and the outstanding pass. -/
theorem feedResumes : Obligations.FeedResumes := by
  intro s tag k r hb hst hl hr hpend hnd run len slow
  have run_of {t : State} {a : Answer} (h : feedInPaused s = (t, a)) : run = .next (t.answered 49 tag a) := by
    refine exec_idle_of (r := .feed) rfl hb ?_
    show answerFeed s = _
    rw [answerFeed, hst]
    exact h
  have hp := State.noPending_of_lead? hl hpend
  have htarget := State.target?_of_lead? hl
  refine ⟨fun hh => run_of ?_, fun hh hplan h1 h2 => run_of ?_, fun hh hplan ho => run_of ?_, ?_⟩
  · exact if_pos (by simp [hh])
  · rw [hplan] at htarget
    rw [feedInPaused, if_neg (by simp [hh]), if_neg (by simp [State.planNonempty_of_none htarget]),
      if_neg (by simp [State.passOutstanding, h1, h2])]
    rfl
  · rw [hplan] at htarget
    rw [feedInPaused, if_neg (by simp [hh]), if_neg (by simp [State.planNonempty_of_none htarget]),
      if_pos (State.passOutstanding_iff.mpr ho), ← s.told_nil, State.told_enterWaiting_empty hp htarget, hst]
    rfl
  · intro p rest hh hplan t fed crept settled piece f
    have ht : s.target? = t := State.target?_of_plan hl hplan
    have hfeed : feedInPaused s = ((s.told []).enterFeeding, .only .ok) := by
      rw [feedInPaused, if_neg (by simp [hh]), if_pos (State.planNonempty_of_target? ht)]
      rfl
    refine ⟨fun h => run_of ?_, fun h h' => run_of ?_, fun h h' => run_of ?_⟩
    · rw [hfeed, State.told_enterFeeding_far ht h, hst]
      rfl
    · rw [hfeed, State.told_enterFeeding_creeps hl hplan h h', hst]
      rfl
    · rw [hfeed, State.told_enterFeeding_settles hl hpend hplan h h', hst]
      rfl

end Sys2Proof.Machine

/-! PROOF. FEED in HOLDING (R32 to R34, R51): the lead, the members' fields, the datum, the pass and the wait. -/

namespace Sys2Proof.Machine

open Sys2Proof

/-! ### The largest butt, the earliest felled (R33) -/

section Choice

variable {α : Type} (f : α → Nat × Nat)

/-- Keeps the best so far unless the next is better. -/
def better (best : Option (Nat × Nat)) (x : α) : Option (Nat × Nat) :=
  match best with
  | some (k, top) => if top < (f x).2 then some (f x) else some (k, top)
  | none => some (f x)

theorem foldl_better_some (l before mid : List α) (x : α) (hb : ∀ y ∈ before, (f y).2 < (f x).2)
    (hm : ∀ y ∈ mid, (f y).2 ≤ (f x).2) : ∃ before' z after, before ++ x :: mid ++ l = before' ++ z :: after ∧
      (∀ y ∈ before', (f y).2 < (f z).2) ∧ (∀ y ∈ after, (f y).2 ≤ (f z).2) ∧
      l.foldl (better f) (some (f x)) = some (f z) := by
  induction l generalizing before mid x with
  | nil => exact ⟨before, x, mid, by simp, hb, hm, rfl⟩
  | cons m l ih =>
    rw [List.foldl_cons]
    by_cases h : (f x).2 < (f m).2
    · obtain ⟨before', z, after, hl, h1, h2, h3⟩ := ih (before ++ x :: mid) [] m (fun y hy => by
        obtain hy | hy := List.mem_append.mp hy
        · exact (hb y hy).trans h
        · obtain rfl | hy := List.mem_cons.mp hy
          · exact h
          · exact (hm y hy).trans_lt h) nofun
      refine ⟨before', z, after, by rw [← hl]; simp, h1, h2, ?_⟩
      rw [← h3]
      exact congrArg (List.foldl (better f) · l) (if_pos h)
    · obtain ⟨before', z, after, hl, h1, h2, h3⟩ := ih before (mid ++ [m]) x hb (fun y hy => by
        obtain hy | hy := List.mem_append.mp hy
        · exact hm y hy
        · rw [List.mem_singleton.mp hy]
          omega)
      refine ⟨before', z, after, by rw [← hl]; simp, h1, h2, ?_⟩
      rw [← h3]
      exact congrArg (List.foldl (better f) · l) (if_neg h)

/-- Of a list that is not empty the first of the greatest is kept. -/
theorem foldl_better {l : List α} (h : l ≠ []) : ∃ before z after, l = before ++ z :: after ∧
    (∀ y ∈ before, (f y).2 < (f z).2) ∧ (∀ y ∈ after, (f y).2 ≤ (f z).2) ∧
    l.foldl (better f) none = some (f z) := by
  cases l with
  | nil => exact absurd rfl h
  | cons x l => exact foldl_better_some f l [] [] x nofun nofun

end Choice

section Start

variable {s : State}

/-- The lead is the earliest felled of the largest butts. -/
theorem State.chooseLead_largest (h : s.members ≠ []) : ∃ lead before after r, s.chooseLead = some lead ∧
    s.members = before ++ (lead, r) :: after ∧ (∀ m ∈ before, m.2.butt.getD 0 < r.butt.getD 0) ∧
    ∀ m ∈ after, m.2.butt.getD 0 ≤ r.butt.getD 0 := by
  obtain ⟨before, ⟨lead, r⟩, after, hl, h1, h2, h3⟩ :=
    foldl_better (fun m : Nat × StemRecord => (m.1, m.2.butt.getD 0)) h
  refine ⟨lead, before, after, r, ?_, hl, h1, h2⟩
  have hfold : s.chooseLead = (s.members.foldl (better fun m => (m.1, m.2.butt.getD 0)) none).map fun p => p.1 := by
    unfold State.chooseLead
    congr 2
    funext best m
    rcases best with _ | ⟨j, top⟩ <;> rfl
  rw [hfold, h3]
  rfl

/-! ### The datum and the start (R34, R51) -/

theorem State.datum_eq (s : State) : s.datum = (s.restartLength s.params.profileStep).told
    (if s.lnu.source = s.sourceByContact then []
      else [.lengthSource s.lnu.source s.sourceByContact .datum 0]) := by
  have hsource (x : Int) : (s.restartLength x).lnu.source = s.sourceByContact := rfl
  unfold State.datum
  simp only [hsource]
  split
  · rfl
  · rfl

/-- The first pass of a group, once members, datum and summaries stand. -/
def State.beforePass (s : State) : State :=
  s.startMembers.datum.modifyMembers fun r => { r with lengthSummary := .atDatum s.startMembers.datum.lnu.source }

theorem State.startGroup_eq (s : State) : s.startGroup = s.beforePass.requestPass := rfl

/-- What group start makes of a member. -/
def State.startedMember (s : State) (i : Nat) (r : StemRecord) : StemRecord :=
  { s.startMember s.chooseLead i r with lengthSummary := .atDatum s.sourceByContact }

theorem State.sourceByContact_startMembers (s : State) : s.startMembers.sourceByContact = s.sourceByContact := by
  simp [State.sourceByContact]

theorem State.datum_source (s : State) : s.datum.lnu.source = s.sourceByContact := by
  rw [State.datum_eq, State.told_lnu]
  rfl

theorem State.record?_beforePass (hg : s.GroupLaw) (i : Nat) : s.beforePass.record? i =
    if i ∈ s.stb.group then (s.record? i).map (s.startedMember i) else s.record? i := by
  have hstb : s.startMembers.datum.stb = s.startMembers.stb := (State.datum_frame _).1
  have hgroup : s.startMembers.datum.stb.group = s.stb.group := by rw [hstb, (State.startMembers_stack s).1]
  have hrec : s.startMembers.record? i =
      if i ∈ s.stb.group then (s.record? i).map (s.startMember s.chooseLead i) else s.record? i :=
    State.record?_foldl_modifySlot hg.nodup (fun i => s.startMember s.chooseLead i) s i
  rw [State.beforePass, State.record?_modifyMembers (by rw [hgroup]; exact hg.nodup), hgroup, State.record?_congr hstb, hrec,
    State.datum_source, State.sourceByContact_startMembers]
  split
  · rw [Option.map_map]
    rfl
  · rfl

/-! ### The group before its first pass -/

theorem State.startedMember_fields (s : State) (i : Nat) (r : StemRecord) : s.startedMember i r = { r with
    state := .processing
    role := some (if s.chooseLead = some i then .lead else .member)
    profileStep := s.params.profileStep
    furthest := 0
    topWatch := if r.topWatch.origin = .default then
      { r.topWatch with threshold := s.defaultThreshold r.species } else r.topWatch
    lengthSummary := if s.lines.wheelContact.accepted then .wheelOnly else .rollerOnly } := by
  have hsum : SourceSummary.atDatum s.sourceByContact = if s.lines.wheelContact.accepted then .wheelOnly else .rollerOnly := by
    unfold SourceSummary.atDatum State.sourceByContact
    cases s.lines.wheelContact.accepted <;> rfl
  rw [State.startedMember, hsum, State.startMember]
  by_cases h : r.topWatch.origin = .default
  · simp [h]
  · simp [h]

theorem State.beforePass_frame (s : State) : s.beforePass.lines = s.lines ∧ s.beforePass.dsq = s.dsq ∧
    s.beforePass.atb = s.atb ∧ s.beforePass.bke = s.bke ∧ s.beforePass.fcs = s.fcs ∧ s.beforePass.params = s.params ∧
    s.beforePass.pending = s.pending ∧ s.beforePass.stb.group = s.stb.group ∧
    s.beforePass.stb.nextHandle = s.stb.nextHandle := by
  simp [State.beforePass]

theorem State.beforePass_lnu (s : State) : s.beforePass.lnu =
    ⟨0, 0, 0, 0, false, s.sourceByContact, 0, ⟨0, 0, 0, 0, 0, s.params.slipWindow⟩, 0, 0, false, false, false,
      s.params.profileStep, false, !s.lines.wheelContact.accepted⟩ := by
  have hroller : (!s.sourceByContact.usesWheel) = !s.lines.wheelContact.accepted := by
    unfold State.sourceByContact
    cases s.lines.wheelContact.accepted <;> rfl
  have hlnu : s.beforePass.lnu = s.startMembers.datum.lnu := by simp [State.beforePass]
  rw [hlnu, State.datum_eq, State.told_lnu]
  simp [State.restartLength, State.sourceByContact_startMembers, hroller]

theorem State.beforePass_hbp (s : State) : s.beforePass.hbp = (s.told (if s.lnu.source = s.sourceByContact then []
    else [.lengthSource s.lnu.source s.sourceByContact .datum 0])).hbp := by
  have hhbp : s.beforePass.hbp = s.startMembers.datum.hbp := by simp [State.beforePass]
  rw [hhbp, State.datum_eq, State.sourceByContact_startMembers, (State.startMembers_frame s).2.1]
  exact State.told_hbp (by simp) _

/-- A group at its start has a lead that is not frozen, with no plan and no pending plan. -/
theorem State.Resting.lead_beforePass (hg : s.GroupLaw) (h : s.Resting) (hne : s.stb.group ≠ []) : ∃ k r,
    s.beforePass.lead? = some (k, r) ∧ r.frozen = false ∧ r.plan = [] ∧ r.pendingPlan = none := by
  obtain ⟨hg', hw⟩ := h.started hg hne
  obtain ⟨k, r, hl, -⟩ := hw.lead? hg'
  have hl' : s.beforePass.lead? = some (k, r) := by
    rw [← hl]
    exact (State.lead?_congr (State.requestPass_frame _).2.1).symm
  refine ⟨k, r, hl', ?_⟩
  obtain ⟨hk, hr⟩ := State.mem_members.mp (State.mem_of_lead? hl')
  rw [(s.beforePass_frame).2.2.2.2.2.2.2.1] at hk
  rw [State.record?_beforePass hg, if_pos hk] at hr
  obtain ⟨q, hq, rfl⟩ := Option.map_eq_some_iff.mp hr
  obtain ⟨hrole, -, hplan, -, hheld⟩ := hg.records k q hq
  have hst := h.all k hk q hq
  have hno : q.role ≠ some .lead := fun he => by
    have := hrole.mp (by simp [he])
    simp [hst] at this
  obtain ⟨h1, h2⟩ := hplan hno
  exact ⟨(hheld (.inr hst)).1, h1, h2⟩

end Start

/-- Settles O34: FEED in HOLDING, refused or the group's start. -/
theorem feedStartsGroup : Obligations.FeedStartsGroup := by
  intro s tag hb hst hlaw run source
  obtain ⟨hg, hphase⟩ := s.stemLaw_iff.mp hlaw
  rw [hst] at hphase
  obtain ⟨hrest, hne⟩ := hphase
  have run_of {t : State} {a : Answer} (h : feedInHolding s = (t, a)) : run = .next (t.answered 49 tag a) := by
    refine exec_idle_of (r := .feed) rfl hb ?_
    show answerFeed s = _
    rw [answerFeed, hst]
    exact h
  refine ⟨fun hh => run_of (if_pos (by simp [hh])), fun hh ⟨m, hm, hbutt⟩ => run_of ?_, fun hh hbutts => ?_⟩
  · rw [feedInHolding, if_neg (by simp [hh]), if_pos (List.any_eq_true.mpr ⟨m, hm, by simp [hbutt]⟩)]
    rfl
  obtain ⟨k, r, hl, hz, hplan, hpend⟩ := hrest.lead_beforePass hg hne
  obtain ⟨lead, before, after, r₀, hchoose, hmembers, hbefore, hafter⟩ := State.chooseLead_largest (hg.members_ne hne)
  obtain ⟨hasks, hpass⟩ := s.beforePass.requestPass_asks
  set b := s.beforePass.requestPass.bke
  have hp : s.beforePass.noPending := State.noPending_of_lead? hl hpend
  have htarget : s.beforePass.target? = none := by rw [State.target?_of_lead? hl, hplan]; rfl
  obtain ⟨f1, f2, f3, f4, f5, f6, f7, f8, f9⟩ := s.beforePass_frame
  have hwait : s.startGroup.enterWaiting = (State.withFcs { s.beforePass with bke := b } (s.fcs.resting .waiting)).told
      [.fcsState .holding .waiting none 0 none] := by
    rw [State.startGroup_eq, hpass]
    refine (State.told_enterWaiting_empty (s := { s.beforePass with bke := b }) (l := []) hp htarget).trans ?_
    simp only [f5, hst, s.beforePass_lnu]
    rfl
  refine ⟨s.startGroup.enterWaiting, lead, run_of ?_, ⟨before, after, r₀, hmembers, hbefore, hafter⟩, ?_⟩
  · rw [feedInHolding, if_neg (by simp [hh]), if_neg (by simpa [Option.isNone_iff_eq_none] using fun i q hm => hbutts (i, q) hm)]
    rfl
  have hrec (i : Nat) : s.startGroup.enterWaiting.record? i =
      if i ∈ s.stb.group then (s.record? i).map (s.startedMember i) else s.record? i := by
    rw [hwait, State.told_record?]
    exact State.record?_beforePass hg i
  have hasked : BuckingEngine.Asked s.bke b := by
    have hplannable : s.beforePass.plannable?.isSome = true := by simp [State.plannable?, hl, hz]
    unfold State.Asks at hasks
    rwa [if_pos hplannable, f4] at hasks
  refine ⟨fun i q hi hq => ?_, fun i hi => ?_, ?_⟩
  · rw [hrec, if_pos hi, hq, Option.map_some, State.startedMember_fields, hchoose]
    simp only [Option.some.injEq, eq_comm (a := lead)]
  · rw [hrec, if_neg hi]
  · rw [hwait]
    simp only [State.told_stb, State.told_lnu, State.told_bke, State.told_fcs, State.told_lines, State.told_dsq,
      State.told_atb, State.told_params, State.told_pending, State.withFcs_frame, State.withFcs_fcs]
    refine ⟨f8, f9, s.beforePass_lnu, hasked, trivial, f1, f2, f3, f6, f7, ?_⟩
    rw [← State.told_told]
    refine State.told_hbp ?_ _
    exact s.beforePass_hbp

end Sys2Proof.Machine

/-! PROOF. Several records closed one after another, and the end of a group (R4, R30, R31, R40, R77, R88, R126, R159): what
the closes leave of the Stem Table, the safe point at the last PROCESSING record, and DROP and RELEASE. -/

namespace Sys2Proof.Machine

open Sys2Proof

/-! ### One close (R4, R88) -/

/-- The state with a slot's record as it stands closed, and out of the group. -/
def State.shut (s : State) (k : Nat) (r : StemRecord) (st : StemState) (why : EndReason) : State :=
  { s.setSlot k (some (r.ended st why)) with stb.group := s.stb.group.filter fun i => i != k }

/-- The notice of a close. -/
def StemRecord.closeNotice (r : StemRecord) (st : StemState) (why : EndReason) : Notice :=
  .stemClosed r.handle st why r.pieces.length r.plan.length

/-- The banks once a pending swap is applied. -/
def AssortmentTable.swapped (a : AssortmentTable) : AssortmentTable := { a with active := a.edit, swapPending := false }

/-- The notice of a swap at the safe point (R88). -/
def AssortmentTable.safeNotices (a : AssortmentTable) : List Notice :=
  [.banksSwapped .atSafePoint (Finset.univ.filter fun i : Fin 32 => a.active[i] ≠ a.edit[i]).card
    (Finset.univ.filter fun i : Fin 32 => a.edit[i].isSome).card a.lockSize]

section Close

variable {s : State} {l : List Notice} {k : Nat} {r : StemRecord} {st : StemState} {why : EndReason}

theorem State.told_closeRecord_eq (hr : s.record? k = some r) : (s.told l).closeRecord k st why =
    if r.state = .processing ∧ (s.shut k r st why).processingCount = 0 then
      ((s.shut k r st why).told (l ++ [r.closeNotice st why])).safePoint
    else (s.shut k r st why).told (l ++ [r.closeNotice st why]) := by
  have hbase : (({ s.told l with stb.group := (s.told l).stb.group.filter fun i => i != k }).setSlot k
      (some (r.closed st why))).offerNotice (r.closeNotice st why) =
        (s.shut k r st why).told (l ++ [r.closeNotice st why]) := by
    rw [State.offerNotice_eq_told, ← State.told_told]
    exact congrArg (State.told · _) (State.told_comm s l (g := fun s => s.shut k r st why) fun _ _ => rfl)
  have hcount : ((s.shut k r st why).told (l ++ [r.closeNotice st why])).processingCount = (s.shut k r st why).processingCount :=
    State.processingCount_congr (State.told_stb _ _)
  unfold State.closeRecord
  rw [State.told_record?, hr]
  simp only
  rw [← hcount, ← hbase]
  rfl

/-- A close that leaves a PROCESSING record, or that is of none, is no safe point. -/
theorem State.told_closeRecord_kept (hr : s.record? k = some r)
    (h : r.state ≠ .processing ∨ ∃ j q, j ≠ k ∧ s.record? j = some q ∧ q.state = .processing) :
    (s.told l).closeRecord k st why = (s.shut k r st why).told (l ++ [r.closeNotice st why]) := by
  rw [State.told_closeRecord_eq hr, if_neg]
  rintro ⟨hst, hcount⟩
  obtain h | ⟨j, q, hj, hq, hqst⟩ := h
  · exact h hst
  · refine (State.processingCount_eq_zero _).mp hcount j q ?_ hqst
    exact (State.record?_setSlot (State.record?_lt hr) _ j).trans ((if_neg hj).trans hq)

theorem State.told_safePoint : (s.told l).safePoint = if s.atb.swapPending then
    State.told { s with atb := s.atb.swapped } (l ++ s.atb.safeNotices) else s.told l := by
  have hdiff := bankDifferences_eq 32 s.atb.active s.atb.edit
  simp only [Fin.is_lt, true_and] at hdiff
  rw [State.safePoint, State.told_atb]
  split
  · rw [State.applySwap, State.told_atb, hdiff, Bank.defined_eq, State.offerNotice_eq_told, ← State.told_told]
    have hcomm := State.told_comm s l (g := fun s => { s with atb := s.atb.swapped }) fun _ _ => rfl
    rw [State.told_atb] at hcomm
    exact congrArg (State.told · _) hcomm
  · rfl

/-- The close of the last PROCESSING record is the safe point. -/
theorem State.told_closeRecord_last (hr : s.record? k = some r) (hp : r.state = .processing)
    (hst : st.ends = true) (h : ∀ j q, j ≠ k → s.record? j = some q → q.state ≠ .processing) :
    (s.told l).closeRecord k st why = if s.atb.swapPending then
      State.told { s.shut k r st why with atb := s.atb.swapped } (l ++ [r.closeNotice st why] ++ s.atb.safeNotices)
    else (s.shut k r st why).told (l ++ [r.closeNotice st why]) := by
  have hcount : (s.shut k r st why).processingCount = 0 := by
    refine (State.processingCount_eq_zero _).mpr fun j q hq hqst => ?_
    have hrec : (s.shut k r st why).record? j = if j = k then some (r.ended st why) else s.record? j :=
      State.record?_setSlot (State.record?_lt hr) _ j
    rw [hrec] at hq
    split at hq
    · cases hq
      have : st = .processing := hqst
      simp [this, StemState.ends] at hst
    · exact h j q ‹_› hq hqst
  rw [State.told_closeRecord_eq hr, if_pos ⟨hp, hcount⟩, State.told_safePoint]
  rfl

end Close

/-! ### Several closes (R4) -/

/-- What closes of the records in a list of slots leave of the Stem Table. -/
structure State.Shuts (s : State) (l : List Nat) (st : StemRecord → StemState) (why : EndReason) (t : State) : Prop where
  group : t.stb.group = s.stb.group.filter (· ∉ l)
  nextHandle : t.stb.nextHandle = s.stb.nextHandle
  records : ∀ i, t.record? i = if i ∈ l then (s.record? i).map fun r => r.ended (st r) why else s.record? i

/-- The notices of these closes. -/
def State.closeNotices (s : State) (l : List Nat) (st : StemRecord → StemState) (why : EndReason) : List Notice :=
  l.filterMap fun i => (s.record? i).map fun r => r.closeNotice (st r) why

section CloseAll

variable {s t u : State} {st : StemRecord → StemState} {why : EndReason}

theorem State.Shuts.nil : s.Shuts [] st why s := ⟨by simp, rfl, fun i => by simp⟩

theorem State.Shuts.shut {k : Nat} {r : StemRecord} (hr : s.record? k = some r) : s.Shuts [k] st why (s.shut k r (st r) why) := by
  refine ⟨List.filter_congr fun i _ => by simp [bne, Bool.beq_eq_decide_eq], rfl, fun i => ?_⟩
  refine (State.record?_setSlot (State.record?_lt hr) _ i).trans ?_
  by_cases hi : i = k
  · simp [hi, hr]
  · simp [hi]

theorem State.Shuts.append {l m : List Nat} (h : s.Shuts l st why t) (h' : t.Shuts m st why u) (hd : ∀ i ∈ m, i ∉ l) :
    s.Shuts (l ++ m) st why u := by
  refine ⟨?_, h'.nextHandle.trans h.nextHandle, fun i => ?_⟩
  · rw [h'.group, h.group, List.filter_filter]
    exact List.filter_congr fun i _ => by simp [Bool.and_comm]
  · rw [h'.records, h.records]
    by_cases hm : i ∈ m
    · simp [hm, hd i hm]
    · simp [hm]

/-- What leaves the Stem Table adds nothing. -/
theorem State.Shuts.congr {l : List Nat} (h : s.Shuts l st why t) (he : u.stb = t.stb) : s.Shuts l st why u :=
  ⟨he ▸ h.group, he ▸ h.nextHandle, fun i => (State.record?_congr he i).trans (h.records i)⟩

/-- Closes that leave a PROCESSING record, or that are of none, are no safe point. -/
theorem State.told_closeAll_kept (l : List Nat) (hl : l.Nodup) (hrec : ∀ i ∈ l, (s.record? i).isSome)
    (hsafe : (∀ i ∈ l, ∀ r, s.record? i = some r → r.state ≠ .processing) ∨
      ∃ j q, j ∉ l ∧ s.record? j = some q ∧ q.state = .processing) (n : List Notice) :
    ∃ T, s.Shuts l st why { s with stb := T } ∧
      (s.told n).closeAll l st why = State.told { s with stb := T } (n ++ s.closeNotices l st why) := by
  induction l generalizing s n with
  | nil => exact ⟨s.stb, .nil, by simp [State.closeAll, State.closeNotices]⟩
  | cons k l ih =>
    obtain ⟨hk, hl⟩ := List.nodup_cons.mp hl
    obtain ⟨r, hr⟩ := Option.isSome_iff_exists.mp (hrec k List.mem_cons_self)
    have hshut : s.Shuts [k] st why (s.shut k r (st r) why) := .shut hr
    have hothers (i : Nat) (hi : i ≠ k) : (s.shut k r (st r) why).record? i = s.record? i := by
      rw [hshut.records, if_neg (by simpa using hi)]
    have hne (i : Nat) (hi : i ∈ l) : i ≠ k := fun he => hk (he ▸ hi)
    have hone : (s.told n).closeRecord k (st r) why = (s.shut k r (st r) why).told (n ++ [r.closeNotice (st r) why]) := by
      refine State.told_closeRecord_kept hr ?_
      obtain h | ⟨j, q, hj, hq, hqst⟩ := hsafe
      · exact .inl (h k List.mem_cons_self r hr)
      · exact .inr ⟨j, q, fun he => hj (he ▸ List.mem_cons_self), hq, hqst⟩
    obtain ⟨T, hT, heq⟩ := ih (s := s.shut k r (st r) why) hl (fun i hi => by
      rw [hothers i (hne i hi)]
      exact hrec i (List.mem_cons_of_mem _ hi)) (by
      obtain h | ⟨j, q, hj, hq, hqst⟩ := hsafe
      · exact .inl fun i hi q hq => h i (List.mem_cons_of_mem _ hi) q (hothers i (hne i hi) ▸ hq)
      · refine .inr ⟨j, q, fun hm => hj (List.mem_cons_of_mem _ hm), ?_, hqst⟩
        rw [hothers j fun he => hj (he ▸ List.mem_cons_self), hq]) (n ++ [r.closeNotice (st r) why])
    refine ⟨T, (hshut.append hT fun i hi => by simpa using hne i hi).congr rfl, ?_⟩
    have hnotices : s.closeNotices (k :: l) st why =
        r.closeNotice (st r) why :: (s.shut k r (st r) why).closeNotices l st why := by
      unfold State.closeNotices
      rw [List.filterMap_cons, hr]
      exact congrArg _ (List.filterMap_congr fun i hi => by rw [hothers i (hne i hi)])
    have hstep : (s.told n).closeAll (k :: l) st why = ((s.told n).closeRecord k (st r) why).closeAll l st why := by
      rw [State.closeAll, List.foldl_cons, State.told_record?, hr]
      rfl
    rw [hstep, hone, heq, hnotices, List.append_assoc]
    rfl

/-- The banks after the end of a PROCESSING group. -/
def AssortmentTable.settled (a : AssortmentTable) : AssortmentTable := if a.swapPending then a.swapped else a

/-- What the end of a PROCESSING group tells of the banks. -/
def AssortmentTable.endNotices (a : AssortmentTable) : List Notice := if a.swapPending then a.safeNotices else []

/-- The close of a whole PROCESSING group ends in the safe point. -/
theorem State.GroupLaw.told_closeGroup (hg : s.GroupLaw) (hall : s.groupAll .processing) (hne : s.stb.group ≠ [])
    (hst : ∀ r, (st r).ends = true) (n : List Notice) : ∃ T, s.Shuts s.stb.group st why { s with stb := T } ∧
      (s.told n).closeAll s.stb.group st why = State.told { s with stb := T, atb := s.atb.settled }
        (n ++ (s.closeNotices s.stb.group st why ++ s.atb.endNotices)) := by
  obtain ⟨init, last, hgroup⟩ : ∃ init last, s.stb.group = init ++ [last] :=
    ⟨_, _, (List.dropLast_append_getLast hne).symm⟩
  have hnodup := hg.nodup
  rw [hgroup] at hnodup
  obtain ⟨hinit, -, hdisj⟩ := List.nodup_append.mp hnodup
  have hlast : last ∉ init := fun h => hdisj last h last (List.mem_singleton_self _) rfl
  have hmem (i : Nat) (hi : i ∈ s.stb.group) : ∃ r, s.record? i = some r ∧ r.state = .processing := by
    obtain ⟨r, hr, -⟩ := (hg.mem i).mp hi
    exact ⟨r, hr, hall i hi r hr⟩
  obtain ⟨r, hr, hp⟩ := hmem last (by simp [hgroup])
  obtain ⟨T, hT, heq⟩ := s.told_closeAll_kept (st := st) (why := why) init hinit (fun i hi => by
    obtain ⟨q, hq, -⟩ := hmem i (by simp [hgroup, hi])
    simp [hq]) (.inr ⟨last, r, hlast, hr, hp⟩) n
  set u : State := { s with stb := T } with hu
  have hru : u.record? last = some r := by rw [hT.records, if_neg hlast, hr]
  have hend := State.told_closeRecord_last (l := n ++ s.closeNotices init st why) (why := why) hru hp (hst r)
    fun j q hj hq hqst => by
      rw [hT.records] at hq
      split at hq
      · obtain ⟨p, -, rfl⟩ := Option.map_eq_some_iff.mp hq
        have : st p = .processing := hqst
        simpa [this, StemState.ends] using hst p
      · next hji =>
        have hmemj : j ∈ s.stb.group := (hg.mem j).mpr ⟨q, hq, .inr hqst⟩
        simp [hgroup, hji, hj] at hmemj
  have hshuts : s.Shuts s.stb.group st why (u.shut last r (st r) why) := by
    rw [hgroup]
    exact hT.append (.shut hru) fun i hi => by simpa [List.mem_singleton.mp hi] using hlast
  have hstep : (s.told n).closeAll s.stb.group st why = ((s.told n).closeAll init st why).closeRecord last (st r) why := by
    rw [hgroup, State.closeAll, List.foldl_append, ← State.closeAll, ← State.closeAll, heq]
    simp [State.closeAll, hru]
  have hnotices : s.closeNotices s.stb.group st why = s.closeNotices init st why ++ [r.closeNotice (st r) why] := by
    rw [hgroup, State.closeNotices, List.filterMap_append]
    simp [hr, State.closeNotices]
  refine ⟨(u.shut last r (st r) why).stb, hshuts.congr rfl, ?_⟩
  rw [hstep, heq, hend, hnotices, AssortmentTable.settled, AssortmentTable.endNotices]
  by_cases hswap : s.atb.swapPending = true
  · rw [if_pos hswap, if_pos hswap, if_pos hswap]
    simp only [List.append_assoc]
    rfl
  · rw [if_neg hswap, if_neg hswap, if_neg hswap]
    simp only [List.append_assoc, List.append_nil]
    rfl

/-- A group that is not PROCESSING is closed by itself. -/
theorem State.GroupLaw.told_closeHeld (hg : s.GroupLaw) (hall : s.groupAll .held) (n : List Notice) :
    ∃ T, s.Shuts s.stb.group st why { s with stb := T } ∧
      (s.told n).closeAll s.stb.group st why = State.told { s with stb := T } (n ++ s.closeNotices s.stb.group st why) :=
  s.told_closeAll_kept _ hg.nodup (fun i hi => by
    obtain ⟨q, hq, -⟩ := (hg.mem i).mp hi
    simp [hq]) (.inl fun i hi r hr => by simp [hall i hi r hr]) n

end CloseAll

/-! ### What a group end tells its neighbours (R40, R77, R126) -/

/-- The Diameter Sequencer once a FEED request is cancelled (R77). -/
def DiameterSequencer.cancelled (d : DiameterSequencer) (p : Parameters) : DiameterSequencer :=
  if d.stateNumber = 1 then DiameterSequencer.freed { d with feedPending := none } p else { d with feedPending := none }

section Ends

variable (s : State) (l : List Notice)

theorem State.cancelFeed_eq : s.cancelFeed = { s with dsq := s.dsq.cancelled s.params } := by
  unfold State.cancelFeed DiameterSequencer.cancelled
  simp only
  split
  · exact State.arbitrate_freed { s with dsq.feedPending := none }
  · rfl

theorem State.told_cancelFeed : (s.told l).cancelFeed = State.told { s with dsq := s.dsq.cancelled s.params } l := by
  have hcomm := State.told_comm s l (g := fun s => { s with dsq := s.dsq.cancelled s.params }) fun _ _ => rfl
  rw [State.cancelFeed_eq]
  exact hcomm

theorem State.told_voidPass : (s.told l).voidPass = s.voidPass.told l := State.told_comm s l (g := State.voidPass) fun _ _ => rfl

/-- IDLE, with nothing of a piece or a cut left (R159). -/
theorem State.told_enterIdle : (s.told l).enterIdle = (s.withFcs
    { s.fcs.resting .idle with stopped := false, reversals := 0, overshoot := false }).told
      (l ++ [.fcsState s.fcs.state .idle none s.lnu.length s.target?]) := by
  have hcomm : (s.told l).clearCutItems = s.clearCutItems.told l := State.told_comm s l (g := State.clearCutItems) fun _ _ => rfl
  rw [State.enterIdle, hcomm, State.told_enter]
  rfl

/-- An empty group is not PROCESSING and has no target. -/
theorem State.target?_of_empty {s : State} (h : s.stb.group = []) : s.target? = none := by
  refine State.target?_eq_none ?_
  simp [State.groupState, State.members, h]

theorem State.told_enterIdle_empty {s : State} (h : s.stb.group = []) (l : List Notice) : (s.told l).enterIdle = (s.withFcs
    { s.fcs.resting .idle with stopped := false, reversals := 0, overshoot := false }).told
      (l ++ [.fcsState s.fcs.state .idle none s.lnu.length none]) := by
  rw [State.told_enterIdle, State.target?_of_empty h]

end Ends

/-! ### DROP and RELEASE (R30, R31, R159) -/

section Release

variable {s : State}

theorem State.closeNotices_members (s : State) (st : StemRecord → StemState) (why : EndReason) :
    s.closeNotices s.stb.group st why = s.members.map fun m => m.2.closeNotice (st m.2) why := by
  rw [State.closeNotices, State.members, List.map_filterMap]
  exact List.filterMap_congr fun i _ => by cases s.record? i <;> rfl

theorem StemRecord.releaseState_eq (r : StemRecord) : r.releaseState = if r.pieces = [] then .abandoned else .closed := by
  unfold StemRecord.releaseState
  cases r.pieces <;> rfl

/-- The release of a group that is not PROCESSING. -/
theorem State.Resting.release_eq (hg : s.GroupLaw) (h : s.Resting) : ∃ T,
    s.Shuts s.stb.group StemRecord.releaseState .released { s with stb := T } ∧
      s.release = (State.withFcs { s with stb := T }
        { s.fcs.resting .idle with stopped := false, reversals := 0, overshoot := false }).told
          (s.closeNotices s.stb.group StemRecord.releaseState .released ++
            [.fcsState s.fcs.state .idle none s.lnu.length none]) := by
  obtain ⟨T, hT, heq⟩ := hg.told_closeHeld (st := StemRecord.releaseState) (why := .released) h.all []
  refine ⟨T, hT, ?_⟩
  have hgs := State.groupState_ne_of_held h.all
  have hrel : s.releaseGroup = State.told { s with stb := T } (s.closeNotices s.stb.group StemRecord.releaseState .released) :=
    heq
  have hempty : ({ s with stb := T } : State).stb.group = [] := by
    rw [hT.group]
    simp
  unfold State.release
  simp only
  rw [if_neg hgs, hrel, State.told_enterIdle_empty hempty]

/-- The release of a PROCESSING group, whose end its neighbours are told. -/
theorem State.Working.release_eq (hg : s.GroupLaw) (h : s.Working) : ∃ T,
    s.Shuts s.stb.group StemRecord.releaseState .released { s with stb := T } ∧
      s.release = (State.withFcs { s.voidPass with stb := T, atb := s.atb.settled, dsq := s.dsq.cancelled s.params }
        { s.fcs.resting .idle with stopped := false, reversals := 0, overshoot := false }).told
          (s.closeNotices s.stb.group StemRecord.releaseState .released ++ s.atb.endNotices ++
            [.fcsState s.fcs.state .idle none s.lnu.length none]) := by
  obtain ⟨T, hT, heq⟩ := hg.told_closeGroup (st := StemRecord.releaseState) (why := .released) h.all h.nonempty
    State.Stems.releaseState_ends []
  refine ⟨T, hT, ?_⟩
  have hgs := hg.groupState_processing h.nonempty h.all
  have hrel : s.releaseGroup = State.told { s with stb := T, atb := s.atb.settled }
      (s.closeNotices s.stb.group StemRecord.releaseState .released ++ s.atb.endNotices) := heq
  have hempty : ({ s.voidPass with stb := T, atb := s.atb.settled, dsq := s.dsq.cancelled s.params } : State).stb.group = [] :=
    hT.group.trans (by simp)
  unfold State.release
  simp only
  rw [if_pos hgs, hrel, State.told_cancelFeed, State.told_voidPass]
  exact State.told_enterIdle_empty (s := { s.voidPass with stb := T, atb := s.atb.settled, dsq := s.dsq.cancelled s.params })
    hempty _

/-- The drop of the top record of a HELD group. -/
theorem State.dropTop_eq (hg : s.GroupLaw) (h : s.Resting) (hst : s.fcs.state = .holding) {rest : List Nat} {k : Nat}
    {r : StemRecord} (hgroup : s.stb.group = rest ++ [k]) (hr : s.record? k = some r) :
    s.dropTop = State.told
      { s.setSlot k (some (r.ended .abandoned .dropped)) with
        stb.group := rest, fcs := if rest = [] then s.fcs.resting .idle else s.fcs }
      (.stemClosed r.handle .abandoned .dropped 0 0 ::
        if rest = [] then [.fcsState .holding .idle none s.lnu.length none] else []) := by
  have hheld : r.state = .held := h.all k (by simp [hgroup]) r hr
  obtain ⟨hplan, hpieces⟩ := (hg.records k r hr).fresh (.inr hheld)
  have hnodup := hg.nodup
  rw [hgroup] at hnodup
  have hk : k ∉ rest := fun hm => (List.nodup_append.mp hnodup).2.2 k hm k (List.mem_singleton_self _) rfl
  have hfilter : (s.stb.group.filter fun i => i != k) = rest := by
    rw [hgroup, List.filter_append, List.filter_eq_self.mpr fun i hi => by simpa using fun he : i = k => hk (he ▸ hi)]
    simp
  have hclose : s.closeRecord k .abandoned .dropped =
      State.told { s.setSlot k (some (r.ended .abandoned .dropped)) with stb.group := rest }
        [.stemClosed r.handle .abandoned .dropped 0 0] := by
    rw [State.closeRecord_resting hr (by simp [hheld]), hfilter, hplan, hpieces]
    rfl
  have hlast : s.stb.group.getLast? = some k := by simp [hgroup]
  unfold State.dropTop
  rw [hlast]
  simp only
  rw [hclose]
  by_cases hempty : rest = []
  · rw [if_pos (by simp [hempty]), if_pos hempty, if_pos hempty, State.told_enter,
      State.target?_of_empty (s := { s.setSlot k (some (r.ended .abandoned .dropped)) with stb.group := rest }) hempty]
    simp only [State.setSlot_frame, hst]
    rfl
  · rw [if_neg (by simpa using hempty), if_neg hempty, if_neg hempty]
    rfl

end Release

/-- Settles O38: DROP of the top record, and RELEASE by the state of the group. -/
theorem dropAndRelease : Obligations.DropAndRelease := by
  intro s tag hb hlaw len
  obtain ⟨hg, hphase⟩ := s.stemLaw_iff.mp hlaw
  refine ⟨fun rest k r hst hgroup hr => exec_idle_of (r := .drop) rfl hb ?_, fun hst => ⟨s.release, ?_, ?_⟩⟩
  · rw [hst] at hphase
    refine (if_pos hst).trans ?_
    rw [State.dropTop_eq hg hphase.1 hst hgroup hr]
    rfl
  · refine exec_idle_of (r := .release) rfl hb ?_
    show answerRelease s = _
    unfold answerRelease
    rcases hst with h | h | h | h <;> rw [h] <;> rfl
  · intro ends swaps state
    have hstate : (fun r : StemRecord => state r) = StemRecord.releaseState := funext fun r => r.releaseState_eq.symm
    have hnotices : (s.members.map fun m => Notice.stemClosed m.2.handle (state m.2) .released m.2.pieces.length m.2.plan.length) =
        s.closeNotices s.stb.group StemRecord.releaseState .released := by
      rw [State.closeNotices_members, ← hstate]
      rfl
    rw [hnotices]
    by_cases hhold : s.fcs.state = .holding
    · rw [hhold] at hphase
      obtain ⟨T, hT, heq⟩ := State.Resting.release_eq hg hphase.1
      have hends : ¬ends := fun h => h hhold
      have hswaps : ¬swaps := fun h => hends h.1
      rw [heq]
      simp only [State.told_stb, State.told_lnu, State.told_bke, State.told_fcs, State.told_lines, State.told_dsq,
        State.told_atb, State.told_params, State.told_pending, State.told_record?, State.withFcs_frame, State.withFcs_fcs,
        if_neg hends, if_neg hswaps]
      refine ⟨fun i r hi hr => ?_, fun i hi => ?_, hT.group.trans (by simp), hT.nextHandle, trivial, trivial, trivial,
        fun _ => trivial, fun h => absurd h hends, fun h => absurd h hends, trivial, trivial, trivial, trivial, ?_⟩
      · refine (hT.records i).trans ?_
        rw [if_pos hi, hr, ← hstate]
        rfl
      · exact (hT.records i).trans (if_neg hi)
      · rw [List.append_nil]
        refine State.told_hbp ?_ _
        rfl
    · have hw : s.Working := by
        obtain h | h | h | h := hst
        · exact absurd h hhold
        all_goals
          rw [h] at hphase
          exact hphase
      obtain ⟨T, hT, heq⟩ := hw.release_eq hg
      have hswaps : swaps ↔ s.atb.swapPending = true := ⟨fun h => h.2, fun h => ⟨hhold, h⟩⟩
      rw [heq]
      simp only [State.told_stb, State.told_lnu, State.told_bke, State.told_fcs, State.told_lines, State.told_dsq,
        State.told_atb, State.told_params, State.told_pending, State.told_record?, State.withFcs_frame, State.withFcs_fcs,
        if_pos (show ends from hhold), hswaps]
      refine ⟨fun i r hi hr => ?_, fun i hi => ?_, hT.group.trans (by simp), hT.nextHandle, trivial, rfl, rfl,
        fun h => absurd hhold h, fun _ h => if_neg h, fun _ h => if_pos h, rfl, rfl, rfl, rfl, ?_⟩
      · refine (hT.records i).trans ?_
        rw [if_pos hi, hr, ← hstate]
        rfl
      · exact (hT.records i).trans (if_neg hi)
      · refine State.told_hbp ?_ _
        rfl

end Sys2Proof.Machine

/-! PROOF. The saw's home switch, the halt line and the timers (R144, R149, R151, R154, R156, R158, R161, R162, R164), with no
pending plan. -/

namespace Sys2Proof.Machine

open Sys2Proof

section Sequencer

variable {s : State} {l : List Notice} {t : Int}

/-! ### The end of the saw's return (R156) -/

theorem State.told_endSawReturn_feeds (hs : s.fcs.stopped = false) (ht : s.target? = some t)
    (h : s.lnu.length < t - s.params.slowDistance) : (s.told l).endSawReturn =
      (s.withFcs (s.fcs.feedingFrom .feeding s.lnu.length)).told
        (l ++ [.fcsState s.fcs.state .feeding none s.lnu.length (some t)]) := by
  have hplan : (s.told l).planNonempty = true := State.planNonempty_of_target? (t := t) (by simpa using ht)
  rw [State.endSawReturn, if_neg (by simp [hs]), if_pos hplan, State.told_enterFeeding_far ht h]

theorem State.told_endSawReturn_empty (hs : s.fcs.stopped = false) (ht : s.target? = none) :
    (s.told l).endSawReturn = (s.told l).awaitPlan := by
  have hplan : (s.told l).planNonempty = false := State.planNonempty_of_none (by simpa using ht)
  rw [State.endSawReturn, if_neg (by simp [hs]), if_neg (by simp [hplan])]

end Sequencer

/-- Settles O51: the saw comes home, by the plan and the outstanding pass. -/
theorem sawHomeEndsReturn : Obligations.SawHomeEndsReturn := by
  intro s hp run len home
  have hp' : home.noPending := hp
  refine ⟨rfl, fun h => ?_, fun h => ?_⟩
  · have hsame : home.sawHomeAsserts = home := by
      unfold State.sawHomeAsserts
      cases hst : home.fcs.state
      case sawReturn => exact absurd hst h
      all_goals rfl
    show Host.Outcome.next (home.sawHomeAsserts).transmit = _
    rw [hsame]
  · have hrun : run = .next ((home.told []).endSawReturn).transmit := by
      show Host.Outcome.next (home.sawHomeAsserts).transmit = _
      rw [State.sawHomeAsserts, show home.fcs.state = .sawReturn from h]
      rfl
    refine ⟨fun hs => ?_, fun t hs ht hlen => ?_, fun hs ht ho => ?_, fun hs ht h1 h2 => ?_⟩
    · rw [hrun, State.endSawReturn_stopped (s := home) hs hp', show home.fcs.state = .sawReturn from h]
      rfl
    · rw [hrun, State.told_endSawReturn_feeds (s := home) hs ht hlen, show home.fcs.state = .sawReturn from h]
      rfl
    · rw [hrun, State.told_endSawReturn_empty (s := home) hs ht, State.told_awaitPlan_waits hp' ht ho,
        show home.fcs.state = .sawReturn from h]
      rfl
    · rw [hrun, State.told_endSawReturn_empty (s := home) hs ht, State.told_awaitPlan_done hp' ht h1 h2,
        show home.fcs.state = .sawReturn from h]
      rfl

/-! ### The halt line (R161, R162) -/

/-- HALTED, with no stopped mark. -/
theorem State.told_halts (s : State) (l : List Notice) : State.enter { s.told l with fcs.stopped := false } .halted =
    (s.withFcs { s.fcs.resting .halted with stopped := false }).told
      (l ++ [.fcsState s.fcs.state .halted none s.lnu.length s.target?]) := by
  have hcomm : ({ s.told l with fcs.stopped := false } : State) = State.told { s with fcs.stopped := false } l :=
    State.told_comm s l (g := fun s => { s with fcs.stopped := false }) fun _ _ => rfl
  rw [hcomm, State.told_enter]
  rfl

theorem SeqState.resting_of {st : SeqState} (h : st = .idle ∨ st = .holding) :
    st ∉ [.felling, .feeding, .creeping, .settling, .reversing, .cutting, .sawReturn, .paused] := by
  rcases h with rfl | rfl <;> decide

/-- Settles O52: the halt line, asserted and released. -/
theorem haltLine : Obligations.HaltLine := by
  intro s hlaw len low high halted
  obtain ⟨hg, hphase⟩ := s.stemLaw_iff.mp hlaw
  have hlow (h : s.lines.halt.accepted = false) : exec .haltAsserted s = .next low.haltAsserts.transmit := by
    show execHaltAsserted s = _
    rw [execHaltAsserted, if_neg (by simp [h])]
    rfl
  have hhigh (h : s.lines.halt.accepted = true) : exec .haltReleased s = .next high.haltReleases.transmit := by
    show execHaltReleased s = _
    rw [execHaltReleased, if_pos h]
    rfl
  refine ⟨fun h => if_pos h, fun h hst => ?_, fun k r h hst hr hrst => ?_, fun h => if_neg (by simp [h]), fun h => ⟨fun hgs hp => ?_,
    fun hgs => ?_, fun hgs => ?_⟩⟩
  · rw [hlow h, State.haltAsserts]
    simp only
    rw [if_neg (by exact hst)]
    exact congrArg (fun t : State => Host.Outcome.next t.transmit) (State.told_halts low [])
  · rw [hst] at hphase
    have hg' : low.GroupLaw := ⟨hg.records, hg.nodup, hg.size, hg.mem⟩
    have hf' : low.Felling := ⟨hphase.one, hphase.all, hphase.room⟩
    rw [hlow h, State.haltAsserts]
    simp only
    rw [if_pos (by exact hst), State.Felling.abandonFelling_eq hg' hf' hr hrst]
    refine congrArg (fun t : State => Host.Outcome.next t.transmit) ((State.told_halts _ _).trans ?_)
    rw [State.target?_eq_none (State.Felling.groupState_ended hf' hr hrst _), (State.setSlot_frame low k _).2.2.2.2.2.2.1,
      show low.fcs.state = .felling from hst]
    rfl
  · rw [hhigh h, State.haltReleases, show high.groupState = .processing from hgs]
    refine congrArg (fun t : State => Host.Outcome.next t.transmit) ?_
    exact State.told_enterPaused' (s := high) (l := []) hp _
  · rw [hhigh h, State.haltReleases, show high.groupState = .held from hgs]
    refine congrArg (fun t : State => Host.Outcome.next t.transmit) ?_
    refine (State.enter_of_target (s := high) (State.target?_eq_none (by simp [show high.groupState = .held from hgs])) _).trans ?_
    rw [State.moveTo_resting _ _ (SeqState.resting_of (.inr rfl))]
  · rw [hhigh h, State.haltReleases, show high.groupState = .empty from hgs]
    refine congrArg (fun t : State => Host.Outcome.next t.transmit) ?_
    refine (State.enter_of_target (s := high) (State.target?_eq_none (by simp [show high.groupState = .empty from hgs])) _).trans ?_
    rw [State.moveTo_resting _ _ (SeqState.resting_of (.inl rfl))]

/-! ### The timers (R144, R149, R151, R154, R156, R158) -/

section Timers

variable {s : State} {l : List Notice} {t : Int} {k : Nat} {r : StemRecord}

/-- The notice of the entry into AT_TARGET. -/
def State.atTargetNotice (s : State) (t : Int) : Notice := .fcsState s.fcs.state .atTarget none s.lnu.length (some t)

theorem State.told_enterStop_atTarget (hp : s.noPending) (ht : s.target? = some t) : (s.told l).enterStop .atTarget none =
    (s.withFcs (s.fcs.resting .atTarget)).told (l ++ [s.atTargetNotice t]) := by
  rw [State.told_enterStop hp, ht, State.moveTo_resting _ _ (by decide)]
  rfl

theorem State.told_enterAtTarget_rests (hp : s.noPending) (ht : s.target? = some t) (ha : s.params.autoCut = false) :
    (s.told l).enterAtTarget = (s.withFcs (s.fcs.resting .atTarget)).told (l ++ [s.atTargetNotice t]) := by
  rw [State.enterAtTarget, State.told_enterStop_atTarget hp ht]
  exact if_neg (by simpa using ha)

theorem State.told_enterAtTarget_cuts (hp : s.noPending) (ht : s.target? = some t) (ha : s.params.autoCut = true)
    (hh : s.lines.sawHome.accepted = true) : (s.told l).enterAtTarget = (s.withFcs (s.fcs.cuts .planned)).told
      (l ++ [s.atTargetNotice t, .fcsState .atTarget .cutting none s.lnu.length (some t)]) := by
  have hcut := State.told_startCut (s := s.withFcs (s.fcs.resting .atTarget)) (l := l ++ [s.atTargetNotice t]) .planned
  rw [State.withFcs_target?, ht] at hcut
  rw [State.enterAtTarget, State.told_enterStop_atTarget hp ht]
  refine (if_pos (by simpa using ha)).trans ((if_pos (by simpa using hh)).trans (hcut.trans ?_))
  rw [List.append_assoc]
  rfl

theorem State.told_enterAtTarget_pauses (hp : s.noPending) (ht : s.target? = some t) (ha : s.params.autoCut = true)
    (hh : s.lines.sawHome.accepted = false) : (s.told l).enterAtTarget = (s.withFcs (s.fcs.pausedBy .sawNotHome)).told
      (l ++ [s.atTargetNotice t, .fcsState .atTarget .paused (some .sawNotHome) s.lnu.length (some t)]) := by
  have hpause := State.told_enterPaused' (s := s.withFcs (s.fcs.resting .atTarget)) (l := l ++ [s.atTargetNotice t])
    (by simpa using hp) .sawNotHome
  rw [State.withFcs_target?, ht] at hpause
  rw [State.enterAtTarget, State.told_enterStop_atTarget hp ht]
  refine (if_pos (by simpa using ha)).trans ((if_neg (by simpa using hh)).trans (hpause.trans ?_))
  rw [List.append_assoc]
  rfl

/-- The sequencer's items as a settle timer leaves them that does not reverse: beyond the tolerance the feed overshot. -/
def State.judged (s : State) (t : Int) : Sequencer :=
  if t + (s.params.overshootTol : Int) < s.lnu.length then { s.fcs with overshoot := true } else s.fcs

theorem State.settleExpires_stops (ht : s.target? = some t)
    (h : |s.lnu.length - t| ≤ (s.params.overshootTol : Int) ∨
      (t + (s.params.overshootTol : Int) < s.lnu.length ∧ 2 ≤ s.fcs.reversals)) :
    s.settleExpires = (s.withFcs (s.judged t)).enterAtTarget := by
  unfold State.settleExpires State.judged
  rw [ht]
  simp only
  by_cases hnear : (s.lnu.length - t).natAbs ≤ s.params.overshootTol
  · rw [if_pos hnear, if_neg (by omega)]
    rfl
  · have hfar : ¬ |s.lnu.length - t| ≤ (s.params.overshootTol : Int) := by
      rw [Int.abs_eq_natAbs]
      omega
    obtain ⟨hover, hrev⟩ := h.resolve_left hfar
    rw [if_neg hnear, if_pos hover, if_neg (by omega), if_pos hover]
    rfl

theorem State.settleExpires_reverses (ht : s.target? = some t)
    (h : t + (s.params.overshootTol : Int) < s.lnu.length) (hrev : s.fcs.reversals < 2) :
    s.settleExpires = State.told (s.withFcs { s.fcs.feedingFrom .reversing s.lnu.length with reversals := s.fcs.reversals + 1 })
      [.fcsState s.fcs.state .reversing none s.lnu.length (some t)] := by
  unfold State.settleExpires
  rw [ht]
  simp only
  rw [if_neg (by omega), if_pos h, if_pos hrev]
  exact State.told_enter_feeding (s := s.withFcs { s.fcs with reversals := s.fcs.reversals + 1 }) (l := []) (t := t) .reversing
    (.inr (.inr rfl)) (by rw [State.withFcs_target?, ht])

theorem State.settleExpires_creeps (ht : s.target? = some t) (h : s.lnu.length < t - (s.params.overshootTol : Int)) :
    s.settleExpires = State.told (s.withFcs (s.fcs.feedingFrom .creeping s.lnu.length))
      [.fcsState s.fcs.state .creeping none s.lnu.length (some t)] := by
  unfold State.settleExpires
  rw [ht]
  simp only
  rw [if_neg (by omega), if_neg (by omega)]
  exact State.told_enterCreeping_short (s := s) (l := []) ht (by omega)

theorem State.leadHandle?_eq (hl : s.lead? = some (k, r)) : s.leadHandle? = some r.handle := by rw [State.leadHandle?, hl]; rfl

theorem State.fellingHandle_eq (hf : s.Felling) (hr : s.record? k = some r) (hst : r.state = .felling) :
    s.fellingHandle = r.handle := by
  obtain ⟨j, q, hj, hq, hqst, huniq⟩ := hf.one.slot
  obtain rfl := huniq k r hr hst
  simp [State.fellingHandle, hj, hr]

theorem State.notifySawFault_eq (s : State) (cause : SawFaultCause) (handle : Nat) (kind : Option CutKind) :
    s.notifySawFault cause handle kind =
      s.told [.sawFault cause handle kind s.lnu.length s.lines.sawHome.accepted s.lines.sawEnd.accepted] :=
  State.offerNotice_eq_told _ _

end Timers

/-- Settles O53: what each timer's expiry does in the state that runs it. -/
theorem timersExpire : Obligations.TimersExpire := by
  intro s hlaw hp len home after
  obtain ⟨hg, hphase⟩ := s.stemLaw_iff.mp hlaw
  have ran {f : State → State} {t : State} {o : Option Nat} (ho : o.isSome) (h : f s = t) :
      (if o.isSome then (Host.Outcome.next (f s).transmit : Result) else .next s) = .next t.transmit := by rw [if_pos ho, h]
  refine ⟨fun h => if_neg (by simp [h]), fun h => if_neg (by simp [h]), fun h => if_neg (by simp [h]), fun h => if_neg (by simp [h]),
    ?_, ?_, ?_, ?_⟩
  · intro t ho hst ht tol stops f there
    have hstops (h : stops) : s.settleExpires = (State.told (s.withFcs f) []).enterAtTarget := State.settleExpires_stops ht h
    have hthere : (s.withFcs f).atTargetNotice t = there := by
      show Notice.fcsState f.state _ _ _ _ = _
      rw [show f.state = .settling by simp only [f]; split <;> exact hst]
      rfl
    have hpf : (s.withFcs f).noPending := by simpa using hp
    have htf : (s.withFcs f).target? = some t := by simpa using ht
    refine ⟨fun h ha => ran ho ?_, fun h ha hh => ran ho ?_, fun h ha hh => ran ho ?_, fun h hrev => ran ho ?_, fun h => ran ho ?_⟩
    · rw [hstops h, State.told_enterAtTarget_rests hpf htf ha, hthere]
      rfl
    · rw [hstops h, State.told_enterAtTarget_cuts hpf htf ha hh, hthere]
      rfl
    · rw [hstops h, State.told_enterAtTarget_pauses hpf htf ha hh, hthere]
      rfl
    · rw [State.settleExpires_reverses ht h hrev, hst]
      rfl
    · rw [State.settleExpires_creeps ht h, hst]
      rfl
  · intro k r ho hst hr hrst st
    rw [hst] at hphase
    have htarget := State.target?_eq_none (State.Felling.groupState_ended hphase hr hrst (some (r.ended .abandoned .fellFailed)))
    have hstate : (if (s.stb.group).isEmpty then SeqState.idle else .holding) = st := by simp [st]
    have hst' : (st ∉ [.felling, .feeding, .creeping, .settling, .reversing, .cutting, .sawReturn, .paused] :) :=
      SeqState.resting_of (by simp only [st]; split <;> simp)
    refine ran ho ?_
    unfold State.sawExpires
    rw [hst]
    simp only
    rw [State.Felling.abandonFelling_eq hg hphase hr hrst, State.notifySawFault_eq, State.fellingHandle_eq hphase hr hrst,
      State.told_told, State.leaveFelling, State.told_enter]
    simp only [State.told_stb, State.told_lnu, State.told_lines, State.setSlot_group, hstate, htarget,
      State.moveTo_resting _ _ hst', State.setSlot_frame, hst]
    rfl
  · intro k r hl
    refine ⟨fun ho hst => ran ho ?_, fun ho hst => ran ho ?_⟩
    · unfold State.sawExpires
      rw [hst]
      simp only
      rw [State.leadHandle?_eq hl, State.notifySawFault_eq, State.told_enterPaused' hp, hst]
      rfl
    · have hcomm (l : List Notice) : ({ s.told l with fcs.stopped := false } : State) =
          State.told (s.withFcs { s.fcs with stopped := false }) l :=
        State.told_comm s l (g := fun s => { s with fcs.stopped := false }) fun _ _ => rfl
      unfold State.homeExpires
      rw [State.leadHandle?_eq hl, State.notifySawFault_eq, hcomm, State.told_enterPaused' (by simpa using hp),
        State.withFcs_target?, State.withFcs_fcs, hst]
      rfl
  · intro ho hst
    refine ran ho ?_
    unfold State.stallExpires
    rw [State.offerNotice_eq_told, State.told_enterPaused' hp]
    rfl

end Sys2Proof.Machine

/-! PROOF. What the Length Unit tells the records: a step that changes the members of a PROCESSING group alike, the length
source, quadrature faults and contact (R12, R13, R44, R45, R55, R58 to R60), and the encoder constants (R50). -/

namespace Sys2Proof.Machine

open Sys2Proof

/-! ### The records of a PROCESSING group, changed alike -/

/-- `u` is `t` with the Stem Table of `s`, in which each member of a PROCESSING group changed by a rule. -/
structure State.Hears (s t u : State) (g : Nat → StemRecord → StemRecord) : Prop where
  rest : u = { t with stb := u.stb }
  group : u.stb.group = s.stb.group
  nextHandle : u.stb.nextHandle = s.stb.nextHandle
  records : ∀ i, u.record? i =
    if i ∈ s.stb.group ∧ s.groupState = .processing then (s.record? i).map (g i) else s.record? i

/-- A change of the members that leaves their states and roles. -/
def StemRecord.Kindly (g : Nat → StemRecord → StemRecord) : Prop := ∀ i r, (g i r).state = r.state ∧ (g i r).role = r.role

theorem State.modifyActive_eq (s : State) (f : StemRecord → StemRecord) :
    s.modifyActive f = { s with stb := (s.modifyActive f).stb } := by
  have h := State.modifyActive_frame s f
  cases h' : s.modifyActive f
  simp_all

namespace State.Hears

variable {s t u : State} {g : Nat → StemRecord → StemRecord} {f : StemRecord → StemRecord}

theorem refl (h : t.stb = s.stb) : s.Hears t t fun _ r => r where
  rest := rfl
  group := by rw [h]
  nextHandle := by rw [h]
  records i := by rw [State.record?_congr h]; simp

/-- Only the Stem Table of the first state counts. -/
theorem ofTable {s' : State} (h : s.Hears t u g) (hs : s.stb = s'.stb) : s'.Hears t u g where
  rest := h.rest
  group := by rw [h.group, hs]
  nextHandle := by rw [h.nextHandle, hs]
  records i := by rw [h.records, hs, State.record?_congr hs, State.groupState_congr hs]

/-- The rule counts where it is applied. -/
theorem congr {g' : Nat → StemRecord → StemRecord} (h : s.Hears t u g)
    (hg : ∀ i r, s.groupState = .processing → s.record? i = some r → g i r = g' i r) : s.Hears t u g' where
  rest := h.rest
  group := h.group
  nextHandle := h.nextHandle
  records i := by
    rw [h.records]
    split
    next hi => exact Option.map_congr fun r hr => hg i r hi.2 hr
    · rfl

/-- What does not look at the Stem Table and leaves it. -/
theorem map (h : s.Hears t u g) {F : State → State} (hF : ∀ (s : State) x, F { s with stb := x } = { F s with stb := x }) :
    s.Hears (F t) (F u) g := by
  obtain ⟨hrest, hgroup, hnext, hrec⟩ := h
  have hu : F u = { F t with stb := u.stb } := by rw [hrest, hF]
  have hstb : (F u).stb = u.stb := by rw [hu]
  exact ⟨by rw [hstb, hu], by rw [hstb, hgroup], by rw [hstb, hnext], fun i => (State.record?_congr hstb i).trans (hrec i)⟩

theorem told (h : s.Hears t u g) (l : List Notice) : s.Hears (t.told l) (u.told l) g :=
  h.map (F := fun s => s.told l) fun s x => by
    rw [State.told_eq, State.told_eq s l, State.told_hbp (s := { s with stb := x }) (t := s) rfl]

theorem members (h : s.Hears t u g) (hp : s.groupState = .processing) :
    u.members = s.members.map fun m => (m.1, g m.1 m.2) := by
  unfold State.members
  rw [h.group, List.map_filterMap]
  refine List.filterMap_congr fun i hi => ?_
  rw [h.records, if_pos ⟨hi, hp⟩]
  cases s.record? i <;> rfl

theorem members_kept (h : s.Hears t u g) (hp : s.groupState ≠ .processing) : u.members = s.members := by
  unfold State.members
  rw [h.group]
  refine List.filterMap_congr fun i _ => ?_
  rw [h.records, if_neg (fun hi => hp hi.2)]

theorem groupState (h : s.Hears t u g) (hg : StemRecord.Kindly g) : u.groupState = s.groupState := by
  by_cases hp : s.groupState = .processing
  · unfold State.groupState
    rw [h.members hp]
    cases s.members with
    | nil => rfl
    | cons m l => simp [(hg m.1 m.2).1]
  · exact State.groupState_eq_of_members (h.members_kept hp)

theorem lead? (h : s.Hears t u g) (hg : StemRecord.Kindly g) : u.lead? = s.lead?.map fun m => (m.1, g m.1 m.2) := by
  unfold State.lead?
  rw [h.groupState hg]
  split
  next hp =>
    rw [h.members hp, List.find?_map]
    have hrole : (fun m : Nat × StemRecord => m.2.role == some Role.lead) ∘ (fun m : Nat × StemRecord => (m.1, g m.1 m.2)) =
        fun m : Nat × StemRecord => m.2.role == some Role.lead :=
      funext fun m => by simp [(hg m.1 m.2).2]
    rw [hrole]
  · rfl

theorem target? (h : s.Hears t u g) (hg : StemRecord.Kindly g) (hplan : ∀ i r, s.record? i = some r → (g i r).plan = r.plan) :
    u.target? = s.target? := by
  unfold State.target?
  rw [h.lead? hg]
  cases hl : s.lead? with
  | none => rfl
  | some m => simp [hplan m.1 m.2 (State.lead?_spec hl).1]

/-- One more change of the members. -/
theorem modifyActive (h : s.Hears t u g) (hn : s.stb.group.Nodup) (hg : StemRecord.Kindly g) (f : StemRecord → StemRecord) :
    s.Hears t (u.modifyActive f) fun i r => f (g i r) := by
  have hrest : u.modifyActive f = { t with stb := (u.modifyActive f).stb } :=
    (State.modifyActive_eq u f).trans (congrArg (fun v : State => { v with stb := (u.modifyActive f).stb }) h.rest)
  have hstack := State.modifyActive_stack u f
  refine ⟨hrest, hstack.1.trans h.group, hstack.2.trans h.nextHandle, fun i => ?_⟩
  unfold State.modifyActive
  rw [h.groupState hg]
  by_cases hp : s.groupState = .processing
  · rw [if_pos hp, State.record?_modifyMembers (by rwa [h.group]), h.group, h.records]
    by_cases hi : i ∈ s.stb.group
    · simp only [hi, hp, and_self, if_true, Option.map_map]
      rfl
    · simp [hi]
  · rw [if_neg hp, h.records]
    simp [hp]

end State.Hears

/-! ### The length source (R45, R47, R58 to R60) -/

section Source

variable {s : State}

theorem StemRecord.sourceChanged_eq {old new : SourceState} (h : old ≠ new) (r : StemRecord) :
    r.sourceChanged new = r.hears old new := by
  unfold StemRecord.sourceChanged StemRecord.hears
  have hfollow : r.lengthSummary.follow new =
      if (new = .roller ∨ new = .rejoin) ∧ r.lengthSummary = .wheelOnly then .mixed
      else if (new = .wheel ∨ new = .disputed) ∧ r.lengthSummary = .rollerOnly then .mixed else r.lengthSummary := by
    cases r.lengthSummary <;> cases new <;> rfl
  rw [if_neg h, hfollow]
  split
  · rfl
  · split <;> rfl

theorem StemRecord.hears_self (m : SourceState) (r : StemRecord) : r.hears m m = r := if_pos rfl

/-- The notice of a change of the length source. -/
def State.sourceNotice (s : State) (new : SourceState) (cause : SourceCause) : List Notice :=
  if s.lnu.source = new then [] else [.lengthSource s.lnu.source new cause s.lnu.length]

theorem SourceState.usesWheel_beq (m : SourceState) : (m == .wheel || m == .disputed) = m.usesWheel := by cases m <;> rfl

theorem State.rebased_eq {t : State} (new : SourceState) (n : Nat) (h : s.lnu.source ≠ new)
    (ht : t = if s.lnu.source.usesWheel = new.usesWheel then s else s.rebase new.usesWheel) :
    { t with lnu.source := new, lnu.n := n, lnu.rollerLen := t.lnu.rollerLen || !new.usesWheel } =
      { s with lnu := s.lnu.resourced new n } := by
  subst ht
  unfold LengthUnit.resourced State.rebase LengthUnit.onWheel
  rw [if_neg h]
  simp only [SourceState.usesWheel_beq]
  cases hs : s.lnu.source <;> cases new <;> simp [SourceState.usesWheel, hs] at h ⊢

theorem State.setSource_hears (hn : s.stb.group.Nodup) (new : SourceState) (n : Nat) (cause : SourceCause) :
    s.Hears (State.told { s with lnu := s.lnu.resourced new n } (s.sourceNotice new cause)) (s.setSource new n cause)
      fun _ => StemRecord.hears s.lnu.source new := by
  unfold State.setSource State.sourceNotice
  by_cases h : s.lnu.source = new
  · simp only [if_pos h, LengthUnit.resourced]
    refine (State.Hears.refl (s := s) (t := { s with lnu.n := n }) rfl).congr fun i r _ _ => ?_
    rw [h, StemRecord.hears_self]
  · simp only [if_neg h]
    have hlen : (if s.lnu.source.usesWheel = new.usesWheel then s else s.rebase new.usesWheel).lnu.length = s.lnu.length := by
      unfold State.rebase
      split
      · rfl
      · split <;> rfl
    rw [State.offerNotice_eq_told, State.rebased_eq new n h rfl, hlen]
    exact (((State.Hears.refl (s := s) (t := { s with lnu := s.lnu.resourced new n }) rfl).modifyActive hn (fun _ _ => ⟨rfl, rfl⟩) _).told _).congr
      fun i r _ _ => StemRecord.sourceChanged_eq h r

end Source

/-! ### Faults and contact (R44, R45, R55, R59) -/

theorem countFault_eq (n : Nat) : countFault n = min 8 (n + 1) := by unfold countFault; split <;> omega

/-- The length unit as it stands once the wheel has given the length up. -/
def LengthUnit.given (l : LengthUnit) : LengthUnit := if l.source = .roller then l else l.resourced .roller 0

theorem LengthUnit.given_source (l : LengthUnit) : l.given.source = .roller := by
  unfold LengthUnit.given LengthUnit.resourced
  split
  · assumption
  · rfl

theorem State.forceRoller_hears {s : State} (hn : s.stb.group.Nodup) (cause : SourceCause) :
    s.Hears (State.told { s with lnu := s.lnu.given } (s.sourceNotice .roller cause)) (s.forceRoller cause)
      fun _ => StemRecord.hears s.lnu.source s.lnu.given.source := by
  rw [LengthUnit.given_source]
  unfold State.forceRoller LengthUnit.given
  by_cases h : s.lnu.source = .roller
  · rw [if_pos h, if_pos h, State.sourceNotice, if_pos h]
    refine (State.Hears.refl (s := s) (t := s) rfl).congr fun i r _ _ => ?_
    rw [h, StemRecord.hears_self]
  · rw [if_neg h, if_neg h]
    exact State.setSource_hears hn _ _ _

/-- Settles O48: quadrature faults and contact changes. -/
theorem faultsAndContact : Obligations.FaultsAndContact := by
  intro s hlaw flip after wheelLines rollerLines toRoller given wheelCounted rollerCounted
  have hn : s.stb.group.Nodup := (s.stemLaw_iff.mp hlaw).1.nodup
  have after_of {c : Instr} {lines : InputLines} {l : LengthUnit} {notices : List Notice} {u : State}
      (hrun : exec c s = .next u.transmit)
      (h : s.Hears (State.told { s with lines := lines, lnu := l } notices) u fun _ => StemRecord.hears s.lnu.source l.source) :
      after c lines l notices := by
    refine ⟨u, hrun, h.rest.trans ?_, h.group, h.nextHandle, h.records⟩
    rw [State.told_eq, State.told_hbp (s := { s with lines := lines, lnu := l }) (t := s) rfl]
  have kept {lines : InputLines} {l : LengthUnit} (notices : List Notice) (h : l.source = s.lnu.source) :
      s.Hears (State.told { s with lines := lines, lnu := l } notices) (State.told { s with lines := lines, lnu := l } notices)
        fun _ => StemRecord.hears s.lnu.source l.source :=
    (State.Hears.refl (by rw [State.told_stb])).congr fun _ r _ _ => by rw [h, StemRecord.hears_self]
  have hwheel : exec (.quadratureFault .wheel) s = .next (State.transmit
      (if wheelCounted.wheelFaults = 8 ∧ s.lnu.wheelFaulty = false then
        State.wheelBecomesFaulty { s with lines := wheelLines, lnu := wheelCounted }
      else { s with lines := wheelLines, lnu := wheelCounted })) := by
    simp only [wheelCounted, ← countFault_eq]
    rfl
  have hroller : exec (.quadratureFault .roller) s = .next (State.transmit
      (if rollerCounted.rollerFaults = 8 ∧ s.lnu.rollerFaulty = false then
        State.rollerBecomesFaulty { s with lines := rollerLines, lnu := rollerCounted }
      else { s with lines := rollerLines, lnu := rollerCounted })) := by
    simp only [rollerCounted, ← countFault_eq]
    rfl
  have hwheel8 : wheelCounted.wheelFaults = 8 ↔ 7 ≤ s.lnu.wheelFaults := by simp only [wheelCounted]; omega
  have hroller8 : rollerCounted.rollerFaults = 8 ↔ 7 ≤ s.lnu.rollerFaults := by simp only [rollerCounted]; omega
  refine ⟨fun h => ?_, fun h h' => ?_, fun h => ?_, fun h h' => ?_, fun level h => if_pos h, fun h => ?_, fun h => ?_⟩
  · have hno : ¬(wheelCounted.wheelFaults = 8 ∧ s.lnu.wheelFaulty = false) := by
      rw [hwheel8]
      rcases h with h | h
      · omega
      · simp [h]
    rw [if_neg hno] at hwheel
    exact after_of hwheel (kept [] rfl)
  · rw [if_pos ⟨hwheel8.mpr h, h'⟩] at hwheel
    exact after_of hwheel ((State.forceRoller_hears (s := { s with
      lines := wheelLines, lnu := { wheelCounted with wheelFaulty := true } }) hn .wheelFault).ofTable rfl)
  · have hno : ¬(rollerCounted.rollerFaults = 8 ∧ s.lnu.rollerFaulty = false) := by
      rw [hroller8]
      rcases h with h | h
      · omega
      · simp [h]
    rw [if_neg hno] at hroller
    exact after_of hroller (kept [] rfl)
  · rw [if_pos ⟨hroller8.mpr h, h'⟩, State.rollerBecomesFaulty, State.offerNotice_eq_told] at hroller
    exact after_of hroller (kept _ rfl)
  · have hrun : exec (.wheelContactChange true) s = .next (s.contactChanged true).transmit := if_neg (by simp [h])
    exact after_of hrun (kept [] rfl)
  · have hrun : exec (.wheelContactChange false) s = .next (s.contactChanged false).transmit := if_neg (by simp [h])
    have hgone := (State.forceRoller_hears (s := { s with lines.wheelContact := .settled false }) hn .contactLost).map
      (F := State.newWindow) fun _ _ => rfl
    rw [State.told_comm _ _ (g := State.newWindow) fun _ _ => rfl] at hgone
    exact after_of hrun (hgone.ofTable rfl)

end Sys2Proof.Machine

/-! PROOF. The parameters (R50, R141, R170): what SET_PARAMETER stores, what it refuses, and what a changed constant or period
does at once. -/

namespace Sys2Proof.Machine

open Sys2Proof

/-! ### The checks (R75, R76, R170) -/

theorem DiameterSequencer.stateNumber_eq_one_iff {d : DiameterSequencer} :
    d.stateNumber = 1 ↔ ∃ q f, d.running = some q ∧ q.target = .feed f := by
  unfold DiameterSequencer.stateNumber
  cases d.running with
  | none => simp
  | some q => cases ht : q.target <;> simp [ht]

theorem DiameterSequencer.stateNumber_eq_two_iff {d : DiameterSequencer} :
    d.stateNumber = 2 ↔ ∃ q t, d.running = some q ∧ q.target = .trim t := by
  unfold DiameterSequencer.stateNumber
  cases d.running with
  | none => simp
  | some q => cases ht : q.target <;> simp [ht]

/-- The locks of R75, R76 and R170. -/
def State.Locks (s : State) (n : Nat) : Prop :=
  ((n = 13 ∨ n = 14) ∧ s.processingCount ≠ 0) ∨ (n = 17 ∧ s.dsq.running.isSome) ∨
    ((n = 18 ∨ n = 19) ∧ ∃ q f, s.dsq.running = some q ∧ q.target = .feed f) ∨
    ((n = 20 ∨ n = 21) ∧ ∃ q t, s.dsq.running = some q ∧ q.target = .trim t)

theorem State.parameterLocked_iff (s : State) (n : Nat) : s.parameterLocked n = true ↔ s.Locks n := by
  unfold State.Locks
  rw [← DiameterSequencer.stateNumber_eq_one_iff, ← DiameterSequencer.stateNumber_eq_two_iff]
  unfold State.parameterLocked
  split <;> simp_all [Nat.pos_iff_ne_zero]

/-- The codes that name no choice (R170, check 3). -/
def BadCode (n v : Nat) : Prop := ((n = 18 ∨ n = 20) ∧ (v = 0 ∨ 3 < v)) ∨ (n = 22 ∧ 1 < v)

theorem Mask.isSome_ofCode_iff {v : Nat} : (Mask.ofCode v).isSome = true ↔ ¬(v = 0 ∨ 3 < v) := by
  constructor
  · intro h hv
    rw [Mask.ofCode_eq_none (by omega)] at h
    exact absurd h (by decide)
  · intro h
    obtain rfl | rfl | rfl : v = 1 ∨ v = 2 ∨ v = 3 := by omega
    all_goals rfl

theorem codeOk_iff (n v : Nat) : codeOk n v = true ↔ ¬BadCode n v := by
  unfold codeOk BadCode
  split
  · simp [Mask.isSome_ofCode_iff]
  · simp [Mask.isSome_ofCode_iff]
  · simp
  · simp_all

theorem parameterInfo_eq_none_iff {n : Nat} : parameterInfo n = none ↔ 22 < n := by
  refine ⟨fun h => ?_, parameterInfo_eq_none⟩
  by_contra hn
  interval_cases n <;> simp [parameterInfo] at h

/-! ### The stored value (R170) -/

theorem parameterInfo_low_le_high {n : Nat} {info : ParameterInfo} (h : parameterInfo n = some info) : info.low ≤ info.high := by
  have hn : n < 23 := by
    by_contra hn
    rw [parameterInfo_eq_none (by omega)] at h
    cases h
  interval_cases n <;> (cases h; decide)

theorem clampNat_eq {lo hi : Nat} (h : lo ≤ hi) (x : Nat) : clampNat lo hi x = max lo (min hi x) := by
  unfold clampNat
  split
  · omega
  · split <;> omega

/-- The largest averaging count not above the value for 19 and 21, and the nearest value of the range for the others. -/
theorem clampParameter_eq {n : Nat} {info : ParameterInfo} (h : parameterInfo n = some info) (v : Nat) :
    clampParameter n info v =
      if n = 19 ∨ n = 21 then (if 8 ≤ v then 8 else if 4 ≤ v then 4 else if 2 ≤ v then 2 else 1)
      else max info.low (min info.high v) := by
  have havg : clampAveraging v = if 8 ≤ v then 8 else if 4 ≤ v then 4 else if 2 ≤ v then 2 else 1 := by
    unfold clampAveraging
    (repeat' split) <;> omega
  unfold clampParameter
  split
  · rw [havg]
    rfl
  · rw [havg]
    rfl
  next h19 h21 => rw [if_neg fun h => h.elim h19 h21, clampNat_eq (parameterInfo_low_le_high h)]

/-- A stored code of a mask or of auto_cut names a choice. -/
theorem codeOk_clampParameter {n : Nat} {info : ParameterInfo} (h : parameterInfo n = some info) (v : Nat) :
    codeOk n (clampParameter n info v) = true := by
  rw [codeOk_iff, clampParameter_eq h]
  rintro (⟨rfl | rfl, hv⟩ | ⟨rfl, hv⟩) <;> cases h <;> simp at hv

/-- A stored value is read back, and no other parameter changes. -/
theorem Parameters.get_set (p : Parameters) {n v : Nat} (hn : n ≤ 22) (hv : codeOk n v = true) (m : Nat) :
    (p.set n v).get m = if m = n then v else p.get m := by
  by_cases hm : m = n
  · subst hm
    rw [if_pos rfl]
    by_cases hmask : m = 18 ∨ m = 20
    · have hcode : 1 ≤ v ∧ v ≤ 3 := by
        have := (codeOk_iff m v).mp hv
        unfold BadCode at this
        omega
      obtain ⟨h1, h3⟩ := hcode
      rcases hmask with rfl | rfl <;> interval_cases v <;> rfl
    · by_cases hauto : m = 22
      · subst hauto
        have : v ≤ 1 := by simpa [codeOk] using hv
        interval_cases v <;> rfl
      · interval_cases m <;> simp at hmask hauto <;> rfl
  · rw [if_neg hm]
    unfold Parameters.get
    interval_cases n <;> simp only [Parameters.set] <;> split <;> simp at hm ⊢


/-! ### What a change does (R50, R141, R170) -/

section Store

variable {s : State} {n v : Nat}

theorem State.storeParameter_same (h : s.params.get n = v) : s.storeParameter n v = s := if_pos h

/-- The running timer that a changed period concerns. -/
theorem State.storeParameter_timer (h : s.params.get n ≠ v) (h13 : n ≠ 13) (h14 : n ≠ 14) :
    s.storeParameter n v = State.timerAtChange { s with params := s.params.set n v } n := by
  unfold State.storeParameter
  rw [if_neg h]
  split
  · exact absurd rfl h13
  · exact absurd rfl h14
  · rfl

theorem State.timerAtChange_quiet (h5 : n = 5 → timerDue s.fcs.settleTimer s.params.settleTime = false)
    (h6 : n = 6 → timerDue s.fcs.sawTimer s.params.sawTimeout = false)
    (h7 : n = 7 → timerDue s.fcs.homeTimer s.params.homeTimeout = false)
    (h8 : n = 8 → timerDue s.fcs.stallTimer s.params.stallTime = false) : s.timerAtChange n = s := by
  unfold State.timerAtChange
  split
  · rw [h5 rfl]; rfl
  · rw [h6 rfl]; rfl
  · rw [h7 rfl]; rfl
  · rw [h8 rfl]; rfl
  · rfl

theorem SourceState.usesWheel_iff {m : SourceState} : m.usesWheel = true ↔ m = .wheel ∨ m = .disputed := by
  cases m <;> simp [SourceState.usesWheel]

theorem answerSetParameter_stores {info : ParameterInfo} {w : Nat} (hinfo : parameterInfo n = some info) (hl : ¬s.Locks n)
    (hc : ¬BadCode n w) (hv : clampParameter n info w = v) :
    answerSetParameter n w s = (s.storeParameter n v, ⟨if v = w then .ok else .clamped, u16 v⟩) := by
  unfold answerSetParameter
  rw [hinfo]
  simp only
  rw [if_neg (mt (s.parameterLocked_iff n).mp hl), if_neg (by simpa using (codeOk_iff n w).mpr hc), hv]

end Store

/-- Settles O13: a changed encoder constant. -/
theorem constantChangeRebases : Obligations.ConstantChangeRebases := by
  intro s tag value hb hcount v a window onWheel
  have run_of {number : Byte} {t : State} (hn : number.toNat = 13 ∨ number.toNat = 14) (h : s.storeParameter number.toNat v = t) :
      exec (.setParameter tag number value) s = .next (t.answered 1 tag a) := by
    have hinfo : parameterInfo number.toNat = some ⟨1000, 60000, 0⟩ := by rcases hn with hn | hn <;> rw [hn] <;> rfl
    have hl : ¬s.Locks number.toNat := by
      rintro (⟨_, hp⟩ | ⟨h, _⟩ | ⟨h, _⟩ | ⟨h, _⟩)
      · exact hp hcount
      all_goals omega
    have hc : ¬BadCode number.toNat value.toNat := by unfold BadCode; omega
    refine exec_idle_of (r := .setParameter number value) rfl hb ?_
    rw [← h]
    refine answerSetParameter_stores hinfo hl hc ?_
    rw [clampParameter_eq hinfo, if_neg (by omega)]
  have hwheel : s.lnu.source.usesWheel = true ↔ onWheel := SourceState.usesWheel_iff
  have h13 (h : s.params.wheelConstant ≠ v) : s.storeParameter 13 v = s.changeConstant .wheel v := if_neg h
  have h14 (h : s.params.rollerConstant ≠ v) : s.storeParameter 14 v = s.changeConstant .roller v := if_neg h
  refine ⟨fun h => run_of (.inl rfl) (State.storeParameter_same h), fun h => run_of (.inr rfl) (State.storeParameter_same h),
    fun h hw => run_of (.inl rfl) ((h13 h).trans ?_), fun h hw => run_of (.inl rfl) ((h13 h).trans ?_),
    fun h hw => run_of (.inr rfl) ((h14 h).trans ?_), fun h hw => run_of (.inr rfl) ((h14 h).trans ?_)⟩
  · rw [State.changeConstant, if_pos (hwheel.mpr hw)]
    rfl
  · rw [State.changeConstant, if_neg (mt hwheel.mp hw)]
    rfl
  · rw [State.changeConstant, if_neg (mt hwheel.mp hw)]
    rfl
  · rw [State.changeConstant, if_pos (hwheel.mpr hw)]
    rfl

/-- Settles O12: SET_PARAMETER stores, clamps or refuses. -/
theorem setParameterStoresOrRefuses : Obligations.SetParameterStoresOrRefuses := by
  intro s tag number value hb n locked badCode
  have run_of {t : State} {a : Answer} (h : answerSetParameter n value.toNat s = (t, a)) :
      exec (.setParameter tag number value) s = .next (t.answered 1 tag a) :=
    exec_idle_of (r := .setParameter number value) rfl hb h
  have hinfo_of (h : n ≤ 22) : ∃ info, parameterInfo n = some info :=
    Option.ne_none_iff_exists'.mp fun hnone => absurd (parameterInfo_eq_none_iff.mp hnone) (by omega)
  refine ⟨fun h => run_of ?_, fun h => run_of ?_, fun hl hbad => run_of ?_, ?_⟩
  · rw [answerSetParameter, parameterInfo_eq_none h]
    rfl
  · obtain ⟨info, hinfo⟩ := hinfo_of (by rcases h with ⟨_, _⟩ | ⟨_, _⟩ | ⟨_, _⟩ | ⟨_, _⟩ <;> omega)
    rw [answerSetParameter, hinfo]
    exact if_pos ((s.parameterLocked_iff n).mpr h)
  · obtain ⟨info, hinfo⟩ := hinfo_of (by rcases hbad with ⟨_, _⟩ | ⟨_, _⟩ <;> omega)
    rw [answerSetParameter, hinfo]
    refine (if_neg (mt (s.parameterLocked_iff n).mp hl)).trans (if_pos ?_)
    have hno : ¬codeOk n value.toNat = true := fun hok => (codeOk_iff n _).mp hok hbad
    simpa using hno
  intro info hinfo h13 h14 hl hbad v a
  have hclamp : clampParameter n info value.toNat = v := clampParameter_eq hinfo _
  have hstore := answerSetParameter_stores hinfo hl hbad hclamp
  refine ⟨fun hsame => run_of ?_, fun hne => ⟨s.params.set n v, ?_, fun h5 h6 h7 h8 => run_of ?_, fun hn hdue => run_of ?_,
    fun hn hdue => run_of ?_, fun hn hdue => run_of ?_, fun hn hdue => run_of ?_⟩⟩
  · rw [hstore, State.storeParameter_same hsame]
  · have hn : n ≤ 22 := by
      by_contra hn
      rw [parameterInfo_eq_none (by omega)] at hinfo
      cases hinfo
    exact Parameters.get_set s.params hn (hclamp ▸ codeOk_clampParameter hinfo value.toNat)
  all_goals rw [hstore, State.storeParameter_timer hne h13 h14]
  · rw [State.timerAtChange_quiet]
    · intro hn
      rw [show (s.params.set n v).settleTime = v by rw [hn]; rfl]
      exact h5 hn
    · intro hn
      rw [show (s.params.set n v).sawTimeout = v by rw [hn]; rfl]
      exact h6 hn
    · intro hn
      rw [show (s.params.set n v).homeTimeout = v by rw [hn]; rfl]
      exact h7 hn
    · intro hn
      rw [show (s.params.set n v).stallTime = v by rw [hn]; rfl]
      exact h8 hn
  all_goals refine congrArg (·, a) ?_
  · rw [hn]
    exact if_pos hdue
  · rw [hn]
    exact if_pos hdue
  · rw [hn]
    exact if_pos hdue
  · rw [hn]
    exact if_pos hdue

end Sys2Proof.Machine

/-! PROOF. READ_STATUS item by item (R185), and the two reinitialisations (R163, R174). -/

namespace Sys2Proof.Machine

open Sys2Proof

/-! ### The items of READ_STATUS (R185) -/

section Status

variable (s : State)

theorem armComplete_eq_decide (t : ArmTable) : armComplete t = decide (∀ i : Fin 9, t[i].isSome) :=
  Bool.eq_iff_iff.mpr (armComplete_iff.trans (decide_eq_true_iff).symm)

theorem State.freeSlots_eq_filter : s.freeSlots = ((List.range 8).filter fun i => (s.record? i).isNone).length := by
  rw [State.freeSlots, State.slots_eq, List.countP_map, List.countP_eq_length_filter]
  rfl

theorem GroupState.number_eq (g : GroupState) : g.number = if g = .empty then 0 else if g = .held then 1 else 2 := by
  cases g <;> rfl

theorem StemRecord.committed?_isSome (r : StemRecord) : r.committed?.isSome = decide (r.held ≠ []) := by
  unfold StemRecord.committed? StemRecord.held
  cases r.plan with
  | nil => rfl
  | cons p rest => by_cases h : p.status = .committed <;> simp [h]

theorem State.targetCommitted_eq : s.targetCommitted = s.lead?.any fun m => decide (m.2.held ≠ []) := by
  unfold State.targetCommitted
  cases s.lead? with
  | none => rfl
  | some m => exact StemRecord.committed?_isSome m.2

theorem AssortmentTable.any_defined (b : Bank) :
    (b.toList.any fun o => o.isSome) = decide (0 < (Finset.univ.filter fun i : Fin 32 => b[i].isSome).card) := by
  rw [← Bank.defined_eq, Bank.defined, Bool.eq_iff_iff, decide_eq_true_iff, List.countP_pos_iff, List.any_eq_true]

theorem State.stemStatus_eq : s.stemStatus =
    u8 ((List.range 8).filter fun i => (s.record? i).isNone).length ++
      u8 (if s.groupState = .empty then 0 else if s.groupState = .held then 1 else 2) ++ u8 s.stb.group.length ++
      u8 s.processingCount ++ u16 ((s.lead?.map (·.2.handle)).getD 65535) ++ u16 s.stb.nextHandle := by
  rw [State.stemStatus, State.freeSlots_eq_filter, GroupState.number_eq]
  rfl

theorem flagBits_pair (a b : Bool) : flagBits [a, b] = (if a then 1 else 0) + (if b then 2 else 0) := by
  cases a <;> cases b <;> rfl

end Status

/-! ### Reinitialisation (R79, R163, R174) -/

section Reinitialise

variable {s : State} {l : List Notice}

/-- The Diameter Sequencer with every requester free. -/
def DiameterSequencer.emptied (d : DiameterSequencer) : DiameterSequencer :=
  { d with feedPending := none, trimPending := none, cabPending := none, running := none }

/-- The notice of the CAB request that a reinitialisation aborts. -/
def DiameterSequencer.abortNotices (d : DiameterSequencer) : List Notice := d.cabOpen?.toList.map fun c => c.notice none

theorem State.abortMeasurements_eq : s.abortMeasurements = State.told { s with dsq := s.dsq.emptied } s.dsq.abortNotices := by
  unfold State.abortMeasurements DiameterSequencer.abortNotices
  cases s.dsq.cabOpen? with
  | none => rfl
  | some c => exact State.offerNotice_eq_told _ _

theorem DiameterSequencer.abortNotices_pending {d : DiameterSequencer} {c : CabRequest} (h : d.cabPending = some c) :
    d.abortNotices = [.measureResult c.tag c.mask c.averaging none] := by
  simp [DiameterSequencer.abortNotices, DiameterSequencer.cabOpen?, h, CabRequest.notice]

theorem DiameterSequencer.abortNotices_idle {d : DiameterSequencer} (h : d.cabPending = none) (hr : d.running = none) :
    d.abortNotices = [] := by
  simp [DiameterSequencer.abortNotices, DiameterSequencer.cabOpen?, h, hr]

theorem DiameterSequencer.abortNotices_cab {d : DiameterSequencer} {q : RunningSequence} {c : CabRequest} (h : d.cabPending = none)
    (hr : d.running = some q) (ht : q.target = .cab c) : d.abortNotices = [.measureResult c.tag c.mask c.averaging none] := by
  simp [DiameterSequencer.abortNotices, DiameterSequencer.cabOpen?, h, hr, ht, CabRequest.notice]

theorem DiameterSequencer.abortNotices_other {d : DiameterSequencer} {q : RunningSequence} (h : d.cabPending = none)
    (hr : d.running = some q) (ht : ∀ c, q.target ≠ .cab c) : d.abortNotices = [] := by
  cases hq : q.target with
  | feed f => simp [DiameterSequencer.abortNotices, DiameterSequencer.cabOpen?, h, hr, hq]
  | trim t => simp [DiameterSequencer.abortNotices, DiameterSequencer.cabOpen?, h, hr, hq]
  | cab c => exact absurd hq (ht c)

/-- The banks that a reinitialisation leaves: the end of processing is the safe point. -/
def State.banksCleared (s : State) : AssortmentTable := if s.processingCount = 0 then s.atb else s.atb.settled

/-- The notice of a swap at a reinitialisation. -/
def State.clearNotices (s : State) : List Notice := if s.processingCount = 0 then [] else s.atb.endNotices

/-- Every slot FREE and the group empty. -/
def State.stemless (s : State) : State :=
  { s with stb.slots := Vector.replicate 8 none, stb.group := [], atb := s.banksCleared }

theorem State.told_clearStems : (s.told l).clearStems = s.stemless.told (l ++ s.clearNotices) := by
  have hcomm : ({ s.told l with stb.slots := Vector.replicate 8 none, stb.group := [] } : State) =
      State.told { s with stb.slots := Vector.replicate 8 none, stb.group := [] } l :=
    State.told_comm s l (g := fun s => { s with stb.slots := Vector.replicate 8 none, stb.group := [] }) fun _ _ => rfl
  have hcount : (s.told l).processingCount = s.processingCount := by
    rw [State.processingCount_eq, State.processingCount_eq]
    simp
  unfold State.clearStems
  simp only
  rw [hcount, hcomm, State.told_safePoint]
  unfold State.stemless State.banksCleared State.clearNotices AssortmentTable.settled AssortmentTable.endNotices
  by_cases h : s.processingCount = 0
  · simp [h]
  · by_cases hswap : s.atb.swapPending = true
    · simp [h, hswap]
    · simp [h, hswap]

theorem State.stemless_record? (s : State) (i : Nat) : s.stemless.record? i = none := by
  unfold State.record? State.stemless
  rw [Vector.getElem?_replicate]
  split <;> rfl

/-- The Length Unit, the pass and the sequencer as a reinitialisation leaves them. -/
def State.restarted (s : State) : State := ((s.restartLength 0).voidPass).resetSequencer

theorem State.told_restarted : (s.told l).restarted = s.restarted.told l :=
  State.told_comm s l (g := State.restarted) fun _ _ => rfl

theorem State.reinitialiseStems_eq (s : State) : s.reinitialiseStems =
    ({ s with dsq := s.dsq.emptied }.stemless.restarted).told (s.dsq.abortNotices ++ s.clearNotices) := by
  show (s.abortMeasurements.clearStems).restarted = _
  rw [State.abortMeasurements_eq, State.told_clearStems, State.told_restarted]
  rfl

theorem State.reinitialiseAll_eq (s : State) : s.reinitialiseAll =
    ((State.clearConfiguration { s with dsq := s.dsq.emptied }).stemless.restarted).told s.dsq.abortNotices := by
  show ((s.abortMeasurements.clearConfiguration).clearStems).restarted = _
  rw [State.abortMeasurements_eq, State.told_comm _ _ (g := State.clearConfiguration) fun _ _ => rfl, State.told_clearStems,
    State.told_restarted]
  have hquiet : (State.clearConfiguration { s with dsq := s.dsq.emptied }).clearNotices = [] := by
    unfold State.clearNotices
    split <;> rfl
  rw [hquiet, List.append_nil]

end Reinitialise

/-- Settles O59: READ_STATUS and REINITIALISE. -/
theorem statusAndReinitialise : Obligations.StatusAndReinitialise := by
  intro s tag hb bit complete filled st items port stems length sequences banks passes sequencer
  refine ⟨?_, fun priority scope hscope hp => ?_, ?_⟩
  · refine exec_idle_of (r := .readStatus) rfl hb (congrArg (_, ·) (congrArg Answer.okWith ?_))
    have hstems : s.stemStatus = stems := s.stemStatus_eq
    have hlength : s.lnu.statusBytes = length := by
      rw [LengthUnit.statusBytes, flagBits_pair]
      rfl
    have hsequences : s.dsq.statusBytes = sequences := by
      simp only [DiameterSequencer.statusBytes, armComplete_eq_decide]
      rfl
    have hbanks : s.atb.statusBytes = banks := by
      rw [AssortmentTable.statusBytes, Bank.defined_eq, Bank.defined_eq]
      rfl
    have hsequencer : s.sequencerStatus = sequencer := by
      simp only [State.sequencerStatus, State.targetCommitted_eq, DemandLines.statusBytes, ← List.append_assoc]
      rfl
    have hitems : s.configuredItems = items := by
      simp only [State.configuredItems, armComplete_eq_decide, AssortmentTable.any_defined]
      rfl
    rw [State.statusBytes, hstems, hlength, hsequences, hbanks, hsequencer, State.configuredStatus, State.configured, hitems,
      ← List.append_assoc]
    rfl
  · rw [exec_firstFrame_short priority 66 tag (by simp) hp, State.offer_idle hb]
    have hans : answerReinitialise scope.toNat s = (s, .only .range) := by
      unfold answerReinitialise
      split
      · omega
      · omega
      · rfl
    have hd : handleEntry (.request 66 tag [scope]) s = (s, .only .range) := hans
    rw [hd]
    rfl
  · intro aborted swaps swapped source lnu freed
    have habort : s.dsq.abortNotices = aborted := by
      simp only [aborted]
      cases hc : s.dsq.cabPending with
      | some c => exact DiameterSequencer.abortNotices_pending hc
      | none =>
        cases hr : s.dsq.running with
        | none => exact DiameterSequencer.abortNotices_idle hc hr
        | some q =>
          cases ht : q.target with
          | feed f => exact (DiameterSequencer.abortNotices_other hc hr (by simp [ht])).trans (by simp only [ht])
          | trim t => exact (DiameterSequencer.abortNotices_other hc hr (by simp [ht])).trans (by simp only [ht])
          | cab c => exact (DiameterSequencer.abortNotices_cab hc hr ht).trans (by simp only [ht])
    have hswap : s.clearNotices = swapped := by
      simp only [State.clearNotices, AssortmentTable.endNotices, swapped, swaps]
      by_cases h : s.processingCount = 0
      · simp [h]
      · simp [h, AssortmentTable.safeNotices]
    have hatb : s.banksCleared = if swaps then { s.atb with active := s.atb.edit, swapPending := false } else s.atb := by
      simp only [State.banksCleared, AssortmentTable.settled, AssortmentTable.swapped, swaps]
      by_cases h : s.processingCount = 0 <;> simp [h]
    have hlnu (p : Parameters) : (State.restartLength { s with params := p } 0).lnu = lnu p := by
      unfold State.restartLength State.sourceByContact
      simp only [lnu, source]
      cases s.lines.wheelContact.accepted <;> rfl
    refine ⟨⟨s.reinitialiseStems, ?_, ?_⟩, ⟨s.reinitialiseAll, ?_, ?_⟩⟩
    · exact exec_idle_of (r := .reinitialise 0) rfl hb rfl
    · rw [State.reinitialiseStems_eq, habort, hswap]
      refine ⟨⟨fun i => ?_, ?_⟩, ?_, ?_, fun c => ?_, ?_, ?_⟩
      · exact (State.told_record? _ _ _).trans (State.stemless_record? _ i)
      · simp only [State.told_stb, State.told_dsq, State.told_bke, State.told_fcs, State.told_lines, State.told_pending]
        exact ⟨rfl, rfl, rfl, rfl, rfl, rfl, rfl, rfl, rfl, rfl⟩
      · rw [State.told_lnu]
        exact hlnu s.params
      · rw [State.told_params]
        rfl
      · rw [State.told_dsq]
        cases c <;> rfl
      · rw [State.told_atb]
        exact hatb
      · refine State.told_hbp ?_ _
        rfl
    · exact exec_idle_of (r := .reinitialise 1) rfl hb rfl
    · rw [State.reinitialiseAll_eq, habort]
      refine ⟨⟨fun i => ?_, ?_⟩, ?_, ?_, fun c i => ?_, ?_, ?_⟩
      · exact (State.told_record? _ _ _).trans (State.stemless_record? _ i)
      · simp only [State.told_stb, State.told_dsq, State.told_bke, State.told_fcs, State.told_lines, State.told_pending]
        exact ⟨rfl, rfl, rfl, rfl, rfl, rfl, rfl, rfl, rfl, rfl⟩
      · rw [State.told_lnu]
        exact hlnu .default
      · rw [State.told_params]
        rfl
      · rw [State.told_dsq]
        have hcleared (c : Channel) (i : Fin 9) : (s.clearTables.dsq.table c)[i] = none := by
          cases c <;> exact Vector.getElem_replicate i.isLt
        exact (by cases c <;> rfl : _ = (s.clearTables.dsq.table c)[i]).trans (hcleared c i)
      · rw [State.told_atb]
        show State.banksCleared _ = _
        unfold State.banksCleared
        split <;> rfl
      · refine State.told_hbp ?_ _
        rfl

end Sys2Proof.Machine

/-! PROOF. The result of a sequence (R65, R67, R68), and its delivery to a TRIM or CAB requester (R9, R69, R74, R78, R80). -/

namespace Sys2Proof.Machine

open Sys2Proof

/-! ### The result (R65, R67, R68) -/

section Result

variable (s : State) (q : RunningSequence) (r : Readings)

/-- Half up: the halves of an odd count make no difference. -/
theorem averageRaw_eq (n sum : Nat) : averageRaw n sum = (2 * sum + n) / (2 * n) := by
  rw [averageRaw, ← Nat.div_div_eq_div_mul, show (2 * sum + n) / 2 = sum + n / 2 by omega]

theorem lookup_zip_map {β : Type} (f : Channel → β) {l : List Channel} {c : Channel} (h : c ∈ l) :
    (l.zip (l.map f)).lookup c = some (f c) := by
  induction l with
  | nil => cases h
  | cons a l ih =>
    rw [List.map_cons, List.zip_cons_cons, List.lookup_cons]
    by_cases hc : c = a
    · subst hc
      simp
    · rw [beq_eq_false_iff_ne.mpr hc]
      exact ih (List.mem_of_ne_of_mem hc h)

theorem RunningSequence.averageOf_readAll {c : Channel} (h : c ∈ q.mask.channels) :
    (q.readAll r).averageOf c = averageReading r q.averaging c := by
  have hone (c : Channel) : averageRaw q.averaging (sumReadings q.averaging (channelReadings r c)) =
      averageReading r q.averaging c := averageRaw_eq _ _
  unfold RunningSequence.averageOf RunningSequence.readAll
  simp only [hone]
  rw [lookup_zip_map (averageReading r q.averaging) h]
  rfl

theorem State.channelReport_readAll {c : Channel} (h : c ∈ q.mask.channels) : s.channelReport (q.readAll r) c =
    ⟨averageReading r q.averaging c, s.contribution q.averaging r c, aboveLast (s.dsq.table c) (averageReading r q.averaging c)⟩ := by
  rw [State.channelReport, RunningSequence.averageOf_readAll q r h]
  rfl

theorem State.pairDiameter_readAll {a b : Channel} (ha : a ∈ q.mask.channels) (hb : b ∈ q.mask.channels) :
    s.pairDiameter (q.readAll r) a b = s.contribution q.averaging r a + s.contribution q.averaging r b := by
  rw [State.pairDiameter, State.channelReport_readAll s q r ha, State.channelReport_readAll s q r hb]

theorem State.pairsDisagree_readAll : s.pairsDisagree (q.readAll r) = s.disagrees q.mask q.averaging r := by
  unfold State.pairsDisagree State.disagrees
  by_cases hm : q.mask = .both
  · have hmask : (q.readAll r).mask = .both := hm
    rw [State.pairDiameter_readAll s q r (by simp [hm, Mask.channels]) (by simp [hm, Mask.channels]),
      State.pairDiameter_readAll s q r (by simp [hm, Mask.channels]) (by simp [hm, Mask.channels]), hmask, hm, Int.abs_eq_natAbs]
    simp only [beq_self_eq_true, Bool.true_and, true_and, decide_eq_decide]
    omega
  · have hmask : ((q.readAll r).mask == Mask.both) = false := beq_eq_false_iff_ne.mpr hm
    simp [hmask, hm]

theorem State.countedChannels_readAll : s.countedChannels (q.readAll r) = s.counted q.mask q.averaging r := by
  rw [State.countedChannels, State.pairsDisagree_readAll]
  rfl

theorem State.counted_subset {c : Channel} (h : c ∈ s.counted q.mask q.averaging r) : c ∈ q.mask.channels := by
  unfold State.counted at h
  split at h
  next hdis =>
    have hm : q.mask = .both := by
      unfold State.disagrees at hdis
      exact (decide_eq_true_eq.mp hdis).1
    rw [hm]
    revert h
    cases c <;> decide
  · exact h

theorem State.result_readAll :
    clampNat 0 999 ((s.combinedTenths (q.readAll r) + 5) / 10) = s.measured q.mask q.averaging r := by
  have hdis := State.pairsDisagree_readAll s q r
  have hmask : (q.readAll r).mask = q.mask := rfl
  rw [clampNat_eq (by omega), State.measured]
  unfold State.combinedTenths State.counted
  rw [hdis, hmask]
  have pair {a b : Channel} (ha : a ∈ q.mask.channels) (hb : b ∈ q.mask.channels) := State.pairDiameter_readAll s q r ha hb
  cases hm : q.mask with
  | knives =>
    have hd : s.disagrees .knives q.averaging r = false := by simp [State.disagrees]
    simp [pair (a := .ukl) (b := .ukr) (by simp [hm, Mask.channels]) (by simp [hm, Mask.channels]), hd, Mask.channels]
  | rollers =>
    have hd : s.disagrees .rollers q.averaging r = false := by simp [State.disagrees]
    simp [pair (a := .frl) (b := .frr) (by simp [hm, Mask.channels]) (by simp [hm, Mask.channels]), hd, Mask.channels]
  | both =>
    have hk := pair (a := .ukl) (b := .ukr) (by simp [hm, Mask.channels]) (by simp [hm, Mask.channels])
    have hr := pair (a := .frl) (b := .frr) (by simp [hm, Mask.channels]) (by simp [hm, Mask.channels])
    cases s.disagrees .both q.averaging r <;> simp [hk, hr, Mask.channels, Nat.add_assoc]

/-- The report of a completed sequence. -/
theorem State.measureReport_readAll : s.measureReport (q.readAll r) =
    { settle := q.settle
      channels := q.mask.channels.map fun c =>
        ⟨averageReading r q.averaging c, s.contribution q.averaging r c,
          aboveLast (s.dsq.table c) (averageReading r q.averaging c)⟩
      knifePair := if q.mask = .rollers then none else
        some (s.contribution q.averaging r .ukl + s.contribution q.averaging r .ukr)
      rollerPair := if q.mask = .knives then none else
        some (s.contribution q.averaging r .frl + s.contribution q.averaging r .frr)
      result := s.measured q.mask q.averaging r
      disagree := s.disagrees q.mask q.averaging r
      armLimit := s.overArm q.mask q.averaging r } := by
  have hmask : (q.readAll r).mask = q.mask := rfl
  have harm : ((s.countedChannels (q.readAll r)).any fun c => (s.channelReport (q.readAll r) c).armLimit) =
      s.overArm q.mask q.averaging r := by
    rw [State.countedChannels_readAll, State.overArm, Bool.eq_iff_iff, List.any_eq_true, List.any_eq_true]
    refine exists_congr fun c => and_congr_right fun hc => ?_
    rw [State.channelReport_readAll s q r (State.counted_subset s q r hc)]
  have hknife : (if q.mask = .rollers then none else some (s.pairDiameter (q.readAll r) .ukl .ukr)) =
      if q.mask = .rollers then none else some (s.contribution q.averaging r .ukl + s.contribution q.averaging r .ukr) := by
    split
    · rfl
    next h => rw [State.pairDiameter_readAll s q r] <;> cases hm : q.mask <;> simp [hm, Mask.channels] at h ⊢
  have hroller : (if q.mask = .knives then none else some (s.pairDiameter (q.readAll r) .frl .frr)) =
      if q.mask = .knives then none else some (s.contribution q.averaging r .frl + s.contribution q.averaging r .frr) := by
    split
    · rfl
    next h => rw [State.pairDiameter_readAll s q r] <;> cases hm : q.mask <;> simp [hm, Mask.channels] at h ⊢
  rw [State.measureReport, State.result_readAll, State.pairsDisagree_readAll, harm, hmask, hknife, hroller,
    List.map_congr_left fun c hc => State.channelReport_readAll s q r hc]
  rfl

end Result

/-! ### Delivery (R69, R74) -/

section Deliver

variable {s : State} {q : RunningSequence}

theorem State.arbitrate_free {d : DiameterSequencer} (h : s.dsq.running = none) (hd : s.dsq.freed s.params = d) :
    s.arbitrate = { s with dsq := d } := by
  subst hd
  have hs : s = { s with dsq.running := none } := by rw [← h]
  conv_lhs => rw [hs]
  exact State.arbitrate_freed s

theorem DiameterSequencer.freed_idle (d : DiameterSequencer) (p : Parameters) :
    DiameterSequencer.freed { d with running := none } p = d.freed p := by
  unfold DiameterSequencer.freed
  cases d.feedPending with
  | some f => rfl
  | none =>
    cases d.trimPending with
    | some t => rfl
    | none => cases d.cabPending <;> rfl

theorem State.told_arbitrate_freed (l : List Notice) : State.arbitrate (State.told { s with dsq.running := none } l) =
    State.told { s with dsq := s.dsq.freed s.params } l := by
  have hcomm := State.told_comm { s with dsq.running := none } l (g := fun u => { u with dsq := s.dsq.freed s.params })
    fun _ _ => rfl
  rw [State.arbitrate_free (by rw [State.told_dsq]) (by rw [State.told_dsq, State.told_params, DiameterSequencer.freed_idle])]
  exact hcomm

/-- The sequencer is free when it delivers, and arbitrates after. -/
theorem exec_sequenceComplete (h : s.dsq.running = some q) (r : Readings) : exec (.sequenceComplete r) s =
    .next ((State.deliver { s with dsq.running := none } (q.readAll r) (s.measureReport (q.readAll r))).arbitrate).transmit := by
  show execSequenceComplete r s = _
  rw [execSequenceComplete, h]
  rfl

end Deliver

/-- Settles O42: the results of CAB and TRIM sequences. -/
theorem sequenceResults : Obligations.SequenceResults := by
  intro s r q hq run d dis lim value freed
  have hfreed : (State.arbitrate { s with dsq.running := none }) = freed := State.arbitrate_freed s
  have hrun : run = _ := exec_sequenceComplete hq r
  rw [State.measureReport_readAll] at hrun
  refine ⟨fun c hc => ?_, fun t ht => ⟨fun m hm hh hst => ?_, fun hm => ?_⟩⟩
  · rw [hrun, State.deliver, show (q.readAll r).target = .cab c from hc]
    simp only
    rw [State.offerNotice_eq_told, State.told_arbitrate_freed]
    rfl
  all_goals rw [hrun, State.deliver, show (q.readAll r).target = .trim t from ht]
  all_goals simp only
  all_goals unfold State.deliverTrim
  · rw [show State.record? { s with dsq.running := none } t.slot = some m from hm]
    simp only
    rw [if_pos ⟨hh, hst⟩]
    refine congrArg (fun u : State => Host.Outcome.next u.transmit) ?_
    exact State.arbitrate_free rfl (DiameterSequencer.freed_idle s.dsq s.params)
  · rw [show State.record? { s with dsq.running := none } t.slot = s.record? t.slot from rfl]
    cases hr : s.record? t.slot with
    | none => exact congrArg (fun u : State => Host.Outcome.next u.transmit) hfreed
    | some m =>
      have hno : ¬(m.handle = t.handle ∧ (m.state = .felling ∨ m.state = .held)) := fun ⟨hh, hst⟩ => by
        rcases hm m hr with h | ⟨h1, h2⟩
        · exact h hh
        · exact hst.elim h1 h2
      refine congrArg (fun u : State => Host.Outcome.next u.transmit) ?_
      simp only
      rw [if_neg hno]
      exact hfreed

end Sys2Proof.Machine

/-! PROOF. The end of the saw's cut: the record pushed at a felling, the pieces of a cut with the lead's plan, and the flags of a
piece (R16 to R18, R29, R61, R143, R152). -/

namespace Sys2Proof.Machine

open Sys2Proof

/-! ### The lead among the members that change alike -/

section Lead

variable {s t u : State} {g : Nat → StemRecord → StemRecord} {f : StemRecord → StemRecord} {k : Nat} {r : StemRecord}

/-- A change of the lead's record on top of a rule. -/
def leadRule (k : Nat) (f : StemRecord → StemRecord) (g : Nat → StemRecord → StemRecord) (i : Nat) (r : StemRecord) : StemRecord :=
  if i = k then f (g i r) else g i r

theorem leadRule_kindly (hg : StemRecord.Kindly g) (hf : ∀ r, (f r).state = r.state ∧ (f r).role = r.role) (k : Nat) :
    StemRecord.Kindly (leadRule k f g) := fun i r => by
  unfold leadRule
  split
  · exact ⟨(hf _).1.trans (hg i r).1, (hf _).2.trans (hg i r).2⟩
  · exact hg i r

theorem State.groupState_of_lead? (hl : s.lead? = some (k, r)) : s.groupState = .processing := by
  by_contra h
  rw [State.lead?_eq_none h] at hl
  cases hl

theorem State.Hears.modifyLead (h : s.Hears t u g) (hg : StemRecord.Kindly g) (hl : s.lead? = some (k, r))
    (f : StemRecord → StemRecord) : s.Hears t (u.modifyLead f) (leadRule k f g) := by
  have hul : u.lead? = some (k, g k r) := by rw [h.lead? hg, hl]; rfl
  have hur : u.record? k = some (g k r) := (State.lead?_spec hul).1
  have hk : k ∈ s.stb.group := (State.mem_members.mp (State.mem_of_lead? hl)).1
  have hp := State.groupState_of_lead? hl
  have heq : u.modifyLead f = u.setSlot k (some (f (g k r))) := by rw [State.modifyLead, hul]
  rw [heq]
  refine ⟨?_, h.group, h.nextHandle, fun i => ?_⟩
  · exact congrArg (fun v : State => { v with stb := (u.setSlot k (some (f (g k r)))).stb }) h.rest
  · rw [State.record?_setSlot (State.record?_lt hur), h.records]
    by_cases hi : i = k
    · subst hi
      rw [if_pos rfl, if_pos ⟨hk, hp⟩, (State.lead?_spec hl).1]
      simp [leadRule]
    · rw [if_neg hi]
      split
      · exact Option.map_congr fun q _ => by simp [leadRule, hi]
      · rfl

theorem State.Hears.plannable? (h : s.Hears t u g) (hg : StemRecord.Kindly g) (hfrozen : ∀ i r, (g i r).frozen = r.frozen) :
    u.plannable?.isSome = s.plannable?.isSome := by
  unfold State.plannable?
  rw [h.lead? hg]
  cases s.lead? with
  | none => rfl
  | some m =>
    simp only [Option.map_some, hfrozen]
    split <;> rfl

end Lead

/-! ### The pieces of a cut (R16 to R18) -/

section Cut

variable {s A : State} {k : Nat} {lead : StemRecord}

/-- The PIECE_CUT notice of a member's new piece (R17). -/
def StemRecord.cutNotice (q : StemRecord) (p : Piece) : Notice :=
  .pieceCut q.handle q.pieces.length p.kind p.cutPosition p.actual p.assortment p.value

/-- A record with one more piece. -/
def StemRecord.withPiece (piece : StemRecord → Piece) (q : StemRecord) : StemRecord := { q with pieces := q.pieces ++ [piece q] }

theorem StemRecord.pieceNotice_eq {q q' : StemRecord} {p : Piece} (hh : q'.handle = q.handle) (hp : q'.pieces = q.pieces ++ [p]) :
    q'.pieceNotice = some (q.cutNotice p) := by
  simp [StemRecord.pieceNotice, StemRecord.cutNotice, hh, hp]

/-- Every member takes its piece, the lead its change, and each piece is told. -/
theorem State.recordCut_eq (hA : A.stb = s.stb) (hn : s.stb.group.Nodup) (hl : s.lead? = some (k, lead)) (piece : StemRecord → Piece)
    {change : StemRecord → StemRecord} (hc : ∀ q, (change q).state = q.state ∧ (change q).role = q.role ∧
      (change q).handle = q.handle ∧ (change q).pieces = q.pieces) :
    ∃ v, s.Hears A v (leadRule k change fun _ => StemRecord.withPiece piece) ∧
      ((A.recordPieces piece).modifyLead change).notifyPieces =
        v.told (s.members.map fun m => m.2.cutNotice (piece m.2)) := by
  have hgrown : s.Hears A (A.recordPieces piece) fun _ => StemRecord.withPiece piece :=
    (State.Hears.refl hA).modifyActive hn (fun _ _ => ⟨rfl, rfl⟩) _
  have hv := hgrown.modifyLead (fun _ _ => ⟨rfl, rfl⟩) hl change
  refine ⟨_, hv, congrArg (fun l => List.foldl State.offerNotice _ l) ?_⟩
  rw [hv.members (State.groupState_of_lead? hl), List.filterMap_map, ← List.filterMap_eq_map]
  refine List.filterMap_congr fun m _ => ?_
  simp only [Function.comp, leadRule]
  split
  · exact StemRecord.pieceNotice_eq (hc _).2.2.1 (hc _).2.2.2
  · exact StemRecord.pieceNotice_eq rfl rfl

/-- A planned cut takes its piece and the overtaken ones off the plan, and clears the override that it cut (R17). -/
theorem StemRecord.advancePlan_eq {q : StemRecord} {p : PlanPiece} {rest : List PlanPiece} (h : q.plan = p :: rest) (len : Int) :
    q.advancePlan p len = { q with
      plan := rest.filter fun x => decide (len < x.cutPosition)
      planValue := ((rest.filter fun x => decide (len < x.cutPosition)).map (·.value)).sum
      override := if p.source = .override ∧ q.override = some ⟨p.assortment, p.nominal⟩ then none else q.override } := by
  have hset : q.setPlan ((q.plan.drop 1).filter fun x => decide (len < x.cutPosition)) = { q with
      plan := rest.filter fun x => decide (len < x.cutPosition)
      planValue := ((rest.filter fun x => decide (len < x.cutPosition)).map (·.value)).sum } := by
    rw [h]
    rfl
  unfold StemRecord.advancePlan
  rw [hset]
  by_cases hc : p.source = .override ∧ q.override = some ⟨p.assortment, p.nominal⟩
  · rw [if_pos hc, if_pos hc]
  · rw [if_neg hc, if_neg hc]

/-- The Length Unit with the flags of a new piece. -/
def LengthUnit.newPiece (l : LengthUnit) : LengthUnit := { l with slipSuspect := false, rollerLen := !l.onWheel }

theorem State.clearPieceFlags_eq (s : State) : s.clearPieceFlags = { s with lnu := s.lnu.newPiece } := by
  unfold State.clearPieceFlags LengthUnit.newPiece LengthUnit.onWheel
  rw [SourceState.usesWheel_beq]

/-- A Bucking Engine in place of the state's. -/
def State.withBke (s : State) (b : BuckingEngine) : State := { s with bke := b }

theorem State.asks_congr {s t : State} (hstb : s.stb = t.stb) (hbke : s.bke = t.bke) {b : BuckingEngine} : s.Asks b ↔ t.Asks b := by
  have hplan : s.plannable? = t.plannable? := by rw [State.plannable?, State.plannable?, State.lead?_congr hstb]
  rw [State.Asks, State.Asks, hplan, hbke]

theorem State.told_requestPass (s : State) (l : List Notice) :
    ∃ b, s.Asks b ∧ (s.told l).requestPass = (s.withBke b).told l := by
  obtain ⟨hasks, heq⟩ := State.requestPass_asks (s.told l)
  exact ⟨(s.told l).requestPass.bke, (State.asks_congr (State.told_stb _ _) (State.told_bke _ _)).mp hasks,
    heq.trans (State.told_comm s l (g := fun u => u.withBke (s.told l).requestPass.bke) fun _ _ => rfl)⟩

theorem State.told_enterSawReturn {v : State} (l : List Notice) (hh : v.lines.sawHome.accepted = false) :
    (v.told l).enterSawReturn = (v.withFcs v.fcs.returns).told
      (l ++ [.fcsState v.fcs.state .sawReturn none v.lnu.length v.target?]) := by
  rw [State.enterSawReturn, State.told_enter]
  refine (if_neg ?_).trans rfl
  rw [State.told_lines]
  exact Bool.eq_false_iff.mp hh

/-- The flags restart, a pass is asked for, and the saw returns. -/
theorem State.told_returns {v : State} (l : List Notice) (hh : v.lines.sawHome.accepted = false) :
    ∃ b, v.Asks b ∧
      State.enterSawReturn { (v.told l).clearPieceFlags.requestPass with fcs.reversals := 0, fcs.overshoot := false } =
        State.told { v with
          lnu := v.lnu.newPiece, bke := b, fcs := { v.fcs.returns with reversals := 0, overshoot := false } }
          (l ++ [.fcsState v.fcs.state .sawReturn none v.lnu.length v.target?]) := by
  obtain ⟨b, hasks, heq⟩ := State.told_requestPass { v with lnu := v.lnu.newPiece } l
  have hclear : (v.told l).clearPieceFlags = State.told { v with lnu := v.lnu.newPiece } l := by
    rw [State.told_comm _ _ (g := State.clearPieceFlags) fun _ _ => rfl, State.clearPieceFlags_eq]
  have hcomm := State.told_comm (State.withBke { v with lnu := v.lnu.newPiece } b) l
    (g := fun u => { u with fcs.reversals := 0, fcs.overshoot := false }) fun _ _ => rfl
  refine ⟨b, (State.asks_congr rfl rfl).mp hasks, ?_⟩
  rw [hclear, heq]
  refine (congrArg State.enterSawReturn hcomm).trans ?_
  exact State.told_enterSawReturn l hh

end Cut

/-! ### The end of a felling (R29, R143) -/

theorem State.completeFelling_eq {s : State} {k : Nat} {r : StemRecord} (hg : s.GroupLaw) (hf : s.Felling)
    (hr : s.record? k = some r) (hst : r.state = .felling) : s.completeFelling =
      State.told { s.setSlot k (some { r with state := .held }) with
        stb.group := s.stb.group ++ [k], fcs := s.fcs.resting .holding }
        [.stemOpened r.handle k r.species r.fellingOrder, .fcsState s.fcs.state .holding none s.lnu.length none] := by
  obtain ⟨j, q, hj, hq, hqst, huniq⟩ := hf.one.slot
  obtain rfl := huniq k r hr hst
  have hpush : s.pushRecord k = State.told
      { s.setSlot k (some { r with state := .held }) with stb.group := s.stb.group ++ [k] }
      [.stemOpened r.handle k r.species r.fellingOrder] := by
    rw [State.pushRecord, hr]
    exact State.offerNotice_eq_told _ _
  have htarget := State.target?_eq_none (State.groupState_ne_of_held (State.Felling.pushed hg hf hj).2.1.all)
  rw [State.completeFelling, hj]
  simp only
  rw [hpush] at htarget ⊢
  rw [State.told_target?] at htarget
  rw [State.told_enter, htarget, State.moveTo_resting _ _ (SeqState.resting_of (.inr rfl))]
  rfl

/-- Settles O50: SAW_END, by the state it comes in. -/
theorem sawEndRecordsPieces : Obligations.SawEndRecordsPieces := by
  intro s hlaw hh run len asserted cleared
  obtain ⟨hg, hphase⟩ := s.stemLaw_iff.mp hlaw
  have hrun : run = .next asserted.sawEndAsserts.transmit := rfl
  refine ⟨rfl, fun hst => ?_, fun hst => ?_, fun k r hst hr hrst => ?_, fun k lead hst hl => ?_⟩
  · have hsame : asserted.sawEndAsserts = asserted := by
      simp only [List.mem_cons, List.not_mem_nil, or_false, not_or] at hst
      unfold State.sawEndAsserts
      rw [show asserted.fcs.state = s.fcs.state from rfl]
      cases hs : s.fcs.state <;> simp_all
    rw [hrun, hsame]
  · rw [hrun, State.sawEndAsserts, show asserted.fcs.state = .idle from hst]
    simp only
    rw [State.clearPieceFlags_eq]
    rfl
  · rw [hst] at hphase
    have hga : asserted.GroupLaw := ⟨hg.records, hg.nodup, hg.size, hg.mem⟩
    have hfa : asserted.Felling := ⟨hphase.one, hphase.all, hphase.room⟩
    rw [hrun, State.sawEndAsserts, show asserted.fcs.state = .felling from hst]
    simp only
    rw [State.completeFelling_eq hga hfa hr hrst, show asserted.fcs.state = .felling from hst]
  · intro piece after
    have hcut : run = .next asserted.completeCut.transmit := by
      rw [hrun, State.sawEndAsserts, show asserted.fcs.state = .cutting from hst]
    have hla : asserted.lead? = some (k, lead) := hl
    have after_of {member : StemRecord → Piece} {changed change : StemRecord → StemRecord} {target : Option Int}
        (hc : ∀ q, (change q).state = q.state ∧ (change q).role = q.role ∧
          (change q).handle = q.handle ∧ (change q).pieces = q.pieces) (hfrozen : ∀ q, (change q).frozen = q.frozen)
        (hrec : (if asserted.fcs.cutKind = some .offPlan then asserted.recordOffPlanCut else asserted.recordPlannedCut) =
          ((asserted.recordPieces member).modifyLead change).notifyPieces)
        (hchange : change (lead.withPiece member) = changed (lead.withPiece member))
        (htarget : (changed (lead.withPiece member)).plan.head?.map (·.cutPosition) = target)
        (hpos : ∀ q, (member q).cutPosition = len) : after member changed target := by
      obtain ⟨v, hv, htold⟩ := State.recordCut_eq (A := asserted) (s := s) rfl hg.nodup hl member hc
      have hkind : StemRecord.Kindly (leadRule k change fun _ => StemRecord.withPiece member) :=
        leadRule_kindly (g := fun _ => StemRecord.withPiece member) (fun _ _ => ⟨rfl, rfl⟩) (fun q => ⟨(hc q).1, (hc q).2.1⟩) k
      have hvlead : v.lead? = some (k, changed (lead.withPiece member)) := by
        rw [hv.lead? hkind, hl]
        simp [leadRule, hchange]
      have hvtarget : v.target? = target := by rw [State.target?, hvlead, ← htarget]
      have hvhome : v.lines.sawHome.accepted = false := by rw [hv.rest]; exact hh
      obtain ⟨b, hasks, hret⟩ := State.told_returns (v := v) (s.members.map fun m => m.2.cutNotice (member m.2)) hvhome
      have hcomplete : asserted.completeCut = State.enterSawReturn
          { (v.told (s.members.map fun m => m.2.cutNotice (member m.2))).clearPieceFlags.requestPass with
            fcs.reversals := 0, fcs.overshoot := false } := by rw [State.completeCut, hrec, htold]
      refine ⟨_, hcut.trans (congrArg (fun u : State => Host.Outcome.next u.transmit) (hcomplete.trans hret)), ?_⟩
      have hlnu : v.lnu = s.lnu := by rw [hv.rest]
      have hfcs : v.fcs = s.fcs := by rw [hv.rest]
      have hnotices : s.members.map (fun m => m.2.cutNotice (member m.2)) = s.members.map fun m =>
          .pieceCut m.2.handle m.2.pieces.length (member m.2).kind len (member m.2).actual (member m.2).assortment
            (member m.2).value := List.map_congr_left fun m _ => by rw [StemRecord.cutNotice, hpos]
      refine ⟨?_, ?_, ?_, ?_, fun i q hi hq => ?_, fun i hi => ?_, ?_⟩
      · simp only [State.told_stb, State.told_bke]
        refine (State.told_eq _ _).trans ?_
        rw [hv.rest]
        rfl
      · rw [State.told_stb]
        exact hv.group
      · rw [State.told_stb]
        exact hv.nextHandle
      · rw [State.told_bke, State.Asks, ← hv.plannable? hkind fun i q => ?_]
        · have hbke : v.bke = s.bke := by rw [hv.rest]
          rw [← hbke]
          exact hasks
        · unfold leadRule
          split
          · exact hfrozen _
          · rfl
      · refine (State.told_record? _ _ _).trans ((hv.records i).trans ?_)
        rw [if_pos ⟨hi, State.groupState_of_lead? hl⟩, hq, Option.map_some]
        unfold leadRule
        by_cases hk : i = k
        · subst hk
          obtain rfl := Option.some.inj (hq.symm.trans (State.lead?_spec hl).1)
          rw [if_pos rfl, hchange, if_pos rfl]
          rfl
        · rw [if_neg hk, if_neg hk]
          rfl
      · refine (State.told_record? _ _ _).trans ((hv.records i).trans ?_)
        rw [if_neg fun h => hi h.1]
      · rw [hnotices, hlnu, hfcs, hst, hvtarget]
        refine State.told_hbp ?_ _
        rw [hv.rest]
    clear_value after
    refine ⟨fun p rest hkind hplan => ?_, fun hkind => ?_⟩
    · intro left
      have hrec : (if asserted.fcs.cutKind = some .offPlan then asserted.recordOffPlanCut else asserted.recordPlannedCut) =
          ((asserted.recordPieces (asserted.plannedPiece p)).modifyLead (StemRecord.advancePlan p len)).notifyPieces := by
        rw [if_neg (by rw [show asserted.fcs.cutKind = s.fcs.cutKind from rfl, hkind]; decide), State.recordPlannedCut, hla]
        simp only
        rw [hplan]
      refine after_of (change := StemRecord.advancePlan p len) (fun q => ?_) (fun q => ?_) ?_ ?_ ?_ fun q => ?_
      · unfold StemRecord.advancePlan
        simp only
        split <;> exact ⟨rfl, rfl, rfl, rfl⟩
      · unfold StemRecord.advancePlan
        simp only
        split <;> rfl
      · exact hrec
      · exact StemRecord.advancePlan_eq (q := lead.withPiece _) hplan len
      · rfl
      · rfl
    · refine after_of (change := StemRecord.dropPlan) (fun q => ⟨rfl, rfl, rfl, rfl⟩) (fun q => rfl) ?_ rfl rfl fun q => rfl
      rw [if_pos (by exact hkind), State.recordOffPlanCut]
      have hpiece : asserted.offPlanPiece = fun q => piece
          (if len - (q.pieces.getLast?.map (·.cutPosition)).getD 0 < 500 then .wasteCut else .operatorCut) false q := by
        funext q
        unfold State.offPlanPiece
        simp only
        split
        next h => rw [if_pos (by exact h)]; rfl
        next h => rw [if_neg (by exact h)]; rfl
      rw [hpiece]

end Sys2Proof.Machine

/-! PROOF. The completion of a pass (R127 to R132, R134, R136): its outcome, what it leaves in the lead's record, and the pass
that follows. -/

namespace Sys2Proof.Machine

open Sys2Proof

/-! ### The next pass (R134) -/

section Next

variable {s t : State} {l : List Notice} {k n : Nat} {r r' : StemRecord} {o : PassOutcome}

/-- The Bucking Engine with an outcome recorded: STALE and LATE ask for another pass (R122, R128, R129). -/
def BuckingEngine.recorded (b : BuckingEngine) (o : PassOutcome) (n : Nat) : BuckingEngine :=
  { b with lastOutcome := o, lastOutcomePass := n, flag := b.flag || decide (o = .stale ∨ o = .late) }

theorem State.plannable?_congr (h : s.stb = t.stb) : s.plannable? = t.plannable? := by
  rw [State.plannable?, State.plannable?, State.lead?_congr h]

/-- The pass ends: the next one starts where it is asked for and the lead can be planned for. -/
theorem State.nextPass_ends (hb : t.bke = s.bke.recorded o n) (hp : t.plannable?.isSome = s.plannable?.isSome) :
    ∃ b, s.PassEnds n o b ∧ t.nextPass = t.withBke b := by
  have hasked : (s.bke.recorded o n).flag = true ↔ s.bke.flag = true ∨ o = .stale ∨ o = .late := by
    simp [BuckingEngine.recorded]
  have hplan : State.plannable? { t with bke.inFlight := none, bke.flag := false } = t.plannable? := State.plannable?_congr rfl
  unfold State.nextPass State.PassEnds
  simp only
  rw [hplan]
  by_cases hc : (s.bke.flag = true ∨ o = .stale ∨ o = .late) ∧ s.plannable?.isSome
  · obtain ⟨lead, hlead⟩ := Option.isSome_iff_exists.mp (hp.trans hc.2)
    simp only [if_pos hc]
    rw [hb, hasked.mpr hc.1, hlead]
    exact ⟨_, ⟨rfl, rfl, rfl, rfl, _, rfl, rfl, rfl⟩, rfl⟩
  · simp only [if_neg hc]
    refine ⟨{ s.bke.recorded o n with inFlight := none, flag := false }, ⟨rfl, rfl, rfl, rfl, rfl⟩, ?_⟩
    rw [hb]
    split
    next lead hflag hlead => exact absurd ⟨hasked.mp hflag, by rw [← hp, hlead]; rfl⟩ hc
    · rfl

theorem State.told_nextPass (hb : t.bke = s.bke.recorded o n) (hp : t.plannable?.isSome = s.plannable?.isSome) :
    ∃ b, s.PassEnds n o b ∧ (t.told l).nextPass = (t.withBke b).told l := by
  obtain ⟨b, hends, heq⟩ := State.nextPass_ends (t := t.told l) ((t.told_bke l).trans hb)
    ((congrArg Option.isSome (State.plannable?_congr (t.told_stb l))).trans hp)
  exact ⟨b, hends, heq.trans (State.told_comm t l (g := fun u => u.withBke b) fun _ _ => rfl)⟩

/-! ### The outcome (R127 to R132) -/

theorem SeqState.isStop_iff {st : SeqState} : st.isStop = true ↔ st = .waiting ∨ st = .settling ∨ st = .atTarget ∨ st = .paused := by
  cases st <;> simp [SeqState.isStop]

/-- The record of an outcome that leaves the plans alone. -/
theorem State.actOn_rests (ho : o = .discarded ∨ o = .stale ∨ o = .late) (held : Option Override) (res : PassResult) :
    s.actOn held res o = s.withBke (s.bke.recorded o res.passNumber) := by
  rcases ho with rfl | rfl | rfl
  · unfold State.actOn State.recordOutcome State.withBke BuckingEngine.recorded
    simp
  · unfold State.actOn State.recordOutcome State.withBke BuckingEngine.recorded
    simp
  · unfold State.actOn State.recordOutcome State.withBke BuckingEngine.recorded
    simp

/-- The override that a result leaves: one that it dropped goes, unless another stands by now (R117, R130). -/
def StemRecord.spared (r : StemRecord) (held : Option Override) (res : PassResult) : Option Override :=
  if res.flags.overrideDropped = true ∧ r.override = held then none else r.override

theorem StemRecord.afterDropped_eq (r : StemRecord) (held : Option Override) (res : PassResult) :
    r.afterDropped held res = { r with override := r.spared held res } := by
  unfold StemRecord.afterDropped StemRecord.spared
  by_cases hd : res.flags.overrideDropped = true ∧ r.override = held
  · rw [if_pos hd]
    by_cases ho : r.override = none
    · rw [if_neg (by simp [ho]), ← ho]
    · rw [if_pos (by simp [hd.1, Option.isSome_iff_ne_none.mpr ho, decide_eq_true hd.2])]
  · rw [if_neg hd, if_neg]
    simp only [Bool.and_eq_true, decide_eq_true_eq]
    exact fun h => hd ⟨h.1.1, h.2⟩

theorem State.withBke_told_setSlot (s : State) (b : BuckingEngine) (k : Nat) (q : Option StemRecord) :
    (s.withBke b).setSlot k q = (s.setSlot k q).withBke b := rfl

theorem State.actOn_installed (hl : s.lead? = some (k, r)) (held : Option Override) (res : PassResult) :
    s.actOn held res .installed =
      ((s.setSlot k (some { r.takes res with override := r.spared held res })).withBke
        (s.bke.recorded .installed res.passNumber)).told [r.tells .direct res] := by
  have hb : (s.recordOutcome .installed res.passNumber) = s.withBke (s.bke.recorded .installed res.passNumber) := by
    unfold State.recordOutcome State.withBke BuckingEngine.recorded
    simp
  unfold State.actOn
  rw [hb]
  simp only
  rw [show (s.withBke (s.bke.recorded .installed res.passNumber)).lead? = some (k, r) from hl]
  simp only
  rw [State.install, StemRecord.installed_eq, StemRecord.afterDropped_eq, State.offerNotice_eq_told]
  rfl

theorem State.actOn_held (hl : s.lead? = some (k, r)) (held : Option Override) (res : PassResult) :
    s.actOn held res .held =
      (s.setSlot k (some { r with pendingPlan := some res, override := r.spared held res })).withBke
        (s.bke.recorded .held res.passNumber) := by
  have hb : (s.recordOutcome .held res.passNumber) = s.withBke (s.bke.recorded .held res.passNumber) := by
    unfold State.recordOutcome State.withBke BuckingEngine.recorded
    simp
  unfold State.actOn
  rw [hb]
  simp only
  rw [show (s.withBke (s.bke.recorded .held res.passNumber)).lead? = some (k, r) from hl]
  simp only
  rw [StemRecord.afterDropped_eq]
  rfl

end Next

/-! ### The pass finished -/

section Finish

variable {s : State} {p : Pass} {k : Nat} {r : StemRecord} {o : PassOutcome}

theorem State.finishPass_rests (h : s.outcome p.void (p.snapshot.result p.number) = o)
    (ho : o = .discarded ∨ o = .stale ∨ o = .late) : ∃ b, s.PassEnds p.number o b ∧ s.finishPass p = s.withBke b := by
  unfold State.finishPass
  simp only
  rw [h, State.actOn_rests ho]
  exact State.nextPass_ends rfl (congrArg Option.isSome (State.plannable?_congr rfl))

theorem State.finishPass_installed (hl : s.lead? = some (k, r))
    (h : s.outcome p.void (p.snapshot.result p.number) = .installed) : ∃ b, s.PassEnds p.number .installed b ∧
      s.finishPass p = State.told (State.withBke (s.setSlot k (some { r.takes (p.snapshot.result p.number) with
        override := r.spared p.snapshot.override (p.snapshot.result p.number) })) b)
        [r.tells .direct (p.snapshot.result p.number)] := by
  unfold State.finishPass
  simp only
  rw [h, State.actOn_installed hl]
  exact State.told_nextPass rfl ((congrArg Option.isSome (State.plannable?_congr rfl)).trans
    (State.plannable?_setSlot (State.lead?_spec hl).1 rfl rfl rfl))

theorem State.finishPass_held (hl : s.lead? = some (k, r))
    (h : s.outcome p.void (p.snapshot.result p.number) = .held) : ∃ b, s.PassEnds p.number .held b ∧
      s.finishPass p = State.withBke (s.setSlot k (some { r with
        pendingPlan := some (p.snapshot.result p.number)
        override := r.spared p.snapshot.override (p.snapshot.result p.number) })) b := by
  unfold State.finishPass
  simp only
  rw [h, State.actOn_held hl]
  exact State.nextPass_ends rfl ((congrArg Option.isSome (State.plannable?_congr rfl)).trans
    (State.plannable?_setSlot (State.lead?_spec hl).1 rfl rfl rfl))

/-- The tests at a completion in their order. -/
theorem State.outcome_lead (hl : s.lead? = some (k, r)) (res : PassResult) :
    s.outcome false res = if r.plansFrom ≠ res.origin then .stale
      else if s.late r res then .late
      else if r.updateMode = .immediate ∨ s.fcs.state.isStop then .installed else .held := by
  unfold State.outcome
  rw [if_neg (by decide), hl]
  simp only [StemRecord.stale_iff]

theorem State.outcome_discarded {void : Bool} (h : void = true ∨ s.lead? = none) (res : PassResult) :
    s.outcome void res = .discarded := by
  unfold State.outcome
  obtain rfl | hl := h
  · rfl
  · rw [hl]
    cases void <;> rfl

theorem State.outcome_stale (hl : s.lead? = some (k, r)) {res : PassResult} (h : r.plansFrom ≠ res.origin) :
    s.outcome false res = .stale := by rw [State.outcome_lead hl, if_pos h]

theorem State.outcome_late (hl : s.lead? = some (k, r)) {res : PassResult} (h : r.plansFrom = res.origin) (ht : s.TooLate r res) :
    s.outcome false res = .late := by
  rw [State.outcome_lead hl, if_neg (not_not.mpr h), if_pos ((State.late_iff s r res).mpr ht)]

theorem State.outcome_installed (hl : s.lead? = some (k, r)) {res : PassResult} (h : r.plansFrom = res.origin)
    (ht : ¬s.TooLate r res) (hi : r.updateMode = .immediate ∨ s.fcs.state = .waiting ∨ s.fcs.state = .settling ∨
      s.fcs.state = .atTarget ∨ s.fcs.state = .paused) : s.outcome false res = .installed := by
  rw [State.outcome_lead hl, if_neg (not_not.mpr h), if_neg (mt (State.late_iff s r res).mp ht),
    if_pos (hi.imp_right SeqState.isStop_iff.mpr)]

theorem State.outcome_held (hl : s.lead? = some (k, r)) {res : PassResult} (h : r.plansFrom = res.origin)
    (ht : ¬s.TooLate r res) (hm : r.updateMode = .atStop) (hi : ¬(s.fcs.state = .waiting ∨ s.fcs.state = .settling ∨
      s.fcs.state = .atTarget ∨ s.fcs.state = .paused)) : s.outcome false res = .held := by
  rw [State.outcome_lead hl, if_neg (not_not.mpr h), if_neg (mt (State.late_iff s r res).mp ht), if_neg]
  rintro (hmode | hstop)
  · simp [hm] at hmode
  · exact hi (SeqState.isStop_iff.mp hstop)

end Finish

/-! ### The report to the sequencer (R146, R147) -/

theorem exec_passComplete {s : State} {p : Pass} (h : s.bke.inFlight = some p) :
    exec .passComplete s = .next (s.finishPass p).completionReport.transmit := by
  show execPassComplete s = _
  rw [execPassComplete, h]

/-- The sequencer stays where the plan it feeds to stands, or the pass it waits for is outstanding. -/
theorem State.completionReport_rests {t : State} (hw : t.fcs.state = .waiting → t.target? = none ∧ t.passOutstanding = true)
    (hf : t.fcs.state = .feeding → t.target? ≠ none) : t.completionReport = t := by
  unfold State.completionReport
  cases hst : t.fcs.state
  case waiting =>
    obtain ⟨ht, ho⟩ := hw hst
    simp [State.planNonempty_of_none ht, ho]
  case feeding =>
    obtain ⟨x, hx⟩ := Option.ne_none_iff_exists'.mp (hf hst)
    simp [State.planNonempty_of_target? hx]
  all_goals rfl

/-- Settles O55: a completed pass that leaves the sequencer where it is. -/
theorem passCompletes : Obligations.PassCompletes := by
  intro s p hp run res rests
  have hrun : run = .next (s.finishPass p).completionReport.transmit := exec_passComplete hp
  have run_of {t u : State} {l : List Notice} {plan : List PlanPiece} {o : PassOutcome} {b : BuckingEngine}
      (hends : s.PassEnds p.number o b) (heq : s.finishPass p = State.told (u.withBke b) l) (hfcs : u.fcs = s.fcs)
      (htarget : u.target? = plan.head?.map (·.cutPosition)) (hrests : rests plan o) (ht : State.told (u.withBke b) l = t) :
      run = .next t.transmit := by
    have htarget' : (State.told (u.withBke b) l).target? = plan.head?.map (·.cutPosition) := by
      rw [State.told_target?]
      exact htarget
    rw [hrun, heq, State.completionReport_rests, ht]
    · rw [State.told_fcs, htarget']
      intro hst
      obtain ⟨hplan, hasked⟩ := hrests.1 ((congrArg (·.state) hfcs).symm.trans hst)
      refine ⟨by rw [hplan]; rfl, ?_⟩
      rw [State.passOutstanding_told, State.passOutstanding_iff]
      obtain ⟨-, -, -, hnext⟩ := hends
      rw [if_pos hasked] at hnext
      obtain ⟨-, q, hq, -⟩ := hnext
      exact .inl (by show b.inFlight ≠ none; rw [hq]; simp)
    · rw [State.told_fcs, htarget']
      intro hst
      have hplan := hrests.2 ((congrArg (·.state) hfcs).symm.trans hst)
      cases plan with
      | nil => exact absurd rfl hplan
      | cons x rest => simp
  have htarget (k : Nat) (r : StemRecord) (hl : s.lead? = some (k, r)) : s.target? = r.plan.head?.map (·.cutPosition) :=
    State.target?_of_lead? hl
  refine ⟨fun h hrests => ?_, fun k r hv hl => ?_⟩
  · obtain ⟨b, hends, heq⟩ := State.finishPass_rests (s := s) (State.outcome_discarded h res) (.inl rfl)
    refine ⟨b, hends, run_of (u := s) (l := []) hends heq rfl ?_ hrests rfl⟩
    cases hl : s.lead? with
    | none => rw [State.target?, hl]; rfl
    | some m => exact htarget m.1 m.2 hl
  · intro stops spared
    refine ⟨fun ho hrests => ?_, fun ho ht hrests => ?_, fun ho ht hi hrests => ?_, fun ho ht hm hi hrests => ?_⟩
    · obtain ⟨b, hends, heq⟩ := State.finishPass_rests (s := s) (p := p) (hv ▸ State.outcome_stale hl ho) (.inr (.inl rfl))
      exact ⟨b, hends, run_of (u := s) (l := []) hends heq rfl (htarget k r hl) hrests rfl⟩
    · obtain ⟨b, hends, heq⟩ := State.finishPass_rests (s := s) (p := p) (hv ▸ State.outcome_late hl ho ht) (.inr (.inr rfl))
      exact ⟨b, hends, run_of (u := s) (l := []) hends heq rfl (htarget k r hl) hrests rfl⟩
    · obtain ⟨b, hends, heq⟩ := State.finishPass_installed (p := p) hl (hv ▸ State.outcome_installed hl ho ht hi)
      exact ⟨b, hends, run_of hends heq rfl (State.target?_of_lead? (State.lead?_setSlot hl rfl rfl)) hrests rfl⟩
    · obtain ⟨b, hends, heq⟩ := State.finishPass_held (p := p) hl (hv ▸ State.outcome_held hl ho ht hm hi)
      exact ⟨b, hends, run_of (l := []) hends heq rfl (State.target?_of_lead? (State.lead?_setSlot hl rfl rfl)) hrests rfl⟩

end Sys2Proof.Machine

/-! PROOF. A pulse of an encoder (R44, R46, R48, R49, R53, R55): the lines and counts, the length, what it does to the records, the
sequencer and the profile trigger, and the window. -/

namespace Sys2Proof.Machine

open Sys2Proof

/-! ### Lines and counts (R44) -/

theorem State.stepEncoder_eq (s : State) (e : Encoder) (d : Direction) : s.stepEncoder e d = { s with lines := s.lines.turn e d } := by
  have hstep (a b : LineFilter) : stepLines d a b =
      (a.atLevel (turned d (a.accepted, b.accepted)).1, b.atLevel (turned d (a.accepted, b.accepted)).2) := by
    unfold stepLines turned LineFilter.atLevel LineFilter.settled
    cases d <;> cases a.accepted <;> cases b.accepted <;> rfl
  cases e
  · unfold State.stepEncoder InputLines.turn
    simp only [hstep]
  · unfold State.stepEncoder InputLines.turn
    simp only [hstep]

theorem countPulse_eq (d : Direction) (n : Int) : countPulse d n = tally d n := by
  unfold countPulse tally
  rw [clampInt_eq (by decide)]
  cases d <;> rfl

theorem State.addPulse_eq (s : State) (e : Encoder) (d : Direction) : s.addPulse e d = { s with lnu := s.lnu.counted e d } := by
  unfold State.addPulse LengthUnit.counted
  simp only [countPulse_eq]
  cases e <;> rfl

section Pulse

variable {s t u : State} {e : Encoder} {d : Direction} {g : Nat → StemRecord → StemRecord} {k : Nat} {r : StemRecord}

/-- The state once a pulse is counted. -/
def State.counting (s : State) (e : Encoder) (d : Direction) : State :=
  { s with lines := s.lines.turn e d, lnu := s.lnu.counted e d }

theorem LengthUnit.counted_source (l : LengthUnit) (e : Encoder) (d : Direction) : (l.counted e d).source = l.source := by
  cases e <;> rfl

theorem LengthUnit.counted_length (l : LengthUnit) (e : Encoder) (d : Direction) : (l.counted e d).length = l.length := by
  cases e <;> rfl

theorem LengthUnit.counted_trigger (l : LengthUnit) (e : Encoder) (d : Direction) : (l.counted e d).trigger = l.trigger := by
  cases e <;> rfl

theorem State.isActive_iff (s : State) (e : Encoder) : s.isActive e = true ↔ (e == .wheel) = s.lnu.onWheel := by
  unfold State.isActive LengthUnit.onWheel
  rw [SourceState.usesWheel_beq]
  cases e <;> cases s.lnu.source.usesWheel <;> decide

theorem State.counting_isActive : (s.counting e d).isActive e = true ↔ (e == .wheel) = s.lnu.onWheel := by
  rw [State.isActive_iff, LengthUnit.onWheel, LengthUnit.onWheel]
  rw [show (s.counting e d).lnu.source = s.lnu.source from s.lnu.counted_source e d]

theorem exec_encoderPulse (s : State) (e : Encoder) (d : Direction) : exec (.encoderPulse e d) s =
    .next (State.transmit (State.accountWindow
      (if (e == .wheel) = s.lnu.onWheel then (s.counting e d).updateLength else s.counting e d) e d)) := by
  have hcount : (s.stepEncoder e d).addPulse e d = s.counting e d := by
    rw [State.addPulse_eq, State.stepEncoder_eq]
    rfl
  show Host.Outcome.next (State.transmit (State.pulse (s.stepEncoder e d) e d)) = _
  unfold State.pulse
  simp only
  rw [hcount]
  by_cases h : (e == .wheel) = s.lnu.onWheel
  · rw [if_pos h, if_pos (State.counting_isActive.mpr h)]
  · rw [if_neg h, if_neg (mt State.counting_isActive.mp h)]

/-! ### The window (R55) -/

theorem State.rollerDelta_eq (s : State) :
    s.rollerDelta = (s.lnu.window.rollerCount * 10000).tdiv s.params.rollerConstant := pulsesToMm_eq _ _

theorem State.wheelDelta_eq (s : State) :
    s.wheelDelta = (s.lnu.window.wheelCount * 10000).tdiv s.params.wheelConstant := pulsesToMm_eq _ _

/-- A pulse that ends no window: a reverse roller pulse starts a new one. -/
theorem State.accountWindow_open (h : e = .roller → d = .forward →
    (s.lnu.window.rollerCount * 10000).tdiv s.params.rollerConstant < s.lnu.window.size) :
    s.accountWindow e d =
      { s with lnu := if e = .roller ∧ d = .reverse then s.lnu.reopened s.params else s.lnu } := by
  cases e with
  | wheel => rfl
  | roller =>
    cases d with
    | forward =>
      refine (if_neg ?_).trans rfl
      rw [State.rollerDelta_eq]
      exact not_le.mpr (h rfl rfl)
    | reverse => rfl

/-! ### The length reaches its consumers (R13, R49) -/

theorem StemRecord.reached_eq (q : StemRecord) (len : Int) : q.reached len = { q with furthest := max q.furthest len } := by
  unfold StemRecord.reached
  split
  next h => rw [max_eq_right h.le]
  next h => rw [max_eq_left (not_lt.mp h)]

/-- The length as a counted pulse gives it, without the update of its consumers. -/
theorem State.updateLength_same (h : (s.lnu.converted s.params).length = s.lnu.length) :
    s.updateLength = { s with lnu := s.lnu.converted s.params } := by
  unfold State.updateLength
  rw [State.recompute_eq]
  exact if_pos h

theorem State.updateLength_changed (h : (s.lnu.converted s.params).length ≠ s.lnu.length) :
    s.updateLength = State.lengthUpdate { s with lnu := s.lnu.converted s.params }
      (decide (s.lnu.length < (s.lnu.converted s.params).length)) := by
  unfold State.updateLength
  rw [State.recompute_eq]
  exact if_neg h

/-- The stall reference and timer where the feed has moved (R158). -/
def Sequencer.tracked (f : Sequencer) (len : Int) : Sequencer :=
  if 5 ≤ (len - f.stallReference).natAbs then { f with stallReference := len, stallTimer := some 0 } else f

/-- The feed runs to a target. -/
abbrev SeqState.Feeds (st : SeqState) : Prop := st = .feeding ∨ st = .creeping ∨ st = .reversing

theorem State.trackMovement_feeds (h : s.fcs.state.Feeds) : s.trackMovement = s.withFcs (s.fcs.tracked s.lnu.length) := by
  have hmoved : (if s.stallMoved = true then ({ s with fcs.stallReference := s.lnu.length, fcs.stallTimer := some 0 } : State)
      else s) = s.withFcs (s.fcs.tracked s.lnu.length) := by
    unfold State.stallMoved Sequencer.tracked
    simp only [decide_eq_true_eq]
    split <;> rfl
  unfold State.trackMovement
  rcases h with h | h | h
  · rw [h]
    exact hmoved
  · rw [h]
    exact hmoved
  · rw [h]
    exact hmoved

theorem State.trackMovement_rests (h : ¬s.fcs.state.Feeds) : s.trackMovement = s := by
  unfold State.trackMovement
  cases hs : s.fcs.state
  case feeding => exact absurd (.inl hs) h
  case creeping => exact absurd (.inr (.inl hs)) h
  case reversing => exact absurd (.inr (.inr hs)) h
  all_goals rfl

theorem State.targetTest_rests (h : ¬s.fcs.state.Feeds) (forward : Bool) : s.targetTest forward = s := by
  unfold State.targetTest
  cases hs : s.fcs.state
  case feeding => exact absurd (.inl hs) h
  case creeping => exact absurd (.inr (.inl hs)) h
  case reversing => exact absurd (.inr (.inr hs)) h
  all_goals rfl

theorem State.sequencerUpdate_rests (h : ¬s.fcs.state.Feeds) (forward : Bool) : s.sequencerUpdate forward = s := by
  rw [State.sequencerUpdate, State.targetTest_rests h, State.trackMovement_rests h]

/-- The state after a pulse, before the consumers of a changed length: the counts, and the length of the active encoder. -/
def State.pulsed (s : State) (e : Encoder) (d : Direction) : State :=
  { s.counting e d with
    lnu := if (e == .wheel) = s.lnu.onWheel then (s.lnu.counted e d).converted s.params else s.lnu.counted e d }

/-- A pulse that leaves the length has no consumer but the window. -/
theorem exec_encoderPulse_still (h : (s.pulsed e d).lnu.length = s.lnu.length) :
    exec (.encoderPulse e d) s = .next (State.transmit ((s.pulsed e d).accountWindow e d)) := by
  rw [exec_encoderPulse]
  unfold State.pulsed at h ⊢
  by_cases ha : (e == .wheel) = s.lnu.onWheel
  · simp only [if_pos ha] at h ⊢
    rw [State.updateLength_same (h.trans (s.lnu.counted_length e d).symm)]
    rfl
  · simp only [if_neg ha]
    rfl

/-- A pulse that changes the length hands it on. -/
theorem exec_encoderPulse_moves (h : (s.pulsed e d).lnu.length ≠ s.lnu.length) :
    exec (.encoderPulse e d) s = .next (State.transmit
      (((s.pulsed e d).lengthUpdate (decide (s.lnu.length < (s.pulsed e d).lnu.length))).accountWindow e d)) := by
  have hlen := s.lnu.counted_length e d
  rw [exec_encoderPulse]
  unfold State.pulsed at h ⊢
  by_cases ha : (e == .wheel) = s.lnu.onWheel
  · simp only [if_pos ha] at h ⊢
    rw [State.updateLength_changed (s := s.counting e d) fun hc => h (hc.trans hlen),
      show (s.counting e d).lnu.length = s.lnu.length from hlen]
    rfl
  · simp only [if_neg ha] at h
    exact absurd hlen h

theorem State.pulsed_lnu : (s.pulsed e d).lnu.source = s.lnu.source ∧ (s.pulsed e d).lnu.trigger = s.lnu.trigger ∧
    (s.pulsed e d).lnu.window.rollerCount = (s.lnu.counted e d).window.rollerCount ∧
    (s.pulsed e d).lnu.window.size = (s.lnu.counted e d).window.size := by
  have hl := And.intro (s.lnu.counted_source e d) (s.lnu.counted_trigger e d)
  unfold State.pulsed
  by_cases ha : (e == .wheel) = s.lnu.onWheel
  · simp only [if_pos ha]
    exact ⟨hl.1, hl.2, rfl, rfl⟩
  · simp only [if_neg ha]
    exact ⟨hl.1, hl.2, trivial, trivial⟩

/-! ### The profile trigger (R53, R71) -/

/-- The FEED requester is busy (R70). -/
abbrev DiameterSequencer.FeedBusy (d : DiameterSequencer) : Prop := d.feedPending ≠ none ∨ d.stateNumber = 1

theorem DiameterSequencer.feedBusy_iff {d : DiameterSequencer} : d.feedBusy = true ↔ d.FeedBusy := by
  simp [DiameterSequencer.feedBusy, DiameterSequencer.FeedBusy, Option.isSome_iff_ne_none]

theorem State.arbitrate_eq (s : State) : s.arbitrate = { s with dsq := s.arbitrate.dsq } := by
  have h := State.arbitrate_frame s
  cases h' : s.arbitrate
  simp_all

theorem State.raiseFeed_free (h : ¬s.dsq.FeedBusy) (f : FeedRequest) :
    s.raiseFeed f = { s with dsq := s.dsq.fed s.params f } := by
  rw [← State.raiseFeed_dsq]
  have hraise : s.raiseFeed f = State.arbitrate { s with dsq.feedPending := some f } :=
    if_neg (mt DiameterSequencer.feedBusy_iff.mp h)
  rw [hraise]
  exact State.arbitrate_eq _

/-- A record whose profile sample is lost, or not (R12). -/
def StemRecord.losing (lost : Bool) (q : StemRecord) : StemRecord :=
  { q with missedSamples := if lost then min 255 (q.missedSamples + 1) else q.missedSamples }

/-- The FEED request is raised, or merged with the sample lost. -/
theorem State.Hears.raiseFeed (h : s.Hears t u g) (hn : s.stb.group.Nodup) (hg : StemRecord.Kindly g) (f : FeedRequest) :
    s.Hears { t with dsq := t.dsq.fed t.params f } (u.raiseFeed f) fun i q =>
      (g i q).losing (decide t.dsq.FeedBusy) := by
  have hdsq : u.dsq = t.dsq := by rw [h.rest]
  have hparams : u.params = t.params := by rw [h.rest]
  by_cases hb : t.dsq.FeedBusy
  · have hraise : u.raiseFeed f = u.modifyActive StemRecord.missed := if_pos (DiameterSequencer.feedBusy_iff.mpr (hdsq ▸ hb))
    have hsame : ({ t with dsq := t.dsq.fed t.params f } : State) = t := by
      rw [show t.dsq.fed t.params f = t.dsq from if_pos hb]
    rw [hraise, hsame]
    refine (h.modifyActive hn hg _).congr fun i q _ _ => ?_
    rw [decide_eq_true hb, StemRecord.missed, saturate_eq]
    rfl
  · have hfed : u.dsq.fed u.params f = t.dsq.fed t.params f := by rw [hdsq, hparams]
    rw [State.raiseFeed_free (by rwa [hdsq]), hfed]
    refine (h.map (F := fun v => { v with dsq := t.dsq.fed t.params f }) fun _ _ => rfl).congr fun i q _ _ => ?_
    rw [decide_eq_false hb]
    rfl

theorem State.leadStep_eq (hl : s.lead? = some (k, r)) : s.leadStep = r.profileStep := by rw [State.leadStep, hl]

/-- A forward update at or beyond T. -/
theorem State.Hears.triggerCheck_fires (h : s.Hears t u g) (hn : s.stb.group.Nodup) (hg : StemRecord.Kindly g)
    (hl : s.lead? = some (k, r)) (hstep : (g k r).profileStep = r.profileStep) (ht : t.lnu.trigger ≤ t.lnu.length) :
    s.Hears { t with
        dsq := t.dsq.fed t.params ⟨t.lnu.length, t.lnu.source⟩, lnu.trigger := t.lnu.trigger + r.profileStep }
      u.triggerCheck fun i q => (g i q).losing (decide t.dsq.FeedBusy) := by
  have hlnu : u.lnu = t.lnu := by rw [h.rest]
  have hraised := h.raiseFeed hn hg ⟨t.lnu.length, t.lnu.source⟩
  have hlead : (u.raiseFeed ⟨t.lnu.length, t.lnu.source⟩).leadStep = r.profileStep := by
    have hraisedLead := (hraised.lead? fun i q => hg i q).trans (congrArg _ hl)
    exact (State.leadStep_eq hraisedLead).trans hstep
  have hfire : u.triggerCheck = { u.raiseFeed ⟨t.lnu.length, t.lnu.source⟩ with
      lnu.trigger := (u.raiseFeed ⟨t.lnu.length, t.lnu.source⟩).lnu.trigger + r.profileStep } := by
    unfold State.triggerCheck
    rw [if_pos ⟨(h.groupState hg).trans (State.groupState_of_lead? hl), by rwa [hlnu]⟩]
    simp only
    rw [hlnu, hlead]
  rw [hfire]
  exact hraised.map (F := fun v => { v with lnu.trigger := v.lnu.trigger + r.profileStep }) fun _ _ => rfl

theorem State.Hears.triggerCheck_short (h : s.Hears t u g) (ht : t.lnu.length < t.lnu.trigger) : u.triggerCheck = u := by
  have hlnu : u.lnu = t.lnu := by rw [h.rest]
  refine if_neg fun hc => ?_
  rw [hlnu] at hc
  exact absurd hc.2 (not_le.mpr ht)

/-- One change of the members after another. -/
theorem State.Hears.trans {t' u' v : State} {f : Nat → StemRecord → StemRecord} (h : s.Hears t u g) (hg : StemRecord.Kindly g)
    (h' : u.Hears t' u' f) (hv : ∀ x, ({ t' with stb := x } : State) = { v with stb := x }) :
    s.Hears v u' fun i q => f i (g i q) where
  rest := h'.rest.trans (hv _)
  group := h'.group.trans h.group
  nextHandle := h'.nextHandle.trans h.nextHandle
  records i := by
    rw [h'.records, h.group, h.groupState hg, h.records]
    split
    · rw [Option.map_map]
      rfl
    · rfl

/-- The change of the length source after other changes of the members. -/
theorem State.Hears.setSource (h : s.Hears t u g) (hn : s.stb.group.Nodup) (hg : StemRecord.Kindly g) (new : SourceState) (n : Nat)
    (cause : SourceCause) :
    s.Hears (State.told { t with lnu := t.lnu.resourced new n } (t.sourceNotice new cause)) (u.setSource new n cause)
      fun i q => (g i q).hears t.lnu.source new := by
  have hlnu : u.lnu = t.lnu := by rw [h.rest]
  have hset := State.setSource_hears (s := u) (by rw [h.group]; exact hn) new n cause
  rw [hlnu] at hset
  refine h.trans hg hset fun x => ?_
  have hnotices : u.sourceNotice new cause = t.sourceNotice new cause := by rw [State.sourceNotice, State.sourceNotice, hlnu]
  have hcomm (v : State) (l : List Notice) : ({ v.told l with stb := x } : State) = State.told { v with stb := x } l :=
    State.told_comm v l (g := fun v => { v with stb := x }) fun _ _ => rfl
  rw [hcomm, hcomm, hnotices, h.rest]

/-- The Length Unit with T moved on where a FEED request is raised (R53). -/
def State.triggered (s : State) (m : LengthUnit) (step : Nat) : LengthUnit :=
  if s.Fires m.length then { m with trigger := m.trigger + step } else m

theorem State.triggered_window (s : State) (m : LengthUnit) (step : Nat) : (s.triggered m step).window = m.window := by
  unfold State.triggered
  split <;> rfl

/-- The Diameter Sequencer once the length has come to a value (R53). -/
def State.feeding (s : State) (len : Int) : DiameterSequencer :=
  if s.Fires len then s.dsq.fed s.params ⟨len, s.lnu.source⟩ else s.dsq

/-- The trigger check that a forward update ends with. -/
theorem State.Hears.trigger (h : s.Hears t u g) (hn : s.stb.group.Nodup) (hg : StemRecord.Kindly g) (hl : s.lead? = some (k, r))
    (hstep : (g k r).profileStep = r.profileStep) (hdsq : t.dsq = s.dsq) (hpar : t.params = s.params)
    (hsrc : t.lnu.source = s.lnu.source) (htr : t.lnu.trigger = s.lnu.trigger) :
    s.Hears { t with dsq := s.feeding t.lnu.length, lnu := s.triggered t.lnu r.profileStep }
      (if decide (s.lnu.length < t.lnu.length) then u.triggerCheck else u)
      fun i q => (g i q).losing (decide (s.Fires t.lnu.length ∧ s.dsq.FeedBusy)) := by
  unfold State.feeding State.triggered
  by_cases hf : s.Fires t.lnu.length
  · have hfired := h.triggerCheck_fires hn hg hl hstep (htr ▸ hf.2.2)
    rw [if_pos (decide_eq_true hf.2.1), if_pos hf, if_pos hf, ← hdsq, ← hpar, ← hsrc]
    refine hfired.congr fun i q _ _ => ?_
    rw [decide_eq_decide.mpr (and_iff_right hf)]
  · have hquiet : (if decide (s.lnu.length < t.lnu.length) then u.triggerCheck else u) = u := by
      by_cases hlt : s.lnu.length < t.lnu.length
      · rw [if_pos (decide_eq_true hlt)]
        refine h.triggerCheck_short ?_
        rw [htr]
        exact not_le.mp fun hge => hf ⟨State.groupState_of_lead? hl, hlt, hge⟩
      · exact if_neg (by simpa using hlt)
    have hsame : ({ t with dsq := s.dsq } : State) = t := by rw [← hdsq]
    rw [hquiet, if_neg hf, if_neg hf]
    refine (hsame.symm ▸ h).congr fun i q _ _ => ?_
    rw [decide_eq_false fun hc => hf hc.1]
    rfl

/-- A window that no pulse ends stays open, or starts anew at a reverse roller pulse. -/
def LengthUnit.closing (m : LengthUnit) (p : Parameters) (e : Encoder) (d : Direction) : LengthUnit :=
  if e = .roller ∧ d = .reverse then m.reopened p else m

theorem State.Hears.accountWindow_open (h : s.Hears t u g) (hopen : e = .roller → d = .forward →
    (t.lnu.window.rollerCount * 10000).tdiv t.params.rollerConstant < t.lnu.window.size) :
    s.Hears { t with lnu := t.lnu.closing t.params e d } (u.accountWindow e d) g := by
  have hlnu : u.lnu = t.lnu := by rw [h.rest]
  have hpar : u.params = t.params := by rw [h.rest]
  rw [State.accountWindow_open (by rwa [hlnu, hpar])]
  have hclose : (if e = .roller ∧ d = .reverse then u.lnu.reopened u.params else u.lnu) = t.lnu.closing t.params e d := by
    rw [hlnu, hpar]
    rfl
  rw [hclose]
  exact h.map (F := fun v => { v with lnu := t.lnu.closing t.params e d }) fun _ _ => rfl

/-- The members' furthest lengths at an update. -/
theorem State.hears_reached (hn : s.stb.group.Nodup) (ht : t.stb = s.stb) (len : Int) :
    s.Hears t (t.modifyActive (StemRecord.reached len)) fun _ q => { q with furthest := max q.furthest len } :=
  ((State.Hears.refl ht).modifyActive hn (fun _ _ => ⟨rfl, rfl⟩) _).congr fun _ q _ _ => q.reached_eq len

theorem State.StemLaw.nodup (h : s.StemLaw) : s.stb.group.Nodup := (s.stemLaw_iff.mp h).1.nodup

/-- The feed runs only with a group PROCESSING. -/
theorem State.StemLaw.rests_of_groupState (h : s.StemLaw) (hp : s.groupState ≠ .processing) : ¬s.fcs.state.Feeds := fun hf => by
  obtain ⟨hg, hphase⟩ := s.stemLaw_iff.mp h
  have hw : s.Working := by
    rcases hf with hf | hf | hf
    · rw [hf] at hphase; exact hphase
    · rw [hf] at hphase; exact hphase
    · rw [hf] at hphase; exact hphase
  exact hp (hg.groupState_processing hw.nonempty hw.all)

/-- Without a PROCESSING group an update has no consumer. -/
theorem State.lengthUpdate_idle (hp : s.groupState ≠ .processing) (hf : ¬s.fcs.state.Feeds) (forward : Bool) :
    s.lengthUpdate forward = s := by
  have hrec : s.modifyActive (StemRecord.reached s.lnu.length) = s := if_neg hp
  unfold State.lengthUpdate
  rw [hrec, State.sequencerUpdate_rests hf]
  cases forward
  · rfl
  · exact (if_pos rfl).trans (if_neg fun h => hp h.1)

end Pulse

/-- Settles O45: a pulse out of the feeding states that ends no window. -/
theorem encoderPulseMeasures : Obligations.EncoderPulseMeasures := by
  intro s e d hlaw l m hopen run closing turnedTo
  have hn := hlaw.nodup
  obtain ⟨hsrc, htr, hcount, hsize⟩ := s.pulsed_lnu (e := e) (d := d)
  have hopen' : e = .roller → d = .forward → ((s.pulsed e d).lnu.window.rollerCount * 10000).tdiv s.params.rollerConstant <
      (s.pulsed e d).lnu.window.size := by rwa [hcount, hsize]
  have hclosed : (s.pulsed e d).accountWindow e d = turnedTo := State.accountWindow_open hopen'
  refine ⟨fun h => ?_, fun h h1 h2 h3 k r hl => ?_⟩
  · by_cases hsame : (s.pulsed e d).lnu.length = s.lnu.length
    · exact (exec_encoderPulse_still hsame).trans (by rw [hclosed])
    · have hp := h.resolve_left hsame
      refine (exec_encoderPulse_moves hsame).trans ?_
      rw [State.lengthUpdate_idle (s := s.pulsed e d) hp (hlaw.rests_of_groupState hp), hclosed]
  · have hrests : ¬s.fcs.state.Feeds := fun hf => hf.elim h1 fun hf => hf.elim h2 h3
    have hreached := State.hears_reached (s := s) (t := s.pulsed e d) hn rfl m.length
    have hrests' : ¬((s.pulsed e d).modifyActive (StemRecord.reached m.length)).fcs.state.Feeds := by
      rw [hreached.rest]
      exact hrests
    have htrig := hreached.trigger hn (fun _ _ => ⟨rfl, rfl⟩) hl rfl rfl rfl hsrc htr
    have hclose := htrig.accountWindow_open (e := e) (d := d) (by simp only [State.triggered_window]; exact hopen')
    refine ⟨_, (exec_encoderPulse_moves h).trans ?_, hclose.rest.trans ?_, hclose.group, hclose.nextHandle, fun i => ?_⟩
    · unfold State.lengthUpdate
      simp only
      rw [show (s.pulsed e d).lnu.length = m.length from rfl, State.sequencerUpdate_rests hrests']
    · rfl
    · rw [hclose.records]
      simp only [State.groupState_of_lead? hl, and_true]
      rfl

end Sys2Proof.Machine

/-! PROOF. A pulse that moves the feed (R49, R147, R148, R150, R158): the approach, the arrivals and the movement, case by case
of the target and the length. -/

namespace Sys2Proof.Machine

open Sys2Proof

/-- Told notices depend on the Head Bus Port they are told to. -/
theorem State.told_of_hbp {s t : State} (h : t.hbp = s.hbp) (l : List Notice) : t.told l = { t with hbp := (s.told l).hbp } :=
  (State.told_eq t l).trans (by rw [State.told_hbp h])

/-! ### The sequencer at a length update (R147, R148, R150, R158) -/

section Update

variable {w : State} {k : Nat} {r : StemRecord} {p : PlanPiece} {rest : List PlanPiece} {forward : Bool} {t : Int}

/-- A length that has just become the stall reference has not moved from it. -/
theorem Sequencer.tracked_feedingFrom (f : Sequencer) (st : SeqState) (len : Int) :
    (f.feedingFrom st len).tracked len = f.feedingFrom st len := by
  refine if_neg ?_
  simp [Sequencer.feedingFrom]

theorem State.trackMovement_told (l : List Notice) : (w.told l).trackMovement = w.trackMovement.told l := by
  by_cases h : w.fcs.state.Feeds
  · rw [State.trackMovement_feeds h, State.trackMovement_feeds (by rwa [State.told_fcs]), State.told_fcs, State.told_lnu]
    exact State.told_comm w l (g := fun s => s.withFcs (w.fcs.tracked w.lnu.length)) fun _ _ => rfl
  · rw [State.trackMovement_rests h, State.trackMovement_rests (by rwa [State.told_fcs])]

theorem State.sequencerUpdate_tracks (hf : w.fcs.state.Feeds) (h : w.targetTest forward = w) :
    w.sequencerUpdate forward = w.withFcs (w.fcs.tracked w.lnu.length) := by
  rw [State.sequencerUpdate, h, State.trackMovement_feeds hf]

theorem State.targetTest_feeding_far (hst : w.fcs.state = .feeding) (ht : w.target? = some t)
    (h : ¬(forward = true ∧ t - w.params.slowDistance ≤ w.lnu.length)) : w.targetTest forward = w := by
  unfold State.targetTest
  rw [hst]
  simp only
  by_cases hforward : forward = true
  · rw [if_pos hforward]
    exact State.approachTest_far ht (not_le.mp fun hc => h ⟨hforward, hc⟩)
  · rw [if_neg hforward]

theorem State.targetTest_creeping_short (hst : w.fcs.state = .creeping) (ht : w.target? = some t)
    (h : ¬(forward = true ∧ t ≤ w.lnu.length)) : w.targetTest forward = w := by
  unfold State.targetTest
  rw [hst]
  simp only
  by_cases hforward : forward = true
  · rw [if_pos hforward]
    exact State.arrivalTest_short ht (not_le.mp fun hc => h ⟨hforward, hc⟩)
  · rw [if_neg hforward]

theorem State.reverseArrived_iff (ht : w.target? = some t) : w.reverseArrived = true ↔ w.lnu.length ≤ t := by
  rw [State.reverseArrived, ht]
  exact decide_eq_true_iff

theorem State.targetTest_reversing_short (hst : w.fcs.state = .reversing) (ht : w.target? = some t)
    (h : ¬(¬forward = true ∧ w.lnu.length ≤ t)) : w.targetTest forward = w := by
  unfold State.targetTest
  rw [hst]
  simp only
  refine if_neg fun hc => ?_
  obtain ⟨hback, harr⟩ := Bool.and_eq_true_iff.mp hc
  exact h ⟨by simpa using hback, (State.reverseArrived_iff ht).mp harr⟩

theorem State.targetTest_near (hst : w.fcs.state = .feeding) (ht : w.target? = some t) (hf : forward = true)
    (h : t - w.params.slowDistance ≤ w.lnu.length) : w.targetTest forward = w.commit.enterCreeping := by
  unfold State.targetTest
  rw [hst]
  simp only
  rw [if_pos hf, State.approachTest_near ht h]

theorem State.targetTest_arrives (hst : w.fcs.state = .creeping) (ht : w.target? = some t) (hf : forward = true)
    (h : t ≤ w.lnu.length) : w.targetTest forward = w.enterSettling := by
  unfold State.targetTest
  rw [hst]
  simp only
  rw [if_pos hf, State.arrivalTest_arrived ht h]

theorem State.targetTest_arrives_back (hst : w.fcs.state = .reversing) (ht : w.target? = some t) (hf : ¬forward = true)
    (h : w.lnu.length ≤ t) : w.targetTest forward = w.enterSettling := by
  unfold State.targetTest
  rw [hst]
  simp only
  refine if_pos (Bool.and_eq_true_iff.mpr ⟨by simpa using hf, (State.reverseArrived_iff ht).mpr h⟩)

/-- The items of the sequencer that a committed piece restarts (R147). -/
def Sequencer.fresh (f : Sequencer) (p : PlanPiece) : Sequencer :=
  if p.status = .planned then { f with reversals := 0, overshoot := false } else f

theorem Sequencer.fresh_state (f : Sequencer) (p : PlanPiece) : (f.fresh p).state = f.state := by
  unfold Sequencer.fresh
  split <;> rfl

/-- The lead's record with its first piece COMMITTED. -/
def State.withCommitted (s : State) (k : Nat) (r : StemRecord) (p : PlanPiece) (rest : List PlanPiece) : State :=
  s.setSlot k (some { r with plan := { p with status := .committed } :: rest })

theorem State.sequencerUpdate_creeps (hl : w.lead? = some (k, r)) (hplan : r.plan = p :: rest) (hst : w.fcs.state = .feeding)
    (hf : forward = true) (hnear : p.cutPosition - w.params.slowDistance ≤ w.lnu.length) (h : w.lnu.length < p.cutPosition) :
    w.sequencerUpdate forward =
      ((w.withCommitted k r p rest).withFcs ((w.fcs.fresh p).feedingFrom .creeping w.lnu.length)).told
        [.fcsState .feeding .creeping none w.lnu.length (some p.cutPosition)] := by
  have ht := State.target?_of_plan hl hplan
  have hcreep := State.told_enterCreeping_short (l := []) (State.committed_target? (p := p) (rest := rest) hl) h
  have hstate : (w.committed k r p rest).fcs.state = .feeding := (Sequencer.fresh_state w.fcs p).trans hst
  rw [State.sequencerUpdate, State.targetTest_near hst ht hf hnear, State.commit_eq hl hplan, ← State.told_nil (w.committed k r p rest),
    hcreep, State.trackMovement_told, State.trackMovement_feeds (.inr (.inl rfl)), hstate]
  refine congrArg (fun v : State => v.told _) ?_
  exact congrArg (fun f => (w.withCommitted k r p rest).withFcs f) (Sequencer.tracked_feedingFrom (w.fcs.fresh p) .creeping w.lnu.length)

theorem State.sequencerUpdate_passes (hl : w.lead? = some (k, r)) (hplan : r.plan = p :: rest) (hst : w.fcs.state = .feeding)
    (hf : forward = true) (hnear : p.cutPosition - w.params.slowDistance ≤ w.lnu.length) (h : p.cutPosition ≤ w.lnu.length)
    (hpend : r.pendingPlan = none) : w.sequencerUpdate forward =
      ((w.withCommitted k r p rest).withFcs { (w.fcs.fresh p).settles with stallReference := w.lnu.length }).told
        [.fcsState .feeding .creeping none w.lnu.length (some p.cutPosition),
          .fcsState .creeping .settling none w.lnu.length (some p.cutPosition)] := by
  have ht := State.target?_of_plan hl hplan
  have hsettle := State.told_enterCreeping_arrived (l := []) (State.committed_noPending (p := p) (rest := rest) hl hpend)
    (State.committed_target? hl) h
  have hstate : (w.committed k r p rest).fcs.state = .feeding := (Sequencer.fresh_state w.fcs p).trans hst
  rw [State.sequencerUpdate, State.targetTest_near hst ht hf hnear, State.commit_eq hl hplan, ← State.told_nil (w.committed k r p rest),
    hsettle, State.trackMovement_rests (by rw [State.told_fcs]; rintro (h | h | h) <;> cases h), hstate]
  rfl

theorem State.sequencerUpdate_settles (ht : w.target? = some t) (hp : w.noPending) (hst : w.targetTest forward = w.enterSettling) :
    w.sequencerUpdate forward =
      (w.withFcs w.fcs.settles).told [.fcsState w.fcs.state .settling none w.lnu.length (some t)] := by
  have hsettle := State.told_enterSettling (l := []) hp
  rw [State.told_nil, ht] at hsettle
  rw [State.sequencerUpdate, hst, hsettle, State.trackMovement_rests (by rw [State.told_fcs]; rintro (h | h | h) <;> cases h)]
  rfl

end Update

/-- Settles O46: a pulse that moves the feed. -/
theorem pulseReachesTarget : Obligations.PulseReachesTarget := by
  intro s e d k r p rest hlaw hl hplan m len hactive hmoved hopen forward busy t near triggered after fresh stays
  have hn := hlaw.nodup
  obtain ⟨hsrc, htr, -, -⟩ := s.pulsed_lnu (e := e) (d := d)
  have hlnu : (s.pulsed e d).lnu = m := by rw [State.pulsed, if_pos hactive]
  rw [hlnu] at hsrc htr
  have hreached := State.hears_reached (s := s) (t := s.pulsed e d) hn rfl len
  generalize hw : (s.pulsed e d).modifyActive (StemRecord.reached len) = w at hreached
  have hwl : w.lead? = some (k, { r with furthest := max r.furthest len }) := by
    rw [hreached.lead? (fun _ _ => ⟨rfl, rfl⟩), hl]
    rfl
  have hwlnu : w.lnu = m := by rw [hreached.rest]; exact hlnu
  have hwfcs : w.fcs = s.fcs := by rw [hreached.rest]; rfl
  have hwpar : w.params = s.params := by rw [hreached.rest]; rfl
  have hwt : w.target? = t := State.target?_of_plan hwl hplan
  have hrun : exec (.encoderPulse e d) s = .next (State.transmit (State.accountWindow
      (if decide (s.lnu.length < len) then (w.sequencerUpdate (decide forward)).triggerCheck
        else w.sequencerUpdate (decide forward)) e d)) := by
    refine (exec_encoderPulse_moves (by rw [hlnu]; exact hmoved)).trans ?_
    unfold State.lengthUpdate
    simp only
    rw [hlnu, hw]
  have after_of {f : Sequencer} {committed : Bool} {notices : List Notice} {g : Nat → StemRecord → StemRecord}
      (h : s.Hears (State.told { s.pulsed e d with fcs := f } notices) (w.sequencerUpdate (decide forward)) g)
      (hg : ∀ i q, g i q = { q with
        furthest := max q.furthest len
        plan := if i = k ∧ committed = true then { p with status := .committed } :: rest else q.plan }) :
      after f committed notices := by
    have hkind : StemRecord.Kindly g := fun i q => by rw [hg]; exact ⟨rfl, rfl⟩
    have htlnu : (State.told { s.pulsed e d with fcs := f } notices).lnu = m := (State.told_lnu _ _).trans hlnu
    have htrig := h.trigger hn hkind hl (by rw [hg]) (State.told_dsq _ _) (State.told_params _ _)
      (by rw [htlnu]; exact hsrc) (by rw [htlnu]; exact htr)
    rw [htlnu] at htrig
    have hclose := htrig.accountWindow_open (e := e) (d := d) (by
      simp only [State.triggered_window, State.told_params]
      exact hopen)
    refine ⟨_, hrun, hclose.rest.trans ?_, hclose.group, hclose.nextHandle, fun i => ?_⟩
    · rw [State.told_of_hbp (t := { s.pulsed e d with fcs := f }) (s := s) rfl]
      rfl
    · rw [hclose.records]
      simp only [State.groupState_of_lead? hl, and_true, hg]
      rfl
  have hrule : s.Hears (s.pulsed e d) w fun i q => { q with
      furthest := max q.furthest len
      plan := if i = k ∧ false = true then { p with status := .committed } :: rest else q.plan } :=
    hreached.congr fun i q _ _ => by simp
  have hlead : s.Hears (s.pulsed e d) (w.withCommitted k { r with furthest := max r.furthest len } p rest) fun i q => { q with
      furthest := max q.furthest len
      plan := if i = k ∧ true = true then { p with status := .committed } :: rest else q.plan } := by
    have hmod := hreached.modifyLead (fun _ _ => ⟨rfl, rfl⟩) hl fun q => { q with plan := { p with status := .committed } :: rest }
    have heq : w.modifyLead (fun q => { q with plan := { p with status := .committed } :: rest }) =
        w.withCommitted k { r with furthest := max r.furthest len } p rest := by
      rw [State.modifyLead, hwl]
      rfl
    rw [heq] at hmod
    refine hmod.congr fun i q _ _ => ?_
    unfold leadRule
    by_cases hk : i = k
    · rw [if_pos hk, if_pos ⟨hk, rfl⟩]
    · rw [if_neg hk, if_neg fun h => hk h.1]
  have hfcs (f : Sequencer) (l : List Notice) {v : State} {g : Nat → StemRecord → StemRecord} (h : s.Hears (s.pulsed e d) v g) :
      s.Hears (State.told { s.pulsed e d with fcs := f } l) ((v.withFcs f).told l) g :=
    (h.map (F := fun v => v.withFcs f) fun _ _ => rfl).told l
  have hstays (hf : s.fcs.state.Feeds) (h : w.targetTest (decide forward) = w) : stays := by
    have hup := State.sequencerUpdate_tracks (by rwa [hwfcs]) h
    rw [hwlnu, hwfcs] at hup
    exact after_of (hup ▸ hfcs (s.fcs.tracked len) [] hrule) fun _ _ => rfl
  have hnear_iff : near ↔ p.cutPosition - w.params.slowDistance ≤ w.lnu.length := by rw [hwpar, hwlnu]
  have hlen : w.lnu.length = len := by rw [hwlnu]
  clear_value after
  refine ⟨fun hst h => ?_, fun hst hf hnear hshort => ?_, fun hst hf hnear harr hpend => ?_, fun hst h => ?_, fun hst hf harr hpend => ?_,
    fun hst h => ?_, fun hst hf harr hpend => ?_⟩
  · refine hstays (.inl hst) (State.targetTest_feeding_far (hwfcs ▸ hst) hwt fun hc => h ⟨of_decide_eq_true hc.1, ?_⟩)
    exact hnear_iff.mpr hc.2
  · have hup := State.sequencerUpdate_creeps hwl hplan (hwfcs ▸ hst) (decide_eq_true hf) (hnear_iff.mp hnear) (hlen ▸ hshort)
    rw [hwlnu, hwfcs] at hup
    exact after_of (hup ▸ hfcs _ _ hlead) fun _ _ => rfl
  · have hup := State.sequencerUpdate_passes hwl hplan (hwfcs ▸ hst) (decide_eq_true hf) (hnear_iff.mp hnear) (hlen ▸ harr) hpend
    rw [hwlnu, hwfcs] at hup
    exact after_of (hup ▸ hfcs _ _ hlead) fun _ _ => rfl
  · refine hstays (.inr (.inl hst)) (State.targetTest_creeping_short (hwfcs ▸ hst) hwt fun hc => h ⟨of_decide_eq_true hc.1, ?_⟩)
    exact hlen ▸ hc.2
  · have hup := State.sequencerUpdate_settles hwt (State.noPending_of_lead? hwl hpend)
      (State.targetTest_arrives (hwfcs ▸ hst) hwt (decide_eq_true hf) (hlen ▸ harr))
    rw [hwlnu, hwfcs, hst] at hup
    exact after_of (hup ▸ hfcs _ _ hrule) fun _ _ => rfl
  · refine hstays (.inr (.inr hst)) (State.targetTest_reversing_short (hwfcs ▸ hst) hwt fun hc => h ⟨?_, hlen ▸ hc.2⟩)
    simpa using hc.1
  · have hup := State.sequencerUpdate_settles hwt (State.noPending_of_lead? hwl hpend)
      (State.targetTest_arrives_back (hwfcs ▸ hst) hwt (fun hc => hf (of_decide_eq_true hc)) (hlen ▸ harr))
    rw [hwlnu, hwfcs, hst] at hup
    exact after_of (hup ▸ hfcs _ _ hrule) fun _ _ => rfl

end Sys2Proof.Machine

/-! PROOF. The pulse that ends a slip window (R12, R13, R49, R53, R55 to R60): the update of the length, the judgement, and the
length source that follows. -/

namespace Sys2Proof.Machine

open Sys2Proof

/-! ### The judgement (R56, R58) -/

section Judge

variable {s t u : State} {g : Nat → StemRecord → StemRecord}

theorem State.setSource_same (s : State) (cause : SourceCause) : s.setSource s.lnu.source s.lnu.n cause = s := if_pos rfl

/-- The move at the end of a disputed window, by the source state. -/
theorem State.judgedMove_disputed (s : State) :
    (s.lnu.source = .wheel → s.judgedMove true = s.setSource .disputed 1 .disputes) ∧
    (s.lnu.source = .disputed → s.lnu.n + 1 < 3 → s.judgedMove true = s.setSource .disputed (s.lnu.n + 1) .disputes) ∧
    (s.lnu.source = .disputed → 3 ≤ s.lnu.n + 1 → s.judgedMove true = s.setSource .roller 0 .disputes) ∧
    (s.lnu.source = .roller → s.judgedMove true = s.setSource .roller s.lnu.n .disputes) ∧
    (s.lnu.source = .rejoin → s.judgedMove true = s.setSource .roller 0 .disputes) := by
  unfold State.judgedMove
  refine ⟨fun h => ?_, fun h hn => ?_, fun h hn => ?_, fun h => ?_, fun h => ?_⟩
  · rw [h]
  · rw [h]
    exact if_neg (by omega)
  · rw [h]
    exact if_pos hn
  · have hsame := s.setSource_same .disputes
    rw [h] at hsame ⊢
    exact hsame.symm
  · rw [h]

/-- The move at the end of a window in agreement. -/
theorem State.judgedMove_agreed (s : State) :
    (s.lnu.source = .wheel → s.judgedMove false = s.setSource .wheel s.lnu.n .agreements) ∧
    (s.lnu.source = .disputed → s.judgedMove false = s.setSource .wheel 0 .agreements) ∧
    (s.lnu.source = .roller → s.judgedMove false = s.setSource .rejoin 1 .agreements) ∧
    (s.lnu.source = .rejoin → s.lnu.n + 1 < 2 → s.judgedMove false = s.setSource .rejoin (s.lnu.n + 1) .agreements) ∧
    (s.lnu.source = .rejoin → 2 ≤ s.lnu.n + 1 → s.judgedMove false = s.setSource .wheel 0 .agreements) := by
  unfold State.judgedMove
  refine ⟨fun h => ?_, fun h => ?_, fun h => ?_, fun h hn => ?_, fun h hn => ?_⟩
  · have hsame := s.setSource_same .agreements
    rw [h] at hsame ⊢
    exact hsame.symm
  · rw [h]
  · rw [h]
  · rw [h]
    exact if_neg (by omega)
  · rw [h]
    exact if_pos hn

/-- The window is judged (R56). -/
def State.Judged (s : State) : Prop :=
  s.lines.wheelContact.accepted = true ∧ s.lnu.wheelFaulty = false ∧ s.lnu.rollerFaulty = false ∧ s.lnu.slipSuspended = false

theorem State.windowJudged_iff (s : State) : s.windowJudged = true ↔ s.Judged := by
  simp [State.windowJudged, State.Judged, and_assoc]

/-- The window is disputed (R56). -/
def State.Disputed (s : State) : Prop :=
  s.params.slipTol * (s.lnu.window.rollerCount * 10000).tdiv s.params.rollerConstant <
    |(s.lnu.window.wheelCount * 10000).tdiv s.params.wheelConstant -
      (s.lnu.window.rollerCount * 10000).tdiv s.params.rollerConstant| * 100

theorem State.windowDisputed_iff (s : State) : s.windowDisputed = true ↔ s.Disputed := by
  rw [State.windowDisputed, State.Disputed, decide_eq_true_iff, State.rollerDelta_eq, State.wheelDelta_eq, Int.abs_eq_natAbs]

/-- A disputed window is reported to the records, and the piece is suspect. -/
def State.suspected (s : State) : State := { s.reportDisputed with lnu.slipSuspect := true }

theorem State.endWindow_unjudged (h : ¬s.Judged) : s.endWindow = s.newWindow := by
  rw [State.endWindow, if_neg (mt s.windowJudged_iff.mp h)]

theorem State.endWindow_disputed (h : s.Judged) (hd : s.Disputed) : s.endWindow = (s.suspected.judgedMove true).newWindow := by
  rw [State.endWindow, if_pos (s.windowJudged_iff.mpr h), State.judgeWindow, if_pos (s.windowDisputed_iff.mpr hd)]
  rfl

theorem State.endWindow_agreed (h : s.Judged) (hd : ¬s.Disputed) : s.endWindow = (s.judgedMove false).newWindow := by
  rw [State.endWindow, if_pos (s.windowJudged_iff.mpr h), State.judgeWindow, if_neg (mt s.windowDisputed_iff.mp hd)]

/-- A sample within the bounds of a window (R12). -/
abbrev SlipWindow.Bounds (w : SlipWindow) (q : Sample) : Prop :=
  w.least ≤ q.position ∧ (q.position : Int) ≤ (if w.least = w.greatest then w.least + 1 else w.greatest)

/-- A record told of a disputed window (R12). -/
def StemRecord.doubted (w : SlipWindow) (q : StemRecord) : StemRecord :=
  { q with
    disputedWindows := min 255 (q.disputedWindows + 1)
    profile := q.profile.map fun p => if w.Bounds p then { p with flags.slipSuspect := true } else p }

theorem State.Hears.suspected (h : s.Hears t u g) (hn : s.stb.group.Nodup) (hg : StemRecord.Kindly g) :
    s.Hears { t with lnu.slipSuspect := true } u.suspected fun i q => (g i q).doubted t.lnu.window := by
  have hlnu : u.lnu = t.lnu := by rw [h.rest]
  have hrep := (h.modifyActive hn hg (StemRecord.disputed u.lnu.window.least
    (if u.lnu.window.least = u.lnu.window.greatest then u.lnu.window.least + 1 else u.lnu.window.greatest))).map
    (F := fun v => { v with lnu.slipSuspect := true }) fun _ _ => rfl
  refine hrep.congr fun i q _ _ => ?_
  rw [StemRecord.disputed, saturate_eq, hlnu]
  rfl

theorem LengthUnit.resourced_slipSuspect (l : LengthUnit) (b : Bool) (new : SourceState) (n : Nat) :
    LengthUnit.resourced { l with slipSuspect := b } new n = { l.resourced new n with slipSuspect := b } := by
  unfold LengthUnit.resourced
  split <;> rfl

/-! ### The update before the window's end (R49, R53) -/

theorem State.targetTest_none (h : s.target? = none) (forward : Bool) : s.targetTest forward = s := by
  have h1 : s.approachTest = s := by simp [State.approachTest, State.approached, h]
  have h2 : s.arrivalTest = s := by simp [State.arrivalTest, State.arrived, h]
  have h3 : s.reverseArrived = false := by simp [State.reverseArrived, h]
  unfold State.targetTest
  cases s.fcs.state <;> simp [h1, h2, h3]

/-- The target stays ahead of a feed whose length has come to a value from another. -/
def State.Short (s : State) (len : Int) : Prop := ∀ t, s.target? = some t →
  (s.fcs.state = .feeding → len < t - s.params.slowDistance) ∧ (s.fcs.state = .creeping → len < t) ∧
    (s.fcs.state = .reversing → s.lnu.length < len ∨ t < len)

/-- The sequencer's items after an update that reaches no target. -/
def State.movement (s : State) (len : Int) : Sequencer := if s.fcs.state.Feeds then s.fcs.tracked len else s.fcs

theorem State.sequencerUpdate_short {w : State} {old : Int} (h : ∀ t, w.target? = some t →
    (w.fcs.state = .feeding → w.lnu.length < t - w.params.slowDistance) ∧ (w.fcs.state = .creeping → w.lnu.length < t) ∧
      (w.fcs.state = .reversing → old < w.lnu.length ∨ t < w.lnu.length)) :
    w.sequencerUpdate (decide (old < w.lnu.length)) = w.withFcs (w.movement w.lnu.length) := by
  by_cases hf : w.fcs.state.Feeds
  · have htest : w.targetTest (decide (old < w.lnu.length)) = w := by
      cases ht : w.target? with
      | none => exact State.targetTest_none ht _
      | some t =>
        obtain ⟨h1, h2, h3⟩ := h t ht
        rcases hf with hst | hst | hst
        · exact State.targetTest_feeding_far hst ht fun hc => absurd (h1 hst) (not_lt.mpr hc.2)
        · exact State.targetTest_creeping_short hst ht fun hc => absurd (h2 hst) (not_lt.mpr hc.2)
        · refine State.targetTest_reversing_short hst ht fun hc => ?_
          rcases h3 hst with hlt | hlt
          · exact hc.1 (decide_eq_true hlt)
          · exact absurd hlt (not_lt.mpr hc.2)
    rw [State.movement, if_pos hf]
    exact State.sequencerUpdate_tracks hf htest
  · rw [State.movement, if_neg hf]
    exact State.sequencerUpdate_rests hf _

end Judge

/-- Settles O47: the pulse that ends a slip window. -/
theorem windowEndJudges : Obligations.WindowEndJudges := by
  intro s hlaw l m roller wheel hends moves hshort feeds busy step triggered judged disputed bounds reached after
  have hn := hlaw.nodup
  obtain ⟨hg, hphase⟩ := s.stemLaw_iff.mp hlaw
  obtain ⟨hsrc, htr, -, -⟩ := s.pulsed_lnu (e := .roller) (d := .forward)
  have hlnu : (s.pulsed .roller .forward).lnu = m := by
    simp only [m, State.pulsed]
    cases s.lnu.onWheel <;> rfl
  rw [hlnu] at hsrc htr
  have hupdate : ∃ v, exec (.encoderPulse .roller .forward) s = .next (State.transmit (v.accountWindow .roller .forward)) ∧
      s.Hears { s.pulsed .roller .forward with
        fcs := if moves ∧ feeds ∧ 5 ≤ (m.length - s.fcs.stallReference).natAbs then
          { s.fcs with stallReference := m.length, stallTimer := some 0 } else s.fcs
        dsq := s.feeding m.length, lnu := triggered } v fun _ => reached := by
    have hquiet (hm : ¬moves) : ({ s.pulsed .roller .forward with
        fcs := if moves ∧ feeds ∧ 5 ≤ (m.length - s.fcs.stallReference).natAbs then
          { s.fcs with stallReference := m.length, stallTimer := some 0 } else s.fcs
        dsq := s.feeding m.length, lnu := triggered } : State) = s.pulsed .roller .forward := by
      have hf : ¬s.Fires m.length := fun hf => hm ⟨hf.2.1.ne', hf.1⟩
      simp only [triggered, State.feeding, if_neg hf, if_neg fun h : moves ∧ _ => hm h.1]
      rw [← hlnu]
      rfl
    have hkept (hm : ¬moves) : s.Hears (s.pulsed .roller .forward) (s.pulsed .roller .forward) fun _ => reached :=
      (State.Hears.refl (s := s) (t := s.pulsed .roller .forward) rfl).congr fun _ q _ _ => (if_neg hm : reached q = q).symm
    by_cases hm : moves
    · obtain ⟨hlen, hp⟩ := hm
      have hmoves : moves := ⟨hlen, hp⟩
      obtain ⟨k, r, hl, -⟩ := hlaw.2.2.2.2.1 hp
      have hreached := State.hears_reached (s := s) (t := s.pulsed .roller .forward) hn rfl m.length
      generalize hw : (s.pulsed .roller .forward).modifyActive (StemRecord.reached m.length) = w at hreached
      have hwlnu : w.lnu = m := by rw [hreached.rest]; exact hlnu
      have hwfcs : w.fcs = s.fcs := by rw [hreached.rest]; rfl
      have hwpar : w.params = s.params := by rw [hreached.rest]; rfl
      have hwt : w.target? = s.target? := hreached.target? (fun _ _ => ⟨rfl, rfl⟩) fun _ _ _ => rfl
      have hup : w.sequencerUpdate (decide (s.lnu.length < w.lnu.length)) = w.withFcs (w.movement w.lnu.length) :=
        State.sequencerUpdate_short (by rw [hwt, hwfcs, hwlnu, hwpar]; exact hshort hmoves)
      have hmovement : w.movement w.lnu.length = if moves ∧ feeds ∧ 5 ≤ (m.length - s.fcs.stallReference).natAbs then
          { s.fcs with stallReference := m.length, stallTimer := some 0 } else s.fcs := by
        rw [State.movement, hwfcs, hwlnu, Sequencer.tracked]
        by_cases hf : feeds
        · rw [if_pos hf]
          by_cases h5 : 5 ≤ (m.length - s.fcs.stallReference).natAbs
          · rw [if_pos h5, if_pos ⟨hmoves, hf, h5⟩]
          · rw [if_neg h5, if_neg fun h => h5 h.2.2]
        · rw [if_neg hf, if_neg fun h => hf h.2.1]
      generalize (if moves ∧ feeds ∧ 5 ≤ (m.length - s.fcs.stallReference).natAbs then
          { s.fcs with stallReference := m.length, stallTimer := some 0 } else s.fcs) = f at hmovement
      rw [hmovement, hwlnu] at hup
      have hfed := hreached.map (F := fun v => v.withFcs f) fun _ _ => rfl
      have hTlnu : ((s.pulsed .roller .forward).withFcs f).lnu = m := hlnu
      have htrig := hfed.trigger hn (fun _ _ => ⟨rfl, rfl⟩) hl rfl rfl rfl (by rw [hTlnu]; exact hsrc) (by rw [hTlnu]; exact htr)
      have hstep : triggered = s.triggered m r.profileStep := by
        simp only [triggered, step, hl]
        rfl
      rw [hTlnu, ← hstep] at htrig
      refine ⟨_, ?_, htrig.congr fun _ q _ _ => (if_pos hmoves : reached q = _).symm⟩
      refine (exec_encoderPulse_moves (by rw [hlnu]; exact hlen)).trans ?_
      unfold State.lengthUpdate
      simp only
      rw [hlnu, hw, hup]
    · rw [hquiet hm]
      refine ⟨_, ?_, hkept hm⟩
      by_cases hlen : m.length = s.lnu.length
      · exact exec_encoderPulse_still (by rw [hlnu]; exact hlen)
      · have hp : s.groupState ≠ .processing := fun hp => hm ⟨hlen, hp⟩
        refine (exec_encoderPulse_moves (by rw [hlnu]; exact hlen)).trans ?_
        rw [State.lengthUpdate_idle (s := s.pulsed .roller .forward) hp (hlaw.rests_of_groupState hp)]
  obtain ⟨v, hrun, hv⟩ := hupdate
  generalize hf : (if moves ∧ feeds ∧ 5 ≤ (m.length - s.fcs.stallReference).natAbs then
    ({ s.fcs with stallReference := m.length, stallTimer := some 0 } : Sequencer) else s.fcs) = f at hv
  have htrig : triggered.source = m.source ∧ triggered.length = m.length ∧ triggered.window = m.window ∧ triggered.n = m.n ∧
      triggered.slipSuspect = m.slipSuspect ∧ triggered.wheelFaulty = m.wheelFaulty ∧ triggered.rollerFaulty = m.rollerFaulty ∧
      triggered.slipSuspended = m.slipSuspended := by
    simp only [triggered]
    split
    · exact ⟨rfl, rfl, rfl, rfl, rfl, rfl, rfl, rfl⟩
    · exact ⟨rfl, rfl, rfl, rfl, rfl, rfl, rfl, rfl⟩
  obtain ⟨hsource, hlength, hwindow, hcount, hsuspect, hwheel, hroller, hsuspended⟩ := htrig
  have hvlnu : v.lnu = triggered := by rw [hv.rest]
  have hvpar : v.params = s.params := by rw [hv.rest]; rfl
  have hcontact : v.lines.wheelContact = s.lines.wheelContact := by rw [hv.rest]; rfl
  have hkind : StemRecord.Kindly fun _ => reached := fun _ q => by
    simp only [reached]
    split <;> exact ⟨rfl, rfl⟩
  have hend : v.accountWindow .roller .forward = v.endWindow := if_pos (by
    rw [State.rollerDelta_eq, hvlnu, hvpar, hwindow]
    exact hends)
  have hjudged : v.Judged ↔ judged := by rw [State.Judged, hcontact, hvlnu, hwheel, hroller, hsuspended]
  have hdisputed : v.Disputed ↔ disputed := by rw [State.Disputed, hvlnu, hvpar, hwindow]
  have after_of {new : SourceState} {n : Nat} {cause : SourceCause} {x : State} {suspect : Bool} {g : StemRecord → StemRecord}
      (hx : s.Hears { s.pulsed .roller .forward with
        fcs := f, dsq := s.feeding m.length, lnu := { triggered with slipSuspect := suspect } } x fun _ => g)
      (hgk : StemRecord.Kindly fun _ => g) (hs : suspect = (m.slipSuspect || decide (judged ∧ disputed)))
      (hg : g = fun q => if judged ∧ disputed then { reached q with
        disputedWindows := min 255 (q.disputedWindows + 1)
        profile := q.profile.map fun p => if bounds p then { p with flags.slipSuspect := true } else p } else reached q)
      (hwin : v.endWindow = (x.setSource new n cause).newWindow) : after new n cause := by
    have hset := (hx.setSource hn hgk new n cause).map (F := State.newWindow) fun _ _ => rfl
    subst hf hs hg
    rw [LengthUnit.resourced_slipSuspect, State.told_of_hbp (s := s)] at hset
    rotate_left
    · rfl
    refine ⟨_, hrun.trans (by rw [hend, hwin]), hset.rest.trans ?_, hset.group, hset.nextHandle, fun i => ?_⟩
    · unfold State.sourceNotice
      simp only
      rw [hsource, hlength]
      rfl
    · rw [hset.records]
      simp only [hsource]
  have hsame : s.Hears { s.pulsed .roller .forward with
      fcs := f, dsq := s.feeding m.length, lnu := { triggered with slipSuspect := m.slipSuspect } } v fun _ => reached := by
    rw [← hsuspect]
    exact hv
  have calm {new : SourceState} {n : Nat} {cause : SourceCause} (hno : ¬(judged ∧ disputed))
      (hwin : v.endWindow = (v.setSource new n cause).newWindow) : after new n cause :=
    after_of hsame hkind (by rw [decide_eq_false hno, Bool.or_false]) (funext fun q => (if_neg hno).symm) hwin
  have hvsource : v.lnu.source = m.source := by rw [hvlnu, hsource]
  have hvn : v.lnu.n = m.n := by rw [hvlnu, hcount]
  refine ⟨fun hj => ?_, fun hj hd => ?_, fun hj hd => ?_⟩
  · refine calm (fun h => hj h.1) ?_
    rw [State.endWindow_unjudged (mt hjudged.mp hj), ← hvsource, ← hvn, State.setSource_same]
  · have hx := hv.suspected hn hkind
    have hgk : StemRecord.Kindly fun _ q => (reached q).doubted triggered.window := fun i q => hkind i q
    have alarmed {new : SourceState} {n : Nat} {cause : SourceCause}
        (hmove : v.suspected.judgedMove true = v.suspected.setSource new n cause) : after new n cause := by
      refine after_of (g := fun q => (reached q).doubted triggered.window) hx hgk
        (by rw [decide_eq_true ⟨hj, hd⟩, Bool.or_true]) (funext fun q => ?_) ?_
      · have hq : (reached q).disputedWindows = q.disputedWindows ∧ (reached q).profile = q.profile := by
          simp only [reached]
          split <;> exact ⟨rfl, rfl⟩
        rw [if_pos ⟨hj, hd⟩, StemRecord.doubted, hq.1, hq.2, hwindow]
      · rw [State.endWindow_disputed (hjudged.mpr hj) (hdisputed.mpr hd), hmove]
    obtain ⟨h1, h2, h3, h4, h5⟩ := v.suspected.judgedMove_disputed
    have hxlnu : v.suspected.lnu.source = m.source ∧ v.suspected.lnu.n = m.n := by
      rw [hx.rest]
      exact ⟨hsource, hcount⟩
    rw [hxlnu.1] at h1 h2 h3 h4 h5
    rw [hxlnu.2] at h2 h3 h4
    exact ⟨fun h => alarmed (h1 h), fun h hn => alarmed (h2 h hn), fun h hn => alarmed (h3 h hn), fun h => alarmed (h4 h),
      fun h => alarmed (h5 h)⟩
  · have agreed {new : SourceState} {n : Nat} {cause : SourceCause} (hmove : v.judgedMove false = v.setSource new n cause) :
        after new n cause := by
      refine calm (fun h => hd h.2) ?_
      rw [State.endWindow_agreed (hjudged.mpr hj) (mt hdisputed.mp hd), hmove]
    obtain ⟨h1, h2, h3, h4, h5⟩ := v.judgedMove_agreed
    rw [hvsource] at h1 h2 h3 h4 h5
    rw [hvn] at h1 h4 h5
    exact ⟨fun h => agreed (h1 h), fun h => agreed (h2 h), fun h => agreed (h3 h), fun h hn => agreed (h4 h hn),
      fun h hn => agreed (h5 h hn)⟩

end Sys2Proof.Machine

/-! PROOF. Plans that reach the sequencer: the report of a completed pass to a feed that waits or runs (R146, R147), and the
check of a pending plan at each entry into a stop state (R133). -/

namespace Sys2Proof.Machine

open Sys2Proof

section Pending

variable {s u : State} {k : Nat} {r : StemRecord} {res : PassResult} {l : List Notice} {t : Int}

/-! ### The check at a stop (R133) -/

/-- The check neither looks at the sequencer nor changes it. -/
theorem State.PendingChecked.withFcs (h : s.PendingChecked k r res u) (f : Sequencer) :
    (s.withFcs f).PendingChecked k r res (u.withFcs f) := by
  obtain ⟨hinstall, hdiscard⟩ := h
  refine ⟨fun ho hl => ?_, fun hd => ?_⟩
  · rw [hinstall ho hl]
    exact State.told_comm _ _ (g := fun v => v.withFcs f) fun _ _ => rfl
  · obtain ⟨b, hasks, rfl⟩ := hdiscard hd
    exact ⟨b, (State.asks_congr rfl rfl).mp hasks, rfl⟩

/-- An entry into a stop state with a pending plan: the check, then the notice (log 17). -/
theorem State.enterStop_pending (hl : s.lead? = some (k, r)) (hp : r.pendingPlan = some res) (st : SeqState)
    (p : Option PauseReason) : ∃ u, s.PendingChecked k r res u ∧ u.lnu = s.lnu ∧ u.lines = s.lines ∧ u.params = s.params ∧
      s.enterStop st p = (u.withFcs (s.moveTo st p).fcs).told
        [.fcsState s.fcs.state st (if st = .paused then p else none) s.lnu.length u.target?] := by
  set v := s.moveTo st p with hv
  obtain ⟨hlnu, hlines, -, -, hfcs, hparams, -⟩ := v.checkPending_frame
  have hcheck : v.PendingChecked k r res v.checkPending := State.checkPending_checked hl hp
  refine ⟨v.checkPending.withFcs s.fcs, hcheck.withFcs s.fcs, hlnu, hlines, hparams, ?_⟩
  have hback : (v.checkPending.withFcs s.fcs).withFcs v.fcs = v.checkPending := by
    rw [State.withFcs_withFcs, ← hfcs]
    rfl
  rw [hback, State.withFcs_target?]
  unfold State.enterStop State.notifyState
  rw [← hv, State.offerNotice_eq_told, hlnu, hfcs]
  rfl

/-- A pass stays outstanding, asked for or in flight, where the check is made. -/
theorem State.enterStop_waits (hl : s.lead? = some (k, r)) (hp : r.pendingPlan = some res) : ∃ u, s.PendingChecked k r res u ∧
    (u.target? = none → s.enterWaiting = State.told (u.withFcs (s.fcs.resting .waiting))
      [.fcsState s.fcs.state .waiting none s.lnu.length u.target?]) ∧
    ∀ t, u.target? = some t → s.lnu.length < t - s.params.slowDistance →
      s.enterWaiting = State.told (u.withFcs (s.fcs.feedingFrom .feeding s.lnu.length))
        [.fcsState s.fcs.state .waiting none s.lnu.length u.target?, .fcsState .waiting .feeding none s.lnu.length (some t)] := by
  obtain ⟨u, hu, hlnu, -, hparams, heq⟩ := State.enterStop_pending hl hp .waiting none
  refine ⟨u, hu, fun ht => ?_, fun t ht hfar => ?_⟩
  · rw [State.enterWaiting, heq]
    exact if_neg (by rw [State.planNonempty_of_none (by rw [State.told_target?]; exact ht)]; decide)
  · have hplan : State.planNonempty (State.told (u.withFcs (s.moveTo .waiting none).fcs)
        [.fcsState s.fcs.state .waiting none s.lnu.length u.target?]) = true :=
      State.planNonempty_of_target? (t := t) (by rw [State.told_target?]; exact ht)
    rw [State.enterWaiting, heq]
    refine (if_pos hplan).trans ?_
    rw [State.told_enterFeeding_far (s := u.withFcs (s.moveTo .waiting none).fcs) ht (by
      show u.lnu.length < t - u.params.slowDistance
      rw [hlnu, hparams]
      exact hfar)]
    show State.told (u.withFcs (Sequencer.feedingFrom _ .feeding u.lnu.length))
      (_ ++ [.fcsState _ .feeding none u.lnu.length (some t)]) = _
    rw [hlnu]
    rfl

end Pending

/-! ### The report of a completed pass (R146, R147) -/

section Report

variable {t : State} {l : List Notice} {k : Nat} {r : StemRecord}

theorem State.completionReport_waiting (hst : t.fcs.state = .waiting) : (t.told l).completionReport =
    if t.planNonempty then (t.told l).enterFeeding
    else if t.passOutstanding then t.told l
    else (t.told l).enterPaused .planDone := by
  have hplan : (t.told l).planNonempty = t.planNonempty := by rw [State.planNonempty, State.told_target?]; rfl
  unfold State.completionReport
  rw [State.told_fcs, hst, hplan, State.passOutstanding_told]

theorem State.completionReport_feeding (hst : t.fcs.state = .feeding) : (t.told l).completionReport =
    if t.planNonempty then t.told l else (t.told l).awaitPlan := by
  have hplan : (t.told l).planNonempty = t.planNonempty := by rw [State.planNonempty, State.told_target?]; rfl
  unfold State.completionReport
  rw [State.told_fcs, hst, hplan]

/-- With no plan and no pass outstanding a feed ends in PLAN_DONE. -/
theorem State.completionReport_done (hst : t.fcs.state = .waiting ∨ t.fcs.state = .feeding) (hp : t.noPending)
    (ht : t.target? = none) (h1 : t.bke.inFlight = none) (h2 : t.bke.flag = false) : (t.told l).completionReport =
      (t.withFcs (t.fcs.pausedBy .planDone)).told
        (l ++ [.fcsState t.fcs.state .paused (some .planDone) t.lnu.length none]) := by
  have hplan := State.planNonempty_of_none ht
  have hpass : t.passOutstanding = false := by simp [State.passOutstanding, h1, h2]
  rcases hst with hst | hst
  · rw [State.completionReport_waiting hst, if_neg (by simp [hplan]), if_neg (by simp [hpass]), State.told_enterPaused' hp, ht]
  · rw [State.completionReport_feeding hst, if_neg (by simp [hplan]), State.told_awaitPlan_done hp ht h1 h2]

end Report

theorem State.setSlot_setSlot (s : State) (k : Nat) (q q' : Option StemRecord) : (s.setSlot k q).setSlot k q' = s.setSlot k q' := by
  simp [State.setSlot]

/-- A pass that ends without a next one leaves exactly its outcome. -/
theorem State.PassEnds.eq_of_discarded {s : State} {n : Nat} {b : BuckingEngine} (h : s.PassEnds n .discarded b)
    (hf : s.bke.flag = false) :
    b = { s.bke with inFlight := none, lastOutcome := .discarded, lastOutcomePass := n } := by
  obtain ⟨houtcome, hpass, hflag, hnext⟩ := h
  rw [if_neg (by simp [hf])] at hnext
  obtain ⟨hcounter, hflight⟩ := hnext
  cases b
  simp_all

/-- A feed that reaches its target with a pending plan settles, and the plan is checked. -/
theorem State.sequencerUpdate_arrives_pending {w : State} {k : Nat} {q : StemRecord} {res : PassResult} {forward : Bool}
    (hl : w.lead? = some (k, q)) (hp : q.pendingPlan = some res) (h : w.targetTest forward = w.enterSettling) :
    ∃ u, w.PendingChecked k q res u ∧ u.lnu = w.lnu ∧ w.sequencerUpdate forward =
      State.told (u.withFcs w.fcs.settles) [.fcsState w.fcs.state .settling none w.lnu.length u.target?] := by
  obtain ⟨u, hu, hlnu, -, -, heq⟩ := State.enterStop_pending hl hp .settling none
  refine ⟨u, hu, hlnu, ?_⟩
  rw [State.sequencerUpdate, h, State.enterSettling, heq, State.trackMovement_told, State.trackMovement_rests]
  · rfl
  · exact fun hf => by rcases hf with hf | hf | hf <;> cases hf

/-- Settles O56: plans that a completed pass or a stop brings to the sequencer. -/
theorem plansReachSequencer : Obligations.PlansReachSequencer := by
  intro s tag k r hl len slow st
  refine ⟨fun p hp => ?_, fun res hpend => ⟨fun hb hst => ?_, ?_, fun t hset hst ht hnear => ?_, fun hst hs hplan ho => ?_⟩⟩
  · intro run res
    have hrun : run = .next (s.finishPass p).completionReport.transmit := exec_passComplete hp
    refine ⟨fun hv hst hplan hpend hf => ?_, fun hv ho hlate hst => ?_⟩
    · obtain ⟨b, hends, heq⟩ := State.finishPass_rests (s := s) (p := p) (State.outcome_discarded (.inl hv) res) (.inl rfl)
      obtain rfl := hends.eq_of_discarded hf
      set t := s.withBke { s.bke with inFlight := none, lastOutcome := .discarded, lastOutcomePass := p.number }
      have htl : t.lead? = some (k, r) := hl
      rw [hrun, heq, ← State.told_nil t, State.completionReport_done (t := t) (.inl hst) (State.noPending_of_lead? htl hpend)
        (by rw [State.target?_of_lead? htl, hplan]; rfl) rfl hf, show t.fcs.state = .waiting from hst]
      rfl
    · obtain ⟨b, hends, heq⟩ := State.finishPass_installed (p := p) hl
        (hv ▸ State.outcome_installed hl ho hlate (hst.elim (fun h => .inr (.inl h)) fun h => .inl h.2))
      refine ⟨b, hends, ?_⟩
      intro spared plan moves
      set q : StemRecord := { r.takes res with override := spared } with hq
      set t : State := (s.setSlot k (some q)).withBke b with ht
      have hreport : run = .next ((t.told [r.tells .direct res]).completionReport).transmit := by rw [hrun, heq]; rfl
      have htl : t.lead? = some (k, q) := State.lead?_setSlot hl rfl rfl
      have htp : t.noPending := State.noPending_of_lead? htl rfl
      have hempty (h : plan = []) : t.target? = none ∧ t = (s.setSlot k (some { q with plan := [] })).withBke b := by
        refine ⟨by rw [State.target?_of_lead? htl, show q.plan = [] from h]; rfl, ?_⟩
        rw [← h]
      have hfull {x rest} (hw : st = .waiting) (h : plan = x :: rest) :
          (t.told [r.tells .direct res]).completionReport = (t.told [r.tells .direct res]).enterFeeding := by
        rw [State.completionReport_waiting (t := t) hw, if_pos (State.planNonempty_of_target? (State.target?_of_plan htl h))]
      refine ⟨fun hplan hnone => ?_, fun hplan hsome hfeeds => ?_, fun x rest hplan hw hfar => ?_,
        fun x rest hplan hw hnear hslow hx => ?_⟩
      · obtain ⟨hnt, hsame⟩ := hempty hplan
        show run = _
        rw [hreport, State.completionReport_done (t := t) (hst.imp_right (·.1)) htp hnt hnone hends.2.2.1, hsame]
        rfl
      · obtain ⟨hnt, hsame⟩ := hempty hplan
        show run = _
        rw [hreport, State.completionReport_feeding (t := t) hfeeds, if_neg (by simp [State.planNonempty_of_none hnt]),
          State.told_awaitPlan_waits htp hnt (.inl hsome), show t.fcs.state = .feeding from hfeeds, hsame]
        rfl
      · show run = _
        rw [hreport, hfull hw hplan, State.told_enterFeeding_far (State.target?_of_plan htl hplan) hfar,
          show t.fcs.state = .waiting from hw]
        rfl
      · show run = _
        have htwice : t.setSlot k (some { q with plan := { x with status := .committed } :: rest }) =
            (s.setSlot k (some { q with plan := { x with status := .committed } :: rest })).withBke b :=
          congrArg (fun v : State => v.withBke b) (State.setSlot_setSlot s k _ _)
        rw [hreport, hfull hw hplan, State.told_enterFeeding_creeps htl hplan (by show _ - slow ≤ len; omega) (by show len < _; omega),
          show t.fcs.state = .waiting from hw, State.committed, if_pos hx, htwice]
        rfl
  · obtain ⟨u, hu, hlnu, -, -, heq⟩ := State.enterStop_pending hl hpend .paused (some .stopRequest)
    refine ⟨u, hu, exec_idle_of (r := .stop) rfl hb ?_⟩
    have hans : answerStop s = (s.enterPaused .stopRequest, .only .ok) := by
      unfold answerStop
      rcases hst with h | h | h | h | h <;> rw [show s.fcs.state = _ from h]
    exact hans.trans (congrArg (·, _) heq)
  · intro d hlaw hst hwheel m q hmoved htrigger harrives hplan
    obtain ⟨x, rest, hx⟩ := List.exists_cons_of_ne_nil hplan
    have hpulsed : s.pulsed .wheel d = { s with lines := s.lines.turn .wheel d, lnu := m } := by
      unfold State.pulsed
      rw [if_pos (by rw [hwheel]; rfl)]
      rfl
    have hlen : (s.pulsed .wheel d).lnu = m := by rw [hpulsed]
    have hreached := State.hears_reached (s := s) (t := s.pulsed .wheel d) hlaw.nodup rfl m.length
    set v := (s.pulsed .wheel d).modifyActive (StemRecord.reached m.length) with hvdef
    have hv : v = { s with lines := s.lines.turn .wheel d, lnu := m, stb := v.stb } :=
      hreached.rest.trans (congrArg (fun t : State => ({ t with stb := v.stb } : State)) hpulsed)
    have hvl : v.lead? = some (k, q) := (hreached.lead? fun _ _ => ⟨rfl, rfl⟩).trans (congrArg _ hl)
    have hvt : v.target? = some x.cutPosition := State.target?_of_plan hvl hx
    have hvlnu : v.lnu = m := by rw [hv]
    have hvfcs : v.fcs = s.fcs := by rw [hv]
    have harr := harrives x.cutPosition (State.target?_of_plan hl hx)
    have htest : v.targetTest (decide (len < m.length)) = v.enterSettling := by
      rcases hst with hst | hst
      · rw [if_pos hst] at harr
        exact State.targetTest_arrives (hvfcs ▸ hst) hvt (decide_eq_true harr.1) (hvlnu ▸ harr.2)
      · rw [if_neg (by rw [show st = .reversing from hst]; decide)] at harr
        exact State.targetTest_arrives_back (hvfcs ▸ hst) hvt (by simpa using harr.1.le) (hvlnu ▸ harr.2)
    obtain ⟨u, hu, hulnu, hup⟩ := State.sequencerUpdate_arrives_pending hvl hpend htest
    rw [hvfcs, hvlnu] at hup
    refine ⟨v, u, hv, hreached.group, hreached.nextHandle, fun i => ?_, hu,
      (exec_encoderPulse_moves (by rw [hlen]; exact hmoved)).trans ?_⟩
    · rw [hreached.records, State.groupState_of_lead? hl]
      simp
      rfl
    · have hshort : (v.sequencerUpdate (decide (len < m.length))).triggerCheck = v.sequencerUpdate (decide (len < m.length)) := by
        refine if_neg fun hc => not_le.mpr htrigger ?_
        have htrig := hc.2
        rw [hup, State.told_lnu] at htrig
        rw [show (u.withFcs s.fcs.settles).lnu = m from hulnu.trans hvlnu] at htrig
        exact htrig
      have hupdate : (s.pulsed .wheel d).lengthUpdate (decide (len < (s.pulsed .wheel d).lnu.length)) =
          v.sequencerUpdate (decide (len < m.length)) := by
        unfold State.lengthUpdate
        rw [hlen, ← hvdef]
        simp only
        rw [hshort, ite_self]
      rw [hupdate, hup]
      rfl
  · obtain ⟨u, hu, hlnu, hlines, hparams, heq⟩ := State.enterStop_pending hl hpend .atTarget none
    have hrun : exec .settleTimerExpiry s = .next s.enterAtTarget.transmit := by
      have hstops := State.settleExpires_stops ht (.inl (by rw [Int.abs_eq_natAbs]; exact_mod_cast hnear))
      have hjudged : s.judged t = s.fcs := if_neg (by show ¬ _ < len; omega)
      rw [hjudged] at hstops
      exact (if_pos hset).trans (congrArg (fun v : State => Host.Outcome.next v.transmit) hstops)
    set v := u.withFcs (s.moveTo .atTarget none).fcs
    refine ⟨u, hu, ?_⟩
    intro there
    have hthere : s.enterStop .atTarget none = v.told [there] := by rw [heq, show s.fcs.state = .settling from hst]; rfl
    have hauto : (v.told [there]).params.autoCut = s.params.autoCut := by rw [State.told_params]; exact congrArg _ hparams
    have hhome : (v.told [there]).lines.sawHome.accepted = s.lines.sawHome.accepted := by
      rw [State.told_lines]
      exact congrArg (·.sawHome.accepted) hlines
    refine ⟨fun ha => ?_, fun ha hh => ?_⟩
    · rw [hrun, State.enterAtTarget, hthere]
      refine congrArg (fun v : State => Host.Outcome.next v.transmit) (if_neg ?_)
      rw [hauto, ha]
      decide
    · rw [hrun, State.enterAtTarget, hthere]
      refine congrArg (fun v : State => Host.Outcome.next v.transmit)
        ((if_pos (hauto.trans ha)).trans ((if_pos (hhome.trans hh)).trans ?_))
      rw [State.told_startCut, show v.lnu = s.lnu from hlnu]
      rfl
  · set home : State := { s with lines.sawHome := ⟨true, true, 0⟩ } with hhome
    obtain ⟨u, hu, hwaits, hfeeds⟩ := State.enterStop_waits (s := home) hl hpend
    have hrun : exec (.sawHomeAsserted .asserted) s = .next home.enterWaiting.transmit := by
      have hnone : home.target? = none := (State.target?_of_lead? (s := home) hl).trans (by rw [hplan]; rfl)
      show Host.Outcome.next (home.sawHomeAsserts).transmit = _
      rw [State.sawHomeAsserts, show home.fcs.state = .sawReturn from hst, ← State.told_nil home]
      simp only
      rw [State.told_endSawReturn_empty (s := home) hs hnone, State.awaitPlan, if_pos]
      exact State.passOutstanding_told.trans (State.passOutstanding_iff.mpr ho)
    refine ⟨u, hu, ?_⟩
    intro waits
    refine ⟨fun ht => ?_, fun t ht hfar => ?_⟩
    · rw [hrun, hwaits ht, show home.fcs.state = .sawReturn from hst]
      rfl
    · rw [hrun, hfeeds t ht hfar, show home.fcs.state = .sawReturn from hst]
      rfl

end Sys2Proof.Machine

/-! PROOF. The delivery of a FEED result (R10, R11, R23, R35 to R40): the samples that the members of the group take, the top
watch, and what a stem end or a drop-out closes. -/

namespace Sys2Proof.Machine

open Sys2Proof

/-! ### The samples (R10, R11, R35, R36) -/

/-- The even samples, by their numbers. -/
theorem evenSamples_eq (l : List Sample) :
    evenSamples l = (List.range l.length).filterMap fun j => if j % 2 = 0 then l[j]? else none := by
  induction l using evenSamples.induct with
  | case1 => rfl
  | case2 x => rfl
  | case3 x y rest ih =>
    rw [evenSamples, ih, show (x :: y :: rest).length = rest.length + 1 + 1 from rfl, List.range_succ_eq_map,
      List.range_succ_eq_map]
    have hparity (j : Nat) : (j + 1 + 1) % 2 = j % 2 := by omega
    simp [List.filterMap_map, Function.comp_def, hparity]

/-- A record with its profile thinned, where it is. -/
def StemRecord.spaced (r : StemRecord) (thin : Bool) : StemRecord := if thin then r.thinned else r

section Append

variable (s : State) (f : FeedRequest) (n : Nat) (m : MeasureReport)

/-- The sample that a member takes of a FEED result. -/
def State.sampled (r : StemRecord) : Sample :=
  feedSample f n s.members.length (splitDivisor s.memberButts) m (r.butt.getD 0)

/-- A member with its new sample. -/
def State.profiled (r : StemRecord) : StemRecord := (r.spaced s.profilesFull).append (s.sampled f n m r)

/-- T as a thinning moves it. -/
def State.thinnedTrigger (lead : StemRecord) : LengthUnit :=
  if s.profilesFull then { s.lnu with trigger := f.position + (lead.spaced s.profilesFull).profileStep } else s.lnu

theorem StemRecord.spaced_kindly (r : StemRecord) (thin : Bool) :
    (r.spaced thin).state = r.state ∧ (r.spaced thin).role = r.role ∧ (r.spaced thin).butt = r.butt := by
  cases thin <;> exact ⟨rfl, rfl, rfl⟩

theorem State.profiled_kindly : StemRecord.Kindly fun _ => s.profiled f n m := fun _ r =>
  ⟨(r.spaced_kindly s.profilesFull).1, (r.spaced_kindly s.profilesFull).2.1⟩

/-- Every member takes its sample. -/
theorem State.appendSamples_hears {k : Nat} {lead : StemRecord} (hn : s.stb.group.Nodup) (hl : s.lead? = some (k, lead)) :
    s.Hears { s with lnu := s.thinnedTrigger f lead } (s.appendSamples f n m) fun _ => s.profiled f n m := by
  have hp := State.groupState_of_lead? hl
  set t := if s.profilesFull then s.modifyMembers StemRecord.thinned else s with ht
  have hthin : s.Hears s t fun _ r => r.spaced s.profilesFull := by
    rw [ht]
    unfold StemRecord.spaced
    cases s.profilesFull with
    | false => exact .refl rfl
    | true =>
      have := (State.Hears.refl (s := s) rfl).modifyActive hn (fun _ _ => ⟨rfl, rfl⟩) StemRecord.thinned
      rwa [State.modifyActive, if_pos hp] at this
  have hkindly : StemRecord.Kindly fun _ r => r.spaced s.profilesFull := fun _ r =>
    ⟨(r.spaced_kindly s.profilesFull).1, (r.spaced_kindly s.profilesFull).2.1⟩
  set u := t.modifyMembers fun r =>
    r.append (feedSample f n s.members.length (splitDivisor s.memberButts) m (r.butt.getD 0)) with hu
  have happend : s.Hears s u fun _ => s.profiled f n m := by
    have := hthin.modifyActive hn hkindly fun r =>
      r.append (feedSample f n s.members.length (splitDivisor s.memberButts) m (r.butt.getD 0))
    rw [State.modifyActive, if_pos ((hthin.groupState hkindly).trans hp), ← hu] at this
    refine this.congr fun i r _ _ => ?_
    rw [State.profiled, State.sampled, (r.spaced_kindly s.profilesFull).2.2]
  have hstep : u.leadStep = (lead.spaced s.profilesFull).profileStep := by
    rw [State.leadStep_eq ((happend.lead? (s.profiled_kindly f n m)).trans (congrArg _ hl))]
    rfl
  have happ : s.appendSamples f n m = { u with
      lnu := if s.profilesFull then { u.lnu with trigger := f.position + u.leadStep } else u.lnu } := by
    unfold State.appendSamples
    simp only
    rw [← ht, ← hu]
    split <;> rfl
  have hlnu : u.lnu = s.lnu := by rw [happend.rest]
  rw [happ, hstep, hlnu]
  exact happend.map (F := fun v => { v with lnu := s.thinnedTrigger f lead }) fun _ _ => rfl

end Append

/-! ### Top watch (R23) -/

/-- A record after its top watch on its last sample. -/
def StemRecord.watchedLast (r : StemRecord) : StemRecord :=
  match r.profile.getLast? with
  | some p => r.watched p
  | none => r

/-- The notices of its top watch on its last sample. -/
def StemRecord.watchTold (r : StemRecord) : List Notice :=
  match r.profile.getLast? with
  | some p => (r.watchTrip r.profile.dropLast.getLast? p).toList
  | none => []

section Watch

variable {s : State} {k : Nat} {r : StemRecord}

theorem StemRecord.watchTrip_eq (r : StemRecord) (previous : Option Sample) (p : Sample) :
    (r.watchTrip previous p).toList = r.watchNotices previous p := by
  unfold StemRecord.watchTrip StemRecord.watchNotices StemRecord.below StemRecord.watchNotice
  cases hm : r.topWatch.mode with
  | fall =>
    simp only [Bool.and_eq_true, decide_eq_true_eq]
    split <;> rfl
  | every =>
    cases previous with
    | none => rfl
    | some old =>
      simp only [decide_eq_decide, decide_eq_true_eq]
      by_cases h1 : old.diameter < r.topWatch.threshold <;> by_cases h2 : p.diameter < r.topWatch.threshold
      all_goals simp [h1, h2, not_le.mpr, not_lt.mp]

theorem State.told_watchSlot (hr : s.record? k = some r) (l : List Notice) :
    (s.told l).watchSlot k = (s.setSlot k (some r.watchedLast)).told (l ++ r.watchTold) := by
  unfold State.watchSlot StemRecord.watchedLast StemRecord.watchTold
  rw [State.told_record?, hr]
  simp only
  cases r.profile.getLast? with
  | none => simp [State.setSlot_self hr]
  | some p =>
    simp only
    rw [State.told_setSlot]
    cases r.watchTrip r.profile.dropLast.getLast? p with
    | none => simp
    | some x => exact (State.offerNotice_eq_told _ _).trans (State.told_told _ _ _)

/-- What top watch leaves in a list of slots. -/
theorem State.told_watchAll (slots : List Nat) (hn : slots.Nodup) (hrec : ∀ i ∈ slots, (s.record? i).isSome) (l : List Notice) :
    ∃ T, T.group = s.stb.group ∧ T.nextHandle = s.stb.nextHandle ∧
      (∀ i, State.record? { s with stb := T } i = if i ∈ slots then (s.record? i).map StemRecord.watchedLast else s.record? i) ∧
      slots.foldl State.watchSlot (s.told l) = State.told { s with stb := T }
        (l ++ slots.flatMap fun i => ((s.record? i).map StemRecord.watchTold).getD []) := by
  induction slots generalizing s l with
  | nil => exact ⟨s.stb, rfl, rfl, fun i => by simp, by simp⟩
  | cons k slots ih =>
    obtain ⟨hk, hn⟩ := List.nodup_cons.mp hn
    obtain ⟨r, hr⟩ := Option.isSome_iff_exists.mp (hrec k List.mem_cons_self)
    set t := s.setSlot k (some r.watchedLast) with ht
    have hset (i : Nat) : t.record? i = if i = k then some r.watchedLast else s.record? i :=
      State.record?_setSlot (State.record?_lt hr) _ i
    have hothers (i : Nat) (hi : i ∈ slots) : t.record? i = s.record? i := by
      rw [hset, if_neg fun he : i = k => hk (he ▸ hi)]
    obtain ⟨T, hgroup, hnext, hrecords, heq⟩ := ih (s := t) hn (fun i hi => by
      rw [hothers i hi]
      exact hrec i (List.mem_cons_of_mem _ hi)) (l ++ r.watchTold)
    refine ⟨T, hgroup, hnext, fun i => (hrecords i).trans ?_, ?_⟩
    · rw [hset]
      by_cases hik : i = k
      · subst hik
        simp [hk, hr]
      · simp [hik]
    · rw [List.foldl_cons, State.told_watchSlot hr, heq, List.flatMap_cons, hr, List.append_assoc,
        List.flatMap_congr fun i hi => by rw [hothers i hi]]
      rfl

end Watch

/-! ### The members after a FEED result -/

theorem List.flatMap_filterMap_getD {α β γ : Type} (l : List α) (g : α → Option β) (h : β → List γ) :
    (l.filterMap g).flatMap h = l.flatMap fun a => ((g a).map h).getD [] := by
  induction l with
  | nil => rfl
  | cons a l ih => cases ha : g a <;> simp [ha, ih]

section Members

variable {s : State} {k : Nat} {lead : StemRecord}

/-- The members with their samples, and with their top watches done. -/
theorem State.told_watchMembers (hg : s.GroupLaw) (hl : s.lead? = some (k, lead)) (f : FeedRequest) (n : Nat) (m : MeasureReport) :
    ∃ T, s.Hears { s with lnu := s.thinnedTrigger f lead } { s with lnu := s.thinnedTrigger f lead, stb := T }
        (fun _ r => (s.profiled f n m r).watchedLast) ∧
      (s.appendSamples f n m).watchMembers = State.told { s with lnu := s.thinnedTrigger f lead, stb := T }
        (s.members.flatMap fun x => (s.profiled f n m x.2).watchTold) := by
  have ha := s.appendSamples_hears f n m hg.nodup hl
  have hp := State.groupState_of_lead? hl
  set a := s.appendSamples f n m with hadef
  have hrec (i : Nat) (hi : i ∈ s.stb.group) : a.record? i = (s.record? i).map (s.profiled f n m) := by
    rw [ha.records, if_pos ⟨hi, hp⟩]
  obtain ⟨T, hgroup, hnext, hrecords, heq⟩ := a.told_watchAll a.stb.group (by rw [ha.group]; exact hg.nodup) (fun i hi => by
    rw [ha.group] at hi
    obtain ⟨r, hr, -⟩ := (hg.mem i).mp hi
    simp [hrec i hi, hr]) []
  have hrest : ({ a with stb := T } : State) = { s with lnu := s.thinnedTrigger f lead, stb := T } :=
    congrArg (fun v : State => { v with stb := T }) ha.rest
  rw [hrest] at hrecords heq
  refine ⟨T, ⟨rfl, hgroup.trans ha.group, hnext.trans ha.nextHandle, fun i => (hrecords i).trans ?_⟩, heq.trans ?_⟩
  · rw [ha.group, ha.records]
    by_cases hi : i ∈ s.stb.group
    · simp [hi, hp, Function.comp_def]
    · simp [hi]
  · rw [ha.group, State.members, List.flatMap_filterMap_getD, List.nil_append]
    refine congrArg (State.told _) (List.flatMap_congr fun i hi => ?_)
    rw [hrec i hi]
    cases s.record? i <;> rfl

theorem State.members_filter_fst (s : State) (p : Nat × StemRecord → Bool) :
    (s.members.filter p).map Prod.fst = s.stb.group.filter fun i => (s.record? i).any fun r => p (i, r) := by
  unfold State.members
  induction s.stb.group with
  | nil => rfl
  | cons i l ih =>
    rw [List.filterMap_cons, List.filter_cons]
    cases hr : s.record? i with
    | none => simpa using ih
    | some r =>
      simp only [Option.map_some, Option.any_some, List.filter_cons]
      split
      · rw [List.map_cons, ih]
      · exact ih

theorem State.closeNotices_filter (s : State) (p : StemRecord → Bool) (st : StemRecord → StemState) (why : EndReason) :
    s.closeNotices (s.stb.group.filter fun i => (s.record? i).any p) st why =
      (s.members.filter fun m => p m.2).map fun m => m.2.closeNotice (st m.2) why := by
  unfold State.closeNotices State.members
  induction s.stb.group with
  | nil => rfl
  | cons i l ih =>
    rw [List.filterMap_cons, List.filter_cons]
    cases hr : s.record? i with
    | none => simpa using ih
    | some r =>
      simp only [Option.map_some, Option.any_some, List.filter_cons]
      split
      · rw [List.filterMap_cons, hr, List.map_cons, ih]
        rfl
      · exact ih

end Members

/-! ### The stem end (R37, R40) -/

section End

variable {s v : State} {l : List Notice}

/-- What a stem end leaves of the sequencer. -/
def Sequencer.afterEnd (f : Sequencer) : Sequencer :=
  if f.state.isProcessing then { f.resting .idle with stopped := false, reversals := 0, overshoot := false } else f

/-- The notice of a stem end's change to IDLE. -/
def State.endChange (s : State) : List Notice :=
  if s.fcs.state.isProcessing then [.fcsState s.fcs.state .idle none s.lnu.length none] else []

theorem State.told_sequencerGroupEnd (h : s.stb.group = []) :
    (s.told l).sequencerGroupEnd = (s.withFcs s.fcs.afterEnd).told (l ++ s.endChange) := by
  unfold State.sequencerGroupEnd Sequencer.afterEnd State.endChange
  rw [State.told_fcs, State.told_enterIdle_empty h]
  split
  · rfl
  · rw [List.append_nil]
    rfl

theorem State.Working.told_stemEnd (hw : v.Working) (hg : v.GroupLaw) :
    ∃ T, v.Shuts v.stb.group (fun _ => .closed) .topped { v with stb := T } ∧
      (v.told l).stemEnd = (State.withFcs { v.voidPass with stb := T, atb := v.atb.settled, dsq := v.dsq.cancelled v.params }
        v.fcs.afterEnd).told (l ++ (v.closeNotices v.stb.group (fun _ => .closed) .topped ++ v.atb.endNotices) ++ v.endChange) := by
  obtain ⟨T, hT, heq⟩ := hg.told_closeGroup (st := fun _ => .closed) (why := .topped) hw.all hw.nonempty (fun _ => rfl) l
  refine ⟨T, hT, ?_⟩
  have hempty : ({ v.voidPass with stb := T, atb := v.atb.settled, dsq := v.dsq.cancelled v.params } : State).stb.group = [] :=
    hT.group.trans (by simp)
  rw [State.stemEnd, State.told_stb, heq, State.groupEnd, State.told_cancelFeed, State.told_voidPass]
  exact State.told_sequencerGroupEnd
    (s := { v.voidPass with stb := T, atb := v.atb.settled, dsq := v.dsq.cancelled v.params }) hempty

/-- The Diameter Sequencer is free as a result is delivered, so that a cancel takes the waiting request alone. -/
theorem DiameterSequencer.cancelled_idle (d : DiameterSequencer) (p : Parameters) :
    DiameterSequencer.cancelled { d with running := none } p = { d with feedPending := none, running := none } := by
  refine if_neg fun h => ?_
  obtain ⟨q, g, hq, -⟩ := DiameterSequencer.stateNumber_eq_one_iff.mp h
  cases hq

end End

/-! ### The sample and the watch in the statement's words -/

theorem estimate_eq (n q d b : Nat) :
    estimate n q d b = if n < 2 ∨ q = 0 then d else min 999 ((2 * d * b + q) / (2 * q)) := by
  unfold estimate
  rw [clampNat_eq (by omega), Nat.zero_max]
  by_cases h1 : n < 2
  · simp [h1]
  · by_cases h2 : q = 0
    · simp [h2]
    · simp [h1, h2]

theorem StemRecord.watched_eq (r : StemRecord) (p : Sample) : r.watched p = { r with
    topWatch := { r.topWatch with
      armed := r.topWatch.armed && !(r.topWatch.mode == .fall && decide (p.diameter < r.topWatch.threshold)) } } := by
  unfold StemRecord.watched StemRecord.below
  by_cases h : r.topWatch.mode = .fall ∧ r.topWatch.armed = true ∧ decide (p.diameter < r.topWatch.threshold) = true
  · rw [if_pos h, h.1, h.2.1, h.2.2]
    rfl
  · have hkeep : (r.topWatch.armed && !(r.topWatch.mode == .fall && decide (p.diameter < r.topWatch.threshold))) =
        r.topWatch.armed := by
      cases ha : r.topWatch.armed
      · rfl
      · simpa [ha, imp_iff_not_or] using h
    rw [if_neg h, hkeep]

theorem State.profilesFull_iff (s : State) : s.profilesFull = true ↔ ∃ m ∈ s.members, 64 ≤ m.2.profile.length := by
  simp [State.profilesFull]

/-! ### What the delivery leaves -/

section Fed

variable (s : State) (f : FeedRequest) (n : Nat) (m : MeasureReport)

/-- A member with its sample, its top watch done. -/
def State.grown (r : StemRecord) : StemRecord := (s.profiled f n m r).watchedLast

theorem State.thinnedTrigger_length (lead : StemRecord) : (s.thinnedTrigger f lead).length = s.lnu.length := by
  unfold State.thinnedTrigger
  split <;> rfl

/-- A member that the result closes: every one at the stem end, else one that is no lead and has become too thin (R37, R38). -/
def State.fallsOut (r : StemRecord) : Bool :=
  decide (m.result < s.params.endDiameter) ||
    (r.role != some .lead && decide ((s.sampled f n m r).diameter < s.params.endDiameter))

/-- Why it closes. -/
def State.outReason : EndReason := if m.result < s.params.endDiameter then .topped else .fellOut

/-- The notices of the top watches and the closes. -/
def State.feedNotices : List Notice :=
  (s.members.flatMap fun x => (s.profiled f n m x.2).watchTold) ++
    (s.members.filter fun x => s.fallsOut f n m x.2).map fun x => x.2.closeNotice .closed (s.outReason m)

/-- What a FEED result leaves of a PROCESSING group with a lead, where it is not discarded (R10, R37 to R40). -/
structure State.Fed (lead : StemRecord) (u : State) : Prop where
  records : ∀ i r, i ∈ s.stb.group → s.record? i = some r → u.record? i =
    some (if s.fallsOut f n m r then (s.grown f n m r).ended .closed (s.outReason m) else s.grown f n m r)
  others : ∀ i, i ∉ s.stb.group → u.record? i = s.record? i
  group : u.stb.group = s.stb.group.filter fun i => (s.record? i).any fun r => !s.fallsOut f n m r
  nextHandle : u.stb.nextHandle = s.stb.nextHandle
  asks : ¬m.result < s.params.endDiameter → s.Asks u.bke
  voids : m.result < s.params.endDiameter → u.bke = s.voidPass.bke
  lnu : u.lnu = s.thinnedTrigger f lead
  atb : u.atb = if m.result < s.params.endDiameter then s.atb.settled else s.atb
  fcs : u.fcs = if m.result < s.params.endDiameter then s.fcs.afterEnd else s.fcs
  dsq : u.dsq = if m.result < s.params.endDiameter then { s.dsq with feedPending := none } else s.dsq
  rest : u.lines = s.lines ∧ u.params = s.params ∧ u.pending = s.pending
  hbp : u.hbp = (s.told (s.feedNotices f n m ++
    if m.result < s.params.endDiameter then s.atb.endNotices ++ s.endChange else [])).hbp

theorem StemRecord.watched_frame (r : StemRecord) (p : Sample) : (r.watched p).state = r.state ∧ (r.watched p).role = r.role ∧
    (r.watched p).profile = r.profile ∧ (r.watched p).handle = r.handle ∧ (r.watched p).pieces = r.pieces ∧
    (r.watched p).plan = r.plan ∧ (r.watched p).frozen = r.frozen := by
  rw [StemRecord.watched_eq]
  exact ⟨rfl, rfl, rfl, rfl, rfl, rfl, rfl⟩

variable {s f n m}

theorem State.profiled_getLast? (r : StemRecord) : (s.profiled f n m r).profile.getLast? = some (s.sampled f n m r) := by
  simp [State.profiled, StemRecord.append]

theorem State.grown_eq (r : StemRecord) : s.grown f n m r = (s.profiled f n m r).watched (s.sampled f n m r) := by
  rw [State.grown, StemRecord.watchedLast, State.profiled_getLast?]

theorem State.grown_frame (r : StemRecord) : (s.grown f n m r).state = r.state ∧ (s.grown f n m r).role = r.role ∧
    (s.grown f n m r).profile.getLast? = some (s.sampled f n m r) ∧ (s.grown f n m r).handle = r.handle ∧
    (s.grown f n m r).pieces = r.pieces ∧ (s.grown f n m r).plan = r.plan ∧ (s.grown f n m r).frozen = r.frozen := by
  obtain ⟨hstate, hrole, hprofile, hhandle, hpieces, hplan, hfrozen⟩ :=
    (s.profiled f n m r).watched_frame (s.sampled f n m r)
  rw [State.grown_eq, hstate, hrole, hprofile, hhandle, hpieces, hplan, hfrozen, State.profiled_getLast?]
  unfold State.profiled StemRecord.spaced
  split
  · exact ⟨rfl, rfl, rfl, rfl, rfl, rfl, rfl⟩
  · exact ⟨rfl, rfl, rfl, rfl, rfl, rfl, rfl⟩

theorem State.grown_closeNotice (r : StemRecord) (st : StemState) (why : EndReason) :
    (s.grown f n m r).closeNotice st why = r.closeNotice st why := by
  obtain ⟨-, -, -, hhandle, hpieces, hplan, -⟩ := s.grown_frame (f := f) (n := n) (m := m) r
  rw [StemRecord.closeNotice, hhandle, hpieces, hplan]
  rfl

theorem State.grown_kindly : StemRecord.Kindly fun _ => s.grown f n m := fun _ r =>
  ⟨(State.grown_frame r).1, (State.grown_frame r).2.1⟩

/-- The delivery of a result that is not discarded, up to its closes: the members have their samples. -/
theorem State.feed_grown {k : Nat} {lead : StemRecord} (hs : s.Stems) (hl : s.lead? = some (k, lead)) :
    ∃ v : State, s.Hears { s with lnu := s.thinnedTrigger f lead } v (fun _ => s.grown f n m) ∧ v.Stems ∧ v.Working ∧
      (s.appendSamples f n m).watchMembers = v.told (s.members.flatMap fun x => (s.profiled f n m x.2).watchTold) := by
  obtain ⟨T, hT, hwatched⟩ := State.told_watchMembers hs.law hl f n m
  have hstems : State.Stems { s with lnu := s.thinnedTrigger f lead, stb := T } := by
    have ht := hs.reworked ((State.Reworked.appendSamples s f n m).trans (.watchMembers _)) (by simp)
    rw [hwatched] at ht
    exact ht.congr (State.told_stb _ _).symm (congrArg (·.state) (State.told_fcs _ _).symm)
  exact ⟨_, hT, hstems, hstems.working_of_groupState ((hT.groupState State.grown_kindly).trans (State.groupState_of_lead? hl)),
    hwatched⟩

theorem State.deliverFeed_of_lead {k : Nat} {lead : StemRecord} (hl : s.lead? = some (k, lead)) (hd : s.feedDiscarded f = false) :
    s.deliverFeed f n m =
      if m.result < s.params.endDiameter then ((s.appendSamples f n m).watchMembers).stemEnd
      else (((s.appendSamples f n m).watchMembers).closeAll ((s.appendSamples f n m).watchMembers).dropOuts
        (fun _ => .closed) .fellOut).requestPass := by
  have hparams : ((s.appendSamples f n m).watchMembers).params = s.params := by simp
  unfold State.deliverFeed
  simp only
  rw [if_neg (by rw [State.groupState_of_lead? hl]; decide), if_neg (by rw [hd]; decide), hparams]

theorem State.Hears.closeNotices_grown {t v : State} (hv : s.Hears t v fun _ => s.grown f n m) (hgs : s.groupState = .processing)
    (p : StemRecord → Bool) (why : EndReason) :
    ((v.members.filter fun x => p x.2).map fun x => x.2.closeNotice .closed why) =
      (s.members.filter fun x => p (s.grown f n m x.2)).map fun x => x.2.closeNotice .closed why := by
  rw [hv.members hgs, List.filter_map, List.map_map]
  exact List.map_congr_left fun x _ => State.grown_closeNotice x.2 .closed why

/-- The stem end closes every member, and the group's end is told. -/
theorem State.fed_topped {k : Nat} {lead : StemRecord} (hs : s.Stems) (hl : s.lead? = some (k, lead))
    (hd : s.feedDiscarded f = false) (hidle : s.dsq.running = none) (ht : m.result < s.params.endDiameter) :
    s.Fed f n m lead (s.deliverFeed f n m) := by
  have hgs := State.groupState_of_lead? hl
  obtain ⟨v, hv, hvs, hvw, hwatched⟩ := State.feed_grown (f := f) (n := n) (m := m) hs hl
  obtain ⟨T, hT, hend⟩ := hvw.told_stemEnd hvs.law (l := s.members.flatMap fun x => (s.profiled f n m x.2).watchTold)
  have hout (r : StemRecord) : s.fallsOut f n m r = true := by simp [State.fallsOut, ht]
  have hwhy : s.outReason m = .topped := if_pos ht
  have hcancel : v.dsq.cancelled v.params = { s.dsq with feedPending := none } := by
    have := DiameterSequencer.cancelled_idle s.dsq v.params
    rw [show v.dsq = s.dsq by rw [hv.rest]]
    rw [← hidle] at this
    exact this
  have hnotices : v.closeNotices v.stb.group (fun _ => .closed) .topped =
      (s.members.filter fun x => s.fallsOut f n m x.2).map fun x => x.2.closeNotice .closed (s.outReason m) := by
    have := hv.closeNotices_grown hgs (fun _ => true) .topped
    simp only [List.filter_true] at this
    rw [State.closeNotices_members, this, hwhy]
    simp only [hout, List.filter_true]
  rw [State.deliverFeed_of_lead hl hd, if_pos ht, hwatched, hend, hcancel, hnotices]
  have hrecords (i : Nat) := hT.records i
  rw [hv.group] at hrecords
  refine ⟨fun i r hi hr => ?_, fun i hi => ?_, ?_, ?_, fun h => absurd ht h, fun _ => ?_, ?_, ?_, ?_, ?_, ?_, ?_⟩
  · rw [State.told_record?]
    refine (hrecords i).trans ?_
    rw [if_pos hi, hv.records, if_pos ⟨hi, hgs⟩, hr, hout, hwhy]
    rfl
  · rw [State.told_record?]
    refine (hrecords i).trans ?_
    rw [if_neg hi, hv.records, if_neg fun h => hi h.1]
  · rw [State.told_stb]
    refine hT.group.trans ?_
    rw [hv.group]
    simp [hout]
  · rw [State.told_stb]
    exact hT.nextHandle.trans hv.nextHandle
  · rw [State.told_bke, hv.rest]
    rfl
  · rw [State.told_lnu, hv.rest]
    rfl
  · rw [State.told_atb, if_pos ht, hv.rest]
    rfl
  · rw [State.told_fcs, if_pos ht, hv.rest]
    rfl
  · rw [State.told_dsq, if_pos ht]
    rfl
  · rw [State.told_lines, State.told_params, State.told_pending, hv.rest]
    exact ⟨rfl, rfl, rfl⟩
  · have hlist (w l e c : List Notice) : w ++ (l ++ e) ++ c = w ++ l ++ (e ++ c) := by simp only [List.append_assoc]
    have hchange : v.endChange = s.endChange := by
      unfold State.endChange
      rw [hv.rest, State.thinnedTrigger_length]
    rw [if_pos ht, State.feedNotices, hlist, show v.atb = s.atb by rw [hv.rest], hchange]
    refine State.told_hbp ?_ _
    rw [hv.rest]
    rfl

/-- Closes that spare the lead leave it in its place. -/
theorem State.Closes.lead? {v w : State} {l : List Nat} {k : Nat} {q : StemRecord} (h : State.Closes l v w) (hg : v.GroupLaw)
    (hw : v.Working) (hl : v.lead? = some (k, q)) (hk : k ∉ l) : w.lead? = some (k, q) := by
  obtain ⟨hvk, hrole⟩ := State.lead?_spec hl
  obtain ⟨j₀, q₀, hl₀, huniq⟩ := hw.lead? hg
  obtain ⟨rfl, rfl⟩ := Prod.mk.inj (Option.some.inj (hl₀.symm.trans hl))
  have hww := h.working hg hw fun i r hr hrole => huniq i r hr hrole ▸ hk
  obtain ⟨j, p, hwl, huniq'⟩ := hww.lead? h.law
  have hwk := (h.others _ hk).trans hvk
  obtain rfl := huniq' _ _ hwk hrole
  rw [hwl, Option.some.inj ((State.lead?_spec hwl).1.symm.trans hwk)]

theorem State.told_dropOuts (v : State) (l : List Notice) : (v.told l).dropOuts = v.dropOuts := by
  unfold State.dropOuts
  rw [State.told_members, State.told_params]

/-- A result that ends no stem closes the members that have become too thin, and asks for a pass. -/
theorem State.fed_thinned {k : Nat} {lead : StemRecord} (hs : s.Stems) (hl : s.lead? = some (k, lead))
    (hd : s.feedDiscarded f = false) (ht : ¬m.result < s.params.endDiameter) : s.Fed f n m lead (s.deliverFeed f n m) := by
  have hgs := State.groupState_of_lead? hl
  obtain ⟨v, hv, hvs, hvw, hwatched⟩ := State.feed_grown (f := f) (n := n) (m := m) hs hl
  have hwhy : s.outReason m = .fellOut := if_neg ht
  have hvl : v.lead? = some (k, s.grown f n m lead) := (hv.lead? State.grown_kindly).trans (congrArg _ hl)
  obtain ⟨hvk, hvrole⟩ := State.lead?_spec hvl
  have hvparams : v.params = s.params := by rw [hv.rest]
  let thin (r : StemRecord) : Bool := r.role != some .lead && match r.profile.getLast? with
    | some p => decide (p.diameter < v.params.endDiameter)
    | none => false
  have hthin (r : StemRecord) : thin (s.grown f n m r) = s.fallsOut f n m r := by
    obtain ⟨-, hrole, hlast, -⟩ := s.grown_frame (f := f) (n := n) (m := m) r
    simp only [thin, hrole, hlast, hvparams, State.fallsOut, ht, decide_false, Bool.false_or]
  have hdrop : v.dropOuts = v.stb.group.filter fun i => (v.record? i).any thin := v.members_filter_fst fun m => thin m.2
  have hleads : k ∉ v.dropOuts := State.Stems.lead_not_dropOut v hvk hvrole
  have hmem (i : Nat) (hi : i ∈ v.dropOuts) : (v.record? i).isSome := by
    rw [hdrop, List.mem_filter] at hi
    cases hr : v.record? i <;> simp [hr] at hi ⊢
  obtain ⟨T, hT, hclose⟩ := v.told_closeAll_kept (st := fun _ => .closed) (why := .fellOut) v.dropOuts
    (hdrop ▸ hvs.law.nodup.filter _) hmem
    (.inr ⟨k, _, hleads, hvk, (hvs.law.records k _ hvk).1.mp (by simp [hvrole])⟩)
    (s.members.flatMap fun x => (s.profiled f n m x.2).watchTold)
  set w : State := { v with stb := T } with hw
  set l := (s.members.flatMap fun x => (s.profiled f n m x.2).watchTold) ++ v.closeNotices v.dropOuts (fun _ => .closed) .fellOut
    with hl'
  obtain ⟨b, hasks, hpass⟩ := State.told_requestPass w l
  have hrun : s.deliverFeed f n m = (w.withBke b).told l := by
    rw [State.deliverFeed_of_lead hl hd, if_neg ht, hwatched, State.told_dropOuts, hclose, hpass]
  have hout (i : Nat) (hi : i ∈ s.stb.group) (r : StemRecord) (hr : s.record? i = some r) :
      v.record? i = some (s.grown f n m r) ∧ (i ∈ v.dropOuts ↔ s.fallsOut f n m r = true) := by
    have hvr : v.record? i = some (s.grown f n m r) := by rw [hv.records, if_pos ⟨hi, hgs⟩, hr]; rfl
    rw [hdrop, List.mem_filter, hv.group, hvr]
    simp [hi, hthin]
  have hsafe (i : Nat) (hi : i ∉ s.stb.group) : i ∉ v.dropOuts := fun h => by
    rw [hdrop, List.mem_filter, hv.group] at h
    exact hi h.1
  have hwl : w.lead? = some (k, s.grown f n m lead) := by
    have hts := hvs.congr (t := v.told (s.members.flatMap fun x => (s.profiled f n m x.2).watchTold)) (State.told_stb _ _)
      (congrArg (·.state) (State.told_fcs _ _))
    have hcloses := hts.law.closeAll v.dropOuts (st := fun _ => .closed) (fun _ => rfl) .fellOut
    rw [hclose] at hcloses
    refine (hcloses.congr (u := w) (State.told_stb _ _).symm).lead? hts.law
      (hts.working_of_groupState ((State.told_groupState _ _).trans ((hv.groupState State.grown_kindly).trans hgs)))
      ((State.told_lead? _ _).trans hvl) hleads
  have hplan : w.plannable?.isSome = s.plannable?.isSome := by
    unfold State.plannable?
    rw [hwl, hl]
    simp only [(State.grown_frame lead).2.2.2.2.2.2]
    split <;> rfl
  rw [hrun]
  refine ⟨fun i r hi hr => ?_, fun i hi => ?_, ?_, ?_, fun _ => ?_, fun h => absurd h ht, ?_, ?_, ?_, ?_, ?_, ?_⟩
  · obtain ⟨hvr, hmem⟩ := hout i hi r hr
    rw [State.told_record?]
    refine (hT.records i).trans ?_
    rw [hvr, hwhy]
    simp only [hmem]
    split <;> rfl
  · rw [State.told_record?]
    refine (hT.records i).trans ?_
    rw [if_neg (hsafe i hi), hv.records, if_neg fun h => hi h.1]
  · rw [State.told_stb]
    refine hT.group.trans ?_
    rw [hv.group]
    refine List.filter_congr fun i hi => ?_
    obtain ⟨r, hr, -⟩ := (hs.law.mem i).mp hi
    rw [hr, Option.any_some, decide_not, Bool.not_inj_iff, Bool.eq_iff_iff, decide_eq_true_eq]
    exact (hout i hi r hr).2
  · rw [State.told_stb]
    exact hT.nextHandle.trans hv.nextHandle
  · have hbke : w.bke = s.bke := congrArg (·.bke) hv.rest
    rw [State.told_bke]
    unfold State.Asks at hasks ⊢
    rwa [hplan, hbke] at hasks
  · rw [State.told_lnu]
    exact congrArg (·.lnu) hv.rest
  · rw [State.told_atb, if_neg ht]
    exact congrArg (·.atb) hv.rest
  · rw [State.told_fcs, if_neg ht]
    exact congrArg (·.fcs) hv.rest
  · rw [State.told_dsq, if_neg ht]
    exact congrArg (·.dsq) hv.rest
  · rw [State.told_lines, State.told_params, State.told_pending]
    exact ⟨congrArg (·.lines) hv.rest, congrArg (·.params) hv.rest, congrArg (·.pending) hv.rest⟩
  · rw [if_neg ht, List.append_nil, hl', hdrop, State.closeNotices_filter, hv.closeNotices_grown hgs]
    simp only [hthin]
    rw [← hwhy]
    refine State.told_hbp ?_ _
    exact congrArg (·.hbp) hv.rest

end Fed

/-- A completed FEED sequence delivers its report to the group. -/
theorem exec_feedComplete {s : State} {q : RunningSequence} {f : FeedRequest} (hq : s.dsq.running = some q)
    (hf : q.target = .feed f) (r : Readings) : ∃ m : MeasureReport, m.result = s.measured q.mask q.averaging r ∧
      m.disagree = s.disagrees q.mask q.averaging r ∧ m.armLimit = s.overArm q.mask q.averaging r ∧
      exec (.sequenceComplete r) s =
        .next ((State.deliverFeed { s with dsq.running := none } f q.averaging m).arbitrate).transmit := by
  have hrun := exec_sequenceComplete hq r
  rw [State.measureReport_readAll, State.deliver, show (q.readAll r).target = .feed f from hf] at hrun
  exact ⟨_, rfl, rfl, rfl, hrun⟩

/-- The states in which a group is PROCESSING. -/
theorem State.Stems.isProcessing_iff {s : State} (hs : s.Stems) (h : s.groupState = .processing) :
    s.fcs.state.isProcessing = true ↔ s.fcs.state ≠ .halted := by
  have hheld (ha : s.groupAll .held) : False := State.groupState_ne_of_held ha h
  have hp := hs.phase
  cases hst : s.fcs.state <;> rw [hst] at hp
  case idle => exact (hheld hp.1.all).elim
  case felling => exact (hheld hp.all).elim
  case holding => exact (hheld hp.1.all).elim
  all_goals decide

/-- Settles O43: the result of a FEED sequence, from the discard to the stem end and the drop-outs. -/
theorem feedResult : Obligations.FeedResult := by
  intro s r q f hq hf hlaw _ run d freed
  obtain ⟨hg, hphase⟩ := s.stemLaw_iff.mp hlaw
  obtain ⟨rep, hresult, hdisagree, harm, hrun⟩ := exec_feedComplete hq hf r
  set idle : State := { s with dsq.running := none } with hidle
  have hfreed : idle.arbitrate = freed := State.arbitrate_freed s
  refine ⟨fun hgs => ?_, fun k lead hl => ⟨fun p hp hle => ?_, fun hpos => ?_⟩⟩
  · show exec (.sequenceComplete r) s = _
    rw [hrun, State.deliverFeed, if_pos (by exact hgs), hfreed]
  · have hgs := State.groupState_of_lead? hl
    have hmissed := (State.Hears.refl (s := s) (t := idle) rfl).modifyActive hg.nodup (fun _ _ => ⟨rfl, rfl⟩) StemRecord.missed
    have hafter := hmissed.map (F := fun v => { v with dsq := s.dsq.freed s.params }) fun _ _ => rfl
    refine ⟨_, hrun.trans ?_, hafter.rest, hafter.group, hafter.nextHandle, fun i => (hafter.records i).trans ?_⟩
    · rw [State.deliverFeed, if_neg (by rw [show idle.groupState = .processing from hgs]; decide), if_pos]
      · rw [State.arbitrate_free (d := s.dsq.freed s.params) (by rw [hmissed.rest])]
        rw [hmissed.rest]
        exact DiameterSequencer.freed_idle s.dsq s.params
      · unfold State.feedDiscarded
        rw [show idle.lead? = some (k, lead) from hl]
        simp [hp, hle]
    · simp only [hgs, and_true, StemRecord.missed, saturate_eq]
  · have hgs : idle.groupState = .processing := State.groupState_of_lead? hl
    have hdiscard : idle.feedDiscarded f = false := by
      unfold State.feedDiscarded
      rw [show idle.lead? = some (k, lead) from hl]
      cases hp : lead.profile.getLast? with
      | none => simp [hp]
      | some p => simpa [hp] using hpos p hp
    have hs : idle.Stems := State.Stems.congr (s := s) ⟨hg, hphase⟩ rfl rfl
    have hfed : idle.Fed f q.averaging rep lead (idle.deliverFeed f q.averaging rep) := by
      by_cases ht : rep.result < idle.params.endDiameter
      · exact State.fed_topped hs hl hdiscard rfl ht
      · exact State.fed_thinned hs hl hdiscard ht
    set w := idle.deliverFeed f q.averaging rep with hw
    have hfree : w.dsq.running = none := by
      rw [hfed.dsq]
      split <;> rfl
    refine ⟨{ w with dsq := w.dsq.freed w.params }, hrun.trans ?_, ?_⟩
    · rw [State.arbitrate_free hfree rfl]
    intro n root thin kept doubled share sample grown watches topped out why closes swaps idles
    have htopped : topped ↔ rep.result < idle.params.endDiameter := by rw [hresult]
    have hfull : idle.profilesFull = true ↔ thin := idle.profilesFull_iff
    have hroot : splitDivisor idle.memberButts = root := by
      unfold splitDivisor floorRoot State.memberButts
      rw [List.map_map]
      rfl
    have hsample (x : StemRecord) : idle.sampled f q.averaging rep x = sample x := by
      have hroller : (f.source == .roller || f.source == .rejoin) = decide (f.source = .roller ∨ f.source = .rejoin) := by
        cases f.source <;> rfl
      unfold State.sampled feedSample SampleFlags.ofFeed
      rw [estimate_eq, hroot, hresult, hdisagree, harm, hroller]
      rfl
    have hprofiled (x : StemRecord) : idle.profiled f q.averaging rep x = { x with
        profile := kept x ++ [sample x], profileStep := doubled x } := by
      unfold State.profiled StemRecord.spaced StemRecord.append
      rw [hsample]
      by_cases h : thin
      · rw [if_pos (hfull.mpr h)]
        simp only [kept, doubled, if_pos h, StemRecord.thinned, evenSamples_eq]
      · rw [if_neg (mt hfull.mp h)]
        simp only [kept, doubled, if_neg h]
    have hgrown (x : StemRecord) : idle.grown f q.averaging rep x = grown x := by
      rw [State.grown_eq, hsample, StemRecord.watched_eq, hprofiled]
    have hwatch (x : StemRecord) : (idle.profiled f q.averaging rep x).watchTold =
        x.watchNotices (kept x).getLast? (sample x) := by
      rw [StemRecord.watchTold, State.profiled_getLast?, hsample]
      simp only
      rw [StemRecord.watchTrip_eq, hprofiled, List.dropLast_concat]
      rfl
    have hout (x : StemRecord) : idle.fallsOut f q.averaging rep x = decide (out x) := by
      unfold State.fallsOut
      rw [hsample, hresult, Bool.eq_iff_iff]
      simp [out, topped, idle, sample, d]
    have hwhy : idle.outReason rep = why := by
      unfold State.outReason
      rw [hresult]
    have htrigger : idle.thinnedTrigger f lead =
        if thin then { s.lnu with trigger := f.position + doubled lead } else s.lnu := by
      unfold State.thinnedTrigger StemRecord.spaced
      by_cases h : thin
      · rw [if_pos (hfull.mpr h), if_pos h, if_pos (hfull.mpr h)]
        simp only [doubled, if_pos h]
        rfl
      · rw [if_neg (mt hfull.mp h), if_neg h]
    have hends (h : topped) : s.fcs.state.isProcessing = true ↔ idles :=
      (State.Stems.isProcessing_iff ⟨hg, hphase⟩ hgs).trans (and_iff_right h).symm
    have hswaps (h : topped) : s.atb.swapPending = true ↔ swaps := (and_iff_right h).symm
    have hnotices : idle.feedNotices f q.averaging rep = watches ++ closes := by
      unfold State.feedNotices
      simp only [hout, hwhy, hwatch]
      rfl
    refine ⟨fun i x hi hx => ?_, hfed.others, ?_, hfed.nextHandle, fun ht => ?_, fun ht => ?_, hfed.lnu.trans htrigger, ?_, ?_, ?_,
      hfed.rest.1, hfed.rest.2.1, hfed.rest.2.2, ?_⟩
    · refine (hfed.records i x hi hx).trans ?_
      rw [hout, hgrown, hwhy]
      simp only [decide_eq_true_eq]
    · refine hfed.group.trans (List.filter_congr fun i _ => ?_)
      simp only [hout, decide_not]
      rfl
    · exact (State.asks_congr rfl rfl).mp (hfed.asks (mt htopped.mpr ht))
    · exact hfed.voids (htopped.mp ht)
    · refine hfed.atb.trans ?_
      by_cases h : topped
      · rw [if_pos (htopped.mp h)]
        simp only [← hswaps h]
        rfl
      · rw [if_neg (mt htopped.mpr h), if_neg fun hc => h hc.1]
    · refine hfed.fcs.trans ?_
      by_cases h : topped
      · rw [if_pos (htopped.mp h)]
        simp only [← hends h]
        rfl
      · rw [if_neg (mt htopped.mpr h), if_neg fun hc => h hc.1]
    · show w.dsq.freed w.params = _
      rw [hfed.dsq, hfed.rest.2.1]
      by_cases h : topped
      · rw [if_pos (htopped.mp h), if_pos h]
        exact DiameterSequencer.freed_idle { s.dsq with feedPending := none } s.params
      · rw [if_neg (mt htopped.mpr h), if_neg h]
        exact DiameterSequencer.freed_idle s.dsq s.params
    · refine (hfed.hbp.trans (State.told_hbp (s := idle) (t := s) rfl _)).trans (congrArg (fun l => (s.told l).hbp) ?_)
      rw [hnotices, List.append_assoc (watches ++ closes)]
      refine congrArg (watches ++ closes ++ ·) ?_
      by_cases h : topped
      · rw [if_pos (htopped.mp h)]
        unfold AssortmentTable.endNotices State.endChange
        simp only [← hswaps h, ← hends h]
        rfl
      · rw [if_neg (mt htopped.mpr h), if_neg fun hc => h hc.1, if_neg fun hc => h hc.1]
        rfl

end Sys2Proof.Machine

/-! PROOF. The dynamic programme (R113, R114, R118): what the choice among tried candidates is, what a row of the table holds,
and that the traced chain is a best one. -/

namespace Sys2Proof.Machine

open Sys2Proof

/-! ### The choice (R113, R114) -/

/-- The first candidate tried of the greatest worth, with that worth; none where every worth is 0. -/
inductive IsBest (worth : Candidate → Nat) (tried : List Candidate) : Nat × Option Candidate → Prop
  | stop (h : ∀ c ∈ tried, worth c = 0) : IsBest worth tried (0, none)
  | take (before : List Candidate) (c : Candidate) (after : List Candidate) (split : tried = before ++ c :: after)
    (pos : 0 < worth c) (earlier : ∀ x ∈ before, worth x < worth c) (later : ∀ x ∈ after, worth x ≤ worth c) :
    IsBest worth tried (worth c, some c)

section Best

variable {worth : Candidate → Nat} {tried : List Candidate} {best : Nat × Option Candidate}

/-- Nothing tried is worth more. -/
theorem IsBest.le (h : IsBest worth tried best) {c : Candidate} (hc : c ∈ tried) : worth c ≤ best.1 := by
  cases h with
  | stop h => exact (h c hc).le
  | take before b after split pos earlier later =>
    rw [split, List.mem_append, List.mem_cons] at hc
    obtain hc | rfl | hc := hc
    · exact (earlier c hc).le
    · exact le_rfl
    · exact later c hc

theorem IsBest.mem (h : IsBest worth tried best) {c : Candidate} (hc : best.2 = some c) : c ∈ tried ∧ best.1 = worth c := by
  cases h with
  | stop => cases hc
  | take before b after split =>
    cases hc
    exact ⟨by simp [split], rfl⟩

theorem IsBest.value_of_stop (h : IsBest worth tried best) (hc : best.2 = none) : best.1 = 0 := by
  cases h with
  | stop => rfl
  | take => cases hc

/-- One more candidate replaces the best so far only when it is worth more. -/
theorem IsBest.concat (h : IsBest worth tried best) (c : Candidate) :
    IsBest worth (tried ++ [c]) (if best.1 < worth c then (worth c, some c) else best) := by
  split
  next hlt => exact .take tried c [] rfl (Nat.zero_lt_of_lt hlt) (fun x hx => (h.le hx).trans_lt hlt) nofun
  next hge =>
    cases h with
    | stop h =>
      refine .stop fun x hx => ?_
      obtain hx | hx := List.mem_append.mp hx
      · exact h x hx
      · rw [List.mem_singleton.mp hx]
        exact Nat.le_zero.mp (not_lt.mp hge)
    | take before b after split pos earlier later =>
      refine .take before b (after ++ [c]) (by simp [split]) pos earlier fun x hx => ?_
      obtain hx | hx := List.mem_append.mp hx
      · exact later x hx
      · rw [List.mem_singleton.mp hx]
        exact not_lt.mp hge

end Best

/-- The worth of a candidate before a row of the table: its value and the best chain after it. -/
def worthBefore (below : Row) (c : Candidate) : Nat := c.value + (below.getD c.next (0, none)).1

theorem bestChoice_isBest (below : Row) (tried : List Candidate) :
    IsBest (worthBefore below) tried (bestChoice below tried) := by
  induction tried using List.reverseRecOn with
  | nil => exact .stop nofun
  | append_singleton tried c ih =>
    rw [bestChoice, List.foldl_append]
    exact ih.concat c

/-! ### The table (R113) -/

section Table

variable (candidates : List (List Candidate))

/-- The cell of the table for a remaining count and a grid index; beyond the grid nothing follows. -/
def cell (n k : Nat) : Nat × Option Candidate := ((tableRows candidates n).headD []).getD k (0, none)

theorem cell_zero (k : Nat) : cell candidates 0 k = (0, none) := by
  simp [cell, tableRows, List.getD_eq_getElem?_getD]

theorem cell_succ (n k : Nat) :
    cell candidates (n + 1) k = bestChoice ((tableRows candidates n).headD []) (candidates.getD k []) := by
  simp only [cell, tableRows, List.headD_cons, List.getD_eq_getElem?_getD, List.getElem?_map]
  cases candidates[k]? <;> rfl

theorem cell_isBest (n k : Nat) :
    IsBest (worthBefore ((tableRows candidates n).headD [])) (candidates.getD k []) (cell candidates (n + 1) k) := by
  rw [cell_succ]
  exact bestChoice_isBest _ _

theorem trace_zero (k : Nat) : traceRows (tableRows candidates 0) k = [] := by
  have h := cell_zero candidates k
  unfold cell at h
  unfold tableRows traceRows
  rw [show (candidates.map fun _ => ((0, none) : Nat × Option Candidate)).getD k (0, none) = (0, none) from h]

theorem trace_succ (n k : Nat) : traceRows (tableRows candidates (n + 1)) k =
    match (cell candidates (n + 1) k).2 with
    | none => []
    | some c => c :: traceRows (tableRows candidates n) c.next := rfl

/-- A traced chain is a chain of candidates within the count, worth what its cell says. -/
theorem trace_isChain (n k : Nat) : IsChain candidates k (traceRows (tableRows candidates n) k) ∧
    (traceRows (tableRows candidates n) k).length ≤ n ∧
    chainValue (traceRows (tableRows candidates n) k) = (cell candidates n k).1 := by
  induction n generalizing k with
  | zero =>
    rw [trace_zero, cell_zero]
    exact ⟨trivial, le_rfl, rfl⟩
  | succ n ih =>
    have hbest := cell_isBest candidates n k
    rw [trace_succ]
    cases hc : (cell candidates (n + 1) k).2 with
    | none => exact ⟨trivial, Nat.zero_le _, (hbest.value_of_stop hc).symm⟩
    | some c =>
      obtain ⟨hmem, hvalue⟩ := hbest.mem hc
      obtain ⟨hchain, hlength, hsum⟩ := ih c.next
      refine ⟨⟨hmem, hchain⟩, Nat.succ_le_succ hlength, ?_⟩
      rw [hvalue, worthBefore]
      simp only [chainValue, List.map_cons, List.sum_cons] at hsum ⊢
      rw [hsum]
      rfl

/-- No chain within the count is worth more than the cell says. -/
theorem chainValue_le_cell (n k : Nat) {chain : List Candidate} (h : IsChain candidates k chain) (hn : chain.length ≤ n) :
    chainValue chain ≤ (cell candidates n k).1 := by
  induction n generalizing k chain with
  | zero =>
    obtain rfl := List.length_eq_zero_iff.mp (Nat.le_zero.mp hn)
    exact Nat.zero_le _
  | succ n ih =>
    cases chain with
    | nil => exact Nat.zero_le _
    | cons c rest =>
      have hrest := ih c.next h.2 (Nat.le_of_succ_le_succ hn)
      calc chainValue (c :: rest) = c.value + chainValue rest := by simp [chainValue]
        _ ≤ worthBefore ((tableRows candidates n).headD []) c := Nat.add_le_add_left hrest _
        _ ≤ _ := (cell_isBest candidates n k).le h.1

end Table

/-- Settles O57: the traced chain is a best one, from any grid index and from the origin. -/
theorem optimizerIsOptimal : Obligations.OptimizerIsOptimal := by
  intro candidates total best
  have best_of {n : Nat} {tried : List Candidate} {o : Nat × Option Candidate}
      (h : IsBest (worthBefore ((tableRows candidates n).headD [])) tried o) : best n tried o.2 := by
    cases h with
    | stop h => exact h
    | take before c after split pos earlier later => exact ⟨before, after, split, pos, earlier, later⟩
  refine ⟨fun n k _ => ?_, fun n k _ => best_of (cell_isBest candidates n k), fun origin earliest allowance => ?_⟩
  · obtain ⟨hchain, hlength, hvalue⟩ := trace_isChain candidates n k
    exact ⟨hchain, hlength, hvalue, fun other h hn => hvalue ▸ chainValue_le_cell candidates n k h hn⟩
  · cases allowance with
    | zero =>
      refine ⟨⟨trivial, le_rfl, nofun⟩, nofun, fun other _ hn _ => ?_⟩
      rw [List.length_eq_zero_iff.mp (Nat.le_zero.mp hn)]
      exact le_rfl
    | succ n =>
      intro chain reaches
      set firsts := (candidates.headD []).filter fun c => decide (earliest ≤ origin + c.nominal) with hfirsts
      set first := bestChoice ((tableRows candidates n).headD []) firsts with hfirst
      have hbest := bestChoice_isBest ((tableRows candidates n).headD []) firsts
      have hchain : chain = match first.2 with
        | none => []
        | some c => c :: traceRows (tableRows candidates n) c.next := rfl
      have hmem (c : Candidate) : c ∈ firsts ↔ c ∈ candidates.getD 0 [] ∧ earliest ≤ origin + c.nominal := by
        rw [hfirsts, List.mem_filter, decide_eq_true_eq]
        cases candidates <;> rfl
      have hbound (other : List Candidate) (h : IsChain candidates 0 other) (hn : other.length ≤ n + 1) (hr : reaches other) :
          chainValue other ≤ first.1 := by
        cases other with
        | nil => exact Nat.zero_le _
        | cons c rest =>
          have hrest := chainValue_le_cell candidates n c.next h.2 (Nat.le_of_succ_le_succ hn)
          calc chainValue (c :: rest) = c.value + chainValue rest := by simp [chainValue]
            _ ≤ worthBefore ((tableRows candidates n).headD []) c := Nat.add_le_add_left hrest _
            _ ≤ first.1 := hbest.le ((hmem c).mpr ⟨h.1, hr c rest rfl⟩)
      cases hc : first.2 with
      | none =>
        rw [hc] at hchain
        have hbest' := best_of hbest
        refine ⟨⟨by rw [hchain]; trivial, by rw [hchain]; exact Nat.zero_le _, fun x rest h => ?_⟩, fun m hm => ?_,
          fun other h hn hr => (hbound other h hn hr).trans ?_⟩
        · rw [hchain] at h
          cases h
        · obtain rfl := Nat.succ.inj hm
          refine ⟨?_, fun c rest h => ?_⟩
          · rw [hchain]
            rwa [← hfirst, hc] at hbest'
          · rw [hchain] at h
            cases h
        · rw [hbest.value_of_stop hc]
          exact Nat.zero_le _
      | some c =>
        rw [hc] at hchain
        have hbest' := best_of hbest
        obtain ⟨hfirstMem, hvalue⟩ := hbest.mem hc
        obtain ⟨hin, hreach⟩ := (hmem c).mp hfirstMem
        obtain ⟨hrest, hlength, hsum⟩ := trace_isChain candidates n c.next
        refine ⟨⟨by rw [hchain]; exact ⟨hin, hrest⟩, by rw [hchain]; exact Nat.succ_le_succ hlength, fun x rest h => ?_⟩,
          fun m hm => ?_, fun other h hn hr => (hbound other h hn hr).trans ?_⟩
        · rw [hchain] at h
          obtain rfl := (List.cons.inj h).1
          exact hreach
        · obtain rfl := Nat.succ.inj hm
          refine ⟨?_, fun x rest h => ?_⟩
          · rw [hchain]
            rwa [← hfirst, hc] at hbest'
          · rw [hchain] at h
            obtain ⟨rfl, rfl⟩ := List.cons.inj h
            rfl
        · rw [hvalue, hchain, worthBefore]
          simp only [chainValue, List.map_cons, List.sum_cons] at hsum ⊢
          rw [hsum]
          rfl

end Sys2Proof.Machine

/-! PROOF. The forms of items and the layouts read back (R187 to R189): numbers, flags, samples, plan pieces, pieces and
entries. -/

namespace Sys2Proof.Machine

open Sys2Proof

/-! ### Numbers read back (R187) -/

section Numbers

variable {n : Nat} {h : Half} {w : BitVec 32}

theorem u8_read {b : Byte} (hb : b = BitVec.ofNat 8 n) (hn : n < 256) : b.toNat = n := by
  rw [hb, BitVec.toNat_ofNat, Nat.mod_eq_of_lt hn]

theorem u16_read (hh : h = BitVec.ofNat 16 n) (hn : n < 65536) : h.toNat = n := by
  rw [hh, BitVec.toNat_ofNat, Nat.mod_eq_of_lt hn]

theorem u32_read (hw : w = BitVec.ofNat 32 n) (hn : n < 4294967296) : w.toNat = n := by
  rw [hw, BitVec.toNat_ofNat, Nat.mod_eq_of_lt hn]

theorem i32_read {z : Int} (hw : w = BitVec.ofInt 32 z) (h1 : -2147483648 ≤ z) (h2 : z < 2147483648) : w.toInt = z := by
  rw [hw, BitVec.toInt_ofInt, Int.bmod_eq_of_le (by simpa using h1) (by simpa using h2)]

/-- A word is read back from its four bytes. -/
theorem halfAt_wordBytes (w : BitVec 32) (rest : List Byte) :
    halfAt (wordBytes w ++ rest) 2 ++ halfAt (wordBytes w ++ rest) 0 = w := by
  have hhigh : halfAt (wordBytes w ++ rest) 2 = w.extractLsb' 16 16 :=
    BitVec.extractLsb'_append_extractLsb'_eq_extractLsb' (by decide)
  have hlow : halfAt (wordBytes w ++ rest) 0 = w.extractLsb' 0 16 :=
    BitVec.extractLsb'_append_extractLsb'_eq_extractLsb' (by decide)
  rw [hhigh, hlow, BitVec.extractLsb'_append_extractLsb' (w := 16) (len := 16)]

theorem posU16_eq {z : Int} (h1 : 0 ≤ z) (h2 : z < 65536) : posU16 z = u16 z.toNat := if_pos ⟨h1, h2⟩

end Numbers

/-! ### Flags (R187) -/

theorem flagBits_lt (l : List Bool) : flagBits l < 2 ^ l.length := by
  induction l with
  | nil => decide
  | cons b l ih =>
    rw [flagBits, List.length_cons, Nat.pow_succ]
    split <;> omega

/-- Bit i stands for the flag in place i. -/
theorem testBit_flagBits (l : List Bool) (i : Nat) : (flagBits l).testBit i = l.getD i false := by
  induction l generalizing i with
  | nil => simp [flagBits]
  | cons b l ih =>
    cases i with
    | zero => cases b <;> simp [flagBits, Nat.testBit_zero]
    | succ i =>
      have hhalf : ((if b then 1 else 0) + 2 * flagBits l) / 2 = flagBits l := by split <;> omega
      rw [flagBits, Nat.testBit_succ, hhalf, ih]
      rfl

/-! ### A written entry (R84, R189) -/

section Entry

variable {e : EntryImage}

theorem u16_toNat (v : Half) : u16 v.toNat = halfBytes v := by rw [u16, BitVec.ofNat_toNat, BitVec.setWidth_eq]

theorem u8_toNat' (b : Byte) : u8 b.toNat = [b] := by rw [u8, BitVec.ofNat_toNat, BitVec.setWidth_eq]

/-- An entry is laid out as its image, with 0 in the slots beyond its length count. -/
theorem EntryImage.bytes_assortment (h : EntryImage.rangesOk e = true) : (EntryImage.assortment e).bytes =
    { e with lengthSlots := Vector.ofFn fun i => if i.val < e.lengthCount.toNat then e.lengthSlots[i] else 0 }.bytes := by
  obtain ⟨-, -, -, ⟨-, hcount⟩, -, -, hgroup⟩ := (EntryImage.rangesOk_iff e).mp h
  have hlength : (EntryImage.lengths e).length = e.lengthCount.toNat := by
    rw [EntryImage.lengths_eq_map_range hcount, List.length_map, List.length_range]
  have hslots : ((List.range 6).flatMap fun i => u16 ((EntryImage.lengths e).getD i 0)) =
      (Vector.ofFn fun i : Fin 6 => if i.val < e.lengthCount.toNat then e.lengthSlots[i] else 0).toList.flatMap halfBytes := by
    rw [Vector.toList_eq_map, ← List.map_coe_finRange_eq_range, List.flatMap_map, List.flatMap_map]
    refine List.flatMap_congr fun i _ => ?_
    rw [Fin.getElem_fin, Vector.getElem_ofFn]
    by_cases hi : i.val < e.lengthCount.toNat
    · have hlt : i.val < (EntryImage.lengths e).length := hlength ▸ hi
      rw [if_pos hi, List.getD_eq_getElem _ _ hlt, EntryImage.getElem_lengths hlt i.isLt, u16_toNat]
      rfl
    · rw [if_neg hi, List.getD_eq_default _ _ (by rw [hlength]; exact not_lt.mp hi)]
      rfl
  have hprices : ((Vector.ofFn fun i : Fin 8 => e.prices[i].toNat).toList.flatMap u16) = e.prices.toList.flatMap halfBytes := by
    rw [Vector.toList_eq_map, Vector.toList_eq_map, List.flatMap_map, List.flatMap_map]
    refine List.flatMap_congr fun i _ => ?_
    rw [Fin.getElem_fin, Vector.getElem_ofFn]
    exact u16_toNat _
  have hgroups : yesNo (e.groupAllowed.toNat == 1) = [e.groupAllowed] := by
    obtain hg | hg := hgroup
    · rw [hg]
      rfl
    · rw [hg]
      rfl
  unfold Assortment.bytes EntryImage.bytes
  simp only [EntryImage.assortment]
  rw [hslots, hprices, hgroups, hlength, u16_toNat, u16_toNat, u16_toNat, u8_toNat', u8_toNat']

theorem EntryImage.length_bytes (e : EntryImage) : e.bytes.length = 39 := by
  simp [EntryImage.bytes, halfBytes]

end Entry

/-! ### Samples, plan pieces and pieces (R188) -/

theorem optU16_eq (o : Option Nat) : optU16 o = u16 (o.getD 65535) := rfl

/-- The averaging code of a sample. -/
theorem averagingCode_lt (n : Nat) : averagingCode n < 4 := by
  unfold averagingCode
  split_ifs <;> decide

theorem averaging_eq {n : Nat} (h : n = 1 ∨ n = 2 ∨ n = 4 ∨ n = 8) : n = 2 ^ averagingCode n := by
  rcases h with rfl | rfl | rfl | rfl <;> rfl

/-- The flags and the averaging count of a sample. -/
theorem SampleFlags.bits_read (f : SampleFlags) {n : Nat} (h : n = 1 ∨ n = 2 ∨ n = 4 ∨ n = 8) :
    let b := BitVec.ofNat 8 (f.bits + 64 * averagingCode n)
    [b.getLsbD 0, b.getLsbD 1, b.getLsbD 2, b.getLsbD 3, b.getLsbD 4, b.getLsbD 5] =
        [f.butt, f.disagree, f.armLimit, f.slipSuspect, f.rollerLen, f.estimated] ∧
      n = 2 ^ (b.extractLsb' 6 2).toNat := by
  intro b
  have hbits : f.bits < 2 ^ 6 := flagBits_lt _
  have hcode := averagingCode_lt n
  have hbit (i : Nat) (hi : i < 6) : b.getLsbD i = f.bits.testBit i := by
    rw [BitVec.getLsbD_ofNat, Nat.add_comm, show 64 = 2 ^ 6 from rfl, Nat.testBit_two_pow_mul_add _ hbits, if_pos hi]
    simp [show i < 8 by omega]
  have hread (i : Nat) := testBit_flagBits [f.butt, f.disagree, f.armLimit, f.slipSuspect, f.rollerLen, f.estimated] i
  refine ⟨?_, ?_⟩
  · rw [hbit 0 (by decide), hbit 1 (by decide), hbit 2 (by decide), hbit 3 (by decide), hbit 4 (by decide), hbit 5 (by decide)]
    simp only [SampleFlags.bits, hread]
    rfl
  · have hcode' : (b.extractLsb' 6 2).toNat = averagingCode n := by
      rw [BitVec.extractLsb'_toNat, BitVec.toNat_ofNat, Nat.shiftRight_eq_div_pow]
      omega
    rw [hcode']
    exact averaging_eq h

theorem Sample.bytes_read (p : Sample) (h1 : p.position ≤ 60000) (h2 : p.diameter ≤ 999)
    (h3 : ∀ e, p.envelope = some e → e ≤ 999) (h4 : p.averaging = 1 ∨ p.averaging = 2 ∨ p.averaging = 4 ∨ p.averaging = 8) :
    p.bytes.length = 7 ∧ (halfAt p.bytes 0).toNat = p.position ∧ (halfAt p.bytes 2).toNat = p.diameter ∧
    (halfAt p.bytes 4).toNat = p.envelope.getD 65535 ∧
    (let b := byteAt p.bytes 6
     [b.getLsbD 0, b.getLsbD 1, b.getLsbD 2, b.getLsbD 3, b.getLsbD 4, b.getLsbD 5] =
        [p.flags.butt, p.flags.disagree, p.flags.armLimit, p.flags.slipSuspect, p.flags.rollerLen, p.flags.estimated] ∧
      p.averaging = 2 ^ (b.extractLsb' 6 2).toNat) := by
  have henvelope : p.envelope.getD 65535 < 65536 := by
    cases he : p.envelope with
    | none => decide
    | some e => exact (h3 e he).trans_lt (by decide)
  exact ⟨rfl, u16_read (halfAt_halfBytes _ []) (by omega), u16_read (halfAt_halfBytes _ []) (by omega),
    u16_read (halfAt_halfBytes _ []) henvelope, p.flags.bits_read h4⟩

theorem flagBits_pieces (a b c : Bool) :
    flagBits [a, b, c] = (if a then 1 else 0) + (if b then 2 else 0) + (if c then 4 else 0) := by
  cases a <;> cases b <;> cases c <;> rfl

/-! ### Items found behind others -/

section Places

variable (n i : Nat) (z : Int) (l : List Byte)

@[simp] theorem byteAt_u8 : byteAt (u8 n) 0 = BitVec.ofNat 8 n := rfl

@[simp] theorem byteAt_u8_append : byteAt (u8 n ++ l) 0 = BitVec.ofNat 8 n := rfl

@[simp] theorem byteAt_past_u8 : byteAt (u8 n ++ l) (i + 1) = byteAt l i := rfl

@[simp] theorem byteAt_past_u16 : byteAt (u16 n ++ l) (i + 2) = byteAt l i := rfl

@[simp] theorem byteAt_past_u32 : byteAt (u32 n ++ l) (i + 4) = byteAt l i := rfl

@[simp] theorem byteAt_past_i32 : byteAt (i32 z ++ l) (i + 4) = byteAt l i := rfl

@[simp] theorem halfAt_u16_append : halfAt (u16 n ++ l) 0 = BitVec.ofNat 16 n := halfAt_halfBytes _ l

@[simp] theorem halfAt_past_u8 : halfAt (u8 n ++ l) (i + 1) = halfAt l i := rfl

@[simp] theorem halfAt_past_u16 : halfAt (u16 n ++ l) (i + 2) = halfAt l i := rfl

@[simp] theorem halfAt_past_u32 : halfAt (u32 n ++ l) (i + 4) = halfAt l i := rfl

@[simp] theorem halfAt_past_i32 : halfAt (i32 z ++ l) (i + 4) = halfAt l i := rfl

@[simp] theorem halfAt_u32_append : halfAt (u32 n ++ l) 2 ++ halfAt (u32 n ++ l) 0 = BitVec.ofNat 32 n := halfAt_wordBytes _ l

@[simp] theorem halfAt_i32_append : halfAt (i32 z ++ l) 2 ++ halfAt (i32 z ++ l) 0 = BitVec.ofInt 32 z := halfAt_wordBytes _ l

@[simp] theorem length_u8 : (u8 n).length = 1 := rfl

@[simp] theorem length_u16 : (u16 n).length = 2 := rfl

@[simp] theorem length_u32 : (u32 n).length = 4 := rfl

@[simp] theorem length_i32 : (i32 z).length = 4 := rfl

end Places

theorem PlanPiece.bytes_read (p : PlanPiece) (h1 : p.assortment ≤ 31) (h2 : p.nominal ≤ 9900) (h3 : 0 ≤ p.cutPosition)
    (h4 : p.cutPosition ≤ 65535) (h5 : p.topDiameter ≤ 999) (h6 : p.value < 4294967296) :
    p.bytes.length = 12 ∧ (byteAt p.bytes 0).toNat = p.assortment ∧ (halfAt p.bytes 1).toNat = p.nominal ∧
    ((halfAt p.bytes 3).toNat : Int) = p.cutPosition ∧ (halfAt p.bytes 5).toNat = p.topDiameter ∧
    (halfAt p.bytes 9 ++ halfAt p.bytes 7).toNat = p.value ∧
    (byteAt p.bytes 11).toNat =
      (if p.status = .committed then 1 else 0) + (if p.source = .override then 2 else 0) := by
  have hflags : flagBits [p.status == .committed, p.source == .override] =
      (if p.status = .committed then 1 else 0) + (if p.source = .override then 2 else 0) := by
    rw [flagBits_pair]
    simp only [beq_iff_eq]
  have hsmall : flagBits [p.status == .committed, p.source == .override] < 4 := flagBits_lt _
  have hbytes : p.bytes = u8 p.assortment ++ (u16 p.nominal ++ (u16 p.cutPosition.toNat ++ (u16 p.topDiameter ++ (u32 p.value ++
      u8 (flagBits [p.status == .committed, p.source == .override]))))) := by
    simp only [PlanPiece.bytes, posU16_eq h3 (show p.cutPosition < 65536 by omega), List.append_assoc]
  rw [hbytes]
  refine ⟨by simp, u8_read (by simp) (by omega), u16_read (by simp) (by omega), ?_, u16_read (by simp) (by omega),
    u32_read (by simp) h6, ?_⟩
  · rw [u16_read (n := p.cutPosition.toNat) (by simp) (by omega), Int.toNat_of_nonneg h3]
  · rw [← hflags]
    exact u8_read (by simp) (by omega)

theorem Piece.bytes_read (p : Piece) (h1 : ∀ a, p.assortment = some a → a ≤ 31) (h2 : 0 ≤ p.cutPosition)
    (h3 : p.cutPosition ≤ 65535) (h4 : 0 ≤ p.actual) (h5 : p.actual ≤ 65535) (h6 : ∀ n, p.nominal = some n → n ≤ 9900)
    (h7 : ∀ e, p.lengthError = some e → e.natAbs ≤ 70000) (h8 : p.topDiameter ≤ 999) (h9 : ∀ v, p.value = some v → v < 4294967295) :
    p.bytes.length = 19 ∧ (byteAt p.bytes 0).toNat = p.kind.number ∧ (byteAt p.bytes 1).toNat = p.assortment.getD 255 ∧
    ((halfAt p.bytes 2).toNat : Int) = p.cutPosition ∧ ((halfAt p.bytes 4).toNat : Int) = p.actual ∧
    (halfAt p.bytes 6).toNat = p.nominal.getD 65535 ∧
    (halfAt p.bytes 10 ++ halfAt p.bytes 8).toInt = p.lengthError.getD (-2147483648) ∧
    (halfAt p.bytes 12).toNat = p.topDiameter ∧
    (halfAt p.bytes 16 ++ halfAt p.bytes 14).toNat = p.value.getD 4294967295 ∧
    (byteAt p.bytes 18).toNat = (if p.flags.overshoot then 1 else 0) + (if p.flags.slipSuspect then 2 else 0) +
      (if p.flags.rollerLen then 4 else 0) := by
  have hkind : p.kind.number < 256 := by cases p.kind <;> decide
  have hassortment : p.assortment.getD 255 < 256 := by
    cases ha : p.assortment with
    | none => decide
    | some a => exact (h1 a ha).trans_lt (by decide)
  have hnominal : p.nominal.getD 65535 < 65536 := by
    cases hn : p.nominal with
    | none => decide
    | some n => exact (h6 n hn).trans_lt (by decide)
  have hvalue : p.value.getD 4294967295 < 4294967296 := by
    cases hv : p.value with
    | none => decide
    | some v => exact (h9 v hv).trans (by decide)
  have herror : -2147483648 ≤ p.lengthError.getD (-2147483648) ∧ p.lengthError.getD (-2147483648) < 2147483648 := by
    cases he : p.lengthError with
    | none => decide
    | some e =>
      have := h7 e he
      simp only [Option.getD_some]
      omega
  have hflags : p.flags.bits < 8 := flagBits_lt _
  have hbytes : p.bytes = u8 p.kind.number ++ (u8 (p.assortment.getD 255) ++ (u16 p.cutPosition.toNat ++ (u16 p.actual.toNat ++
      (u16 (p.nominal.getD 65535) ++ (i32 (p.lengthError.getD (-2147483648)) ++ (u16 p.topDiameter ++
        (u32 (p.value.getD 4294967295) ++ u8 p.flags.bits))))))) := by
    simp only [Piece.bytes, posU16_eq h2 (show p.cutPosition < 65536 by omega), posU16_eq h4 (show p.actual < 65536 by omega),
      optU8, optU16, optI32, optU32, List.append_assoc]
  rw [hbytes]
  refine ⟨by simp, u8_read (by simp) hkind, u8_read (by simp) hassortment, ?_, ?_, u16_read (by simp) hnominal,
    i32_read (by simp) herror.1 herror.2, u16_read (by simp) (by omega), u32_read (by simp) hvalue, ?_⟩
  · rw [u16_read (n := p.cutPosition.toNat) (by simp) (by omega), Int.toNat_of_nonneg h2]
  · rw [u16_read (n := p.actual.toNat) (by simp) (by omega), Int.toNat_of_nonneg h4]
  · exact (u8_read (n := p.flags.bits) (by simp) (by omega)).trans (flagBits_pieces _ _ _)

/-! ### A measurement's result (R80) -/

theorem yesNo_eq (b : Bool) : yesNo b = [if b then 1 else 0] := by cases b <;> rfl

theorem ChannelReport.bytes_eq (c : ChannelReport) :
    c.bytes = u16 c.average ++ u16 c.contribution ++ [if c.armLimit then 1 else 0] := by
  rw [ChannelReport.bytes, yesNo_eq]

theorem Notice.payload_measured (tag : Byte) (mask : Mask) (n : Nat) (m : MeasureReport) :
    (Notice.measureResult tag mask n (some m)).payload =
      [0, tag] ++ u8 mask.code ++ u8 n ++ u16 m.settle ++ [1] ++ u8 m.channels.length ++
        (m.channels.flatMap fun c => u16 c.average ++ u16 c.contribution ++ [if c.armLimit then 1 else 0]) ++
        u16 (m.knifePair.getD 65535) ++ u16 (m.rollerPair.getD 65535) ++ u16 m.result ++
        u8 ((if m.disagree then 1 else 0) + (if m.armLimit then 2 else 0)) := by
  have hchannels : (m.channels.map ChannelReport.bytes).flatten =
      m.channels.flatMap fun c => u16 c.average ++ u16 c.contribution ++ [if c.armLimit then 1 else 0] := by
    rw [← List.flatMap_def]
    exact List.flatMap_congr fun c _ => c.bytes_eq
  unfold Notice.payload measureBytes optListBytes listBytes
  simp only [Option.map_some, Option.bind_some, List.length_map, hchannels, flagBits_pair, List.append_assoc]
  rfl

/-- Settles O25: the forms of items and the layouts lose no item. -/
theorem layoutsReadBack : Obligations.LayoutsReadBack := by
  refine ⟨⟨fun n hn => ?_, fun n rest hn => ⟨rfl, u16_read (by simp) hn⟩, fun n rest hn => ⟨rfl, u32_read (by simp) hn⟩,
    fun z rest h1 h2 => ⟨rfl, i32_read (by simp) h1 h2⟩, fun z h1 h2 => ⟨posU16_eq h1 h2, posU16_eq h1 h2⟩, rfl,
    fun entries => ⟨rfl, rfl⟩, rfl⟩, ?_, fun tag mask n m => ⟨Notice.payload_measured tag mask n m, rfl⟩,
    fun e h => ⟨EntryImage.bytes_assortment h, by rw [EntryImage.bytes_assortment h, EntryImage.length_bytes]⟩,
    Sample.bytes_read, PlanPiece.bytes_read, Piece.bytes_read⟩
  · simp [u8, Nat.mod_eq_of_lt hn]
  · exact ⟨rfl, rfl, rfl, rfl, rfl, rfl, rfl, rfl, rfl, rfl, rfl, rfl, rfl, rfl, rfl, rfl, rfl, rfl, rfl, rfl, rfl⟩

end Sys2Proof.Machine

/-! PROOF. The idle millisecond (R42 to R44, R141, R179, log 3): the timers that expire, the switch lines sampled once, and
the encoder lines settled by eight samples. -/

namespace Sys2Proof.Machine

open Sys2Proof

section Quiet

variable {s t u : State}

/-! ### Lines at their accepted levels (R42, R43) -/

theorem State.encodersQuiet_congr (h : u.lines = s.lines) (hq : s.encodersQuiet) : u.encodersQuiet := by
  unfold State.encodersQuiet at hq ⊢
  rwa [h]

theorem State.switchesQuiet_congr (h : u.lines = s.lines) (hq : s.switchesQuiet) : u.switchesQuiet := by
  unfold State.switchesQuiet at hq ⊢
  rwa [h]

theorem quadratureStep_same (a b : Bool) : quadratureStep a b a b = .same := by cases a <;> cases b <;> rfl

theorem State.sampleEncoders_quiet (h : s.encodersQuiet) : s.sampleEncoders = s := by
  obtain ⟨h1, h2, h3, h4⟩ := h
  unfold State.sampleEncoders
  simp only [LineFilter.sample_quiet _ h1, LineFilter.sample_quiet _ h2, LineFilter.sample_quiet _ h3,
    LineFilter.sample_quiet _ h4, quadratureStep_same]
  rfl

theorem State.sampleEncodersTimes_quiet (k : Nat) (h : s.encodersQuiet) : State.sampleEncodersTimes k s = s := by
  induction k with
  | zero => rfl
  | succ k ih => rw [State.sampleEncodersTimes, State.sampleEncoders_quiet h, ih]

theorem State.sampleSwitches_quiet (h : s.switchesQuiet) : s.sampleSwitches = s := by
  obtain ⟨h1, h2, h3, h4⟩ := h
  unfold State.sampleSwitches
  simp only [LineFilter.sample_quiet _ h1, LineFilter.sample_quiet _ h2, LineFilter.sample_quiet _ h3,
    LineFilter.sample_quiet _ h4, if_true, Bool.not_and_self]
  rfl

/-! ### Timers (R141, R179) -/

theorem timerDue_some {e period : Nat} (h : period ≤ e) : timerDue (some e) period = true := decide_eq_true h

theorem State.expireTimer_nothing (h : s.nothingDue) : s.expireTimer = s := by
  obtain ⟨h1, h2, h3, h4⟩ := h
  simp [State.expireTimer, h1, h2, h3, h4]

theorem State.expireGap_patient (h : ∀ p, s.hbp.partialRequest = some p → p.gap < 100) : s.expireGap = s := by
  unfold State.expireGap
  cases hp : s.hbp.partialRequest with
  | none => rfl
  | some p => exact if_neg (not_le.mpr (h p hp))

theorem State.expireGap_over {p : PartialRequest} (hp : s.hbp.partialRequest = some p) (h : 100 ≤ p.gap) :
    s.expireGap = s.discardPartial := by
  unfold State.expireGap
  rw [hp]
  exact if_pos h

/-- A millisecond whose lines stand ends as its timers leave it. -/
theorem step_of_quiet (hpending : s.pending = []) (h : s.countTimers.expireTimer.expireGap = u) (he : u.encodersQuiet)
    (hs : u.switchesQuiet) : step s = .next u.goOn := by
  rw [step, hpending]
  simp only
  rw [State.idle, h, State.sampleEncodersTimes_quiet 8 he, State.sampleSwitches_quiet hs]

/-- What raises notices at most leaves nothing to serve. -/
theorem State.goOn_of_bus (hb : s.busSettled) (hin : u.hbp.inService = s.hbp.inService) (hreq : u.hbp.requests = s.hbp.requests) :
    u.goOn = u.transmit := State.goOn_transmit (by rw [hin, hreq]; exact hb.1)

end Quiet

/-! ### The encoder lines (R42, R44) -/

/-- The lines with the pair of an encoder replaced. -/
def InputLines.withPair (l : InputLines) (e : Encoder) (a b : LineFilter) : InputLines :=
  match e with
  | .wheel => { l with wheelA := a, wheelB := b }
  | .roller => { l with rollerA := a, rollerB := b }

/-- The other encoder's lines stand. -/
def InputLines.OthersQuiet (l : InputLines) : Encoder → Prop
  | .wheel => l.rollerA.quiet ∧ l.rollerB.quiet
  | .roller => l.wheelA.quiet ∧ l.wheelB.quiet

section Encoders

variable {s : State} {l : InputLines} {e : Encoder} {a b : LineFilter}

/-- One sample while the other encoder's lines stand. -/
theorem State.sampleEncoders_pair (hq : l.OthersQuiet e) : State.sampleEncoders { s with lines := l.withPair e a b } =
    State.takeStep { s with lines := l.withPair e (a.sample s.params.encFilter) (b.sample s.params.encFilter) } e
      (quadratureStep a.accepted b.accepted (a.sample s.params.encFilter).accepted (b.sample s.params.encFilter).accepted) := by
  cases e with
  | wheel =>
    obtain ⟨h1, h2⟩ := hq
    unfold State.sampleEncoders InputLines.withPair
    simp only [LineFilter.sample_quiet _ h1, LineFilter.sample_quiet _ h2, quadratureStep_same]
    rfl
  | roller =>
    obtain ⟨h1, h2⟩ := hq
    unfold State.sampleEncoders InputLines.withPair
    simp only [LineFilter.sample_quiet _ h1, LineFilter.sample_quiet _ h2, quadratureStep_same]
    rfl

theorem State.takeStep_lines (s : State) (e : Encoder) (q : QuadratureStep) : (s.takeStep e q).lines = s.lines := by
  unfold State.takeStep
  split <;> simp

/-- A line that stands, or whose pin has shown the other level for a run of samples. -/
def LineFilter.Moving (f : LineFilter) (run : Nat) : Prop := f.quiet ∨ (f.pin ≠ f.accepted ∧ f.run = run)

theorem LineFilter.Moving.sample_ripe {f : LineFilter} {run n : Nat} (h : f.Moving run) (hn : n ≤ run + 1) :
    f.sample n = .settled f.pin := by
  obtain hq | ⟨hp, rfl⟩ := h
  · rw [LineFilter.sample_quiet n hq]
    unfold LineFilter.quiet at hq
    rw [hq]
    rfl
  · exact (f.sample_cases n).1 ⟨hp, hn⟩

theorem LineFilter.Moving.sample_unripe {f : LineFilter} {run n : Nat} (h : f.Moving run) (hn : run + 1 < n) :
    (f.sample n).Moving (run + 1) ∧ (f.sample n).accepted = f.accepted ∧ (f.sample n).pin = f.pin := by
  obtain hq | ⟨hp, rfl⟩ := h
  · rw [LineFilter.sample_quiet n hq]
    exact ⟨.inl hq, rfl, rfl⟩
  · rw [(f.sample_cases n).2 fun h => by have := h.2; omega]
    exact ⟨.inr ⟨hp, by simp [LineFilter.heard, hp]⟩, rfl, rfl⟩

theorem InputLines.withPair_quiet (hq : l.OthersQuiet e) (x y : Bool) :
    State.encodersQuiet { s with lines := l.withPair e (.settled x) (.settled y) } := by
  cases e with
  | wheel => exact ⟨rfl, rfl, hq.1, hq.2⟩
  | roller => exact ⟨hq.1, hq.2, rfl, rfl⟩

/-- Enough samples settle a moving pair, with one step of the encoder. -/
theorem State.sampleEncodersTimes_pair (hq : l.OthersQuiet e) (k run : Nat) (ha : a.Moving run) (hb : b.Moving run)
    (hk : s.params.encFilter ≤ run + (k + 1)) : State.sampleEncodersTimes (k + 1) { s with lines := l.withPair e a b } =
      State.takeStep { s with lines := l.withPair e (.settled a.pin) (.settled b.pin) } e
        (quadratureStep a.accepted b.accepted a.pin b.pin) := by
  induction k generalizing run a b with
  | zero =>
    rw [State.sampleEncodersTimes, State.sampleEncodersTimes, State.sampleEncoders_pair hq, ha.sample_ripe hk, hb.sample_ripe hk]
    rfl
  | succ k ih =>
    rw [State.sampleEncodersTimes, State.sampleEncoders_pair hq]
    by_cases hn : s.params.encFilter ≤ run + 1
    · rw [ha.sample_ripe hn, hb.sample_ripe hn]
      refine State.sampleEncodersTimes_quiet _ (State.encodersQuiet_congr (State.takeStep_lines _ _ _) ?_)
      exact InputLines.withPair_quiet (s := s) hq _ _
    · obtain ⟨ha', haccepted, hapin⟩ := ha.sample_unripe (not_le.mp hn)
      obtain ⟨hb', hbaccepted, hbpin⟩ := hb.sample_unripe (not_le.mp hn)
      rw [haccepted, hbaccepted, quadratureStep_same, State.takeStep, ih (run + 1) ha' hb' (by omega), haccepted, hbaccepted,
        hapin, hbpin]

theorem quadratureStep_turned {d : Direction} {a b a' b' : Bool} (h : turned d (a, b) = (a', b')) :
    quadratureStep a b a' b' = .pulse d := by
  cases d <;> cases a <;> cases b <;> cases h <;> rfl

theorem quadratureStep_fault {a b a' b' : Bool} (ha : a' ≠ a) (hb : b' ≠ b) : quadratureStep a b a' b' = .fault := by
  unfold quadratureStep
  rw [(bne_iff_ne (a := a) (b := a')).mpr ha.symm, (bne_iff_ne (a := b) (b := b')).mpr hb.symm]

theorem LineFilter.Moving.atLevel {f : LineFilter} {run : Nat} (h : f.Moving run) : f.atLevel f.pin = .settled f.pin := by
  obtain hq | ⟨hp, -⟩ := h
  · unfold LineFilter.quiet at hq
    rw [hq]
    exact if_pos rfl
  · exact if_neg hp.symm

/-- The lines of an encoder. -/
def InputLines.pair (l : InputLines) : Encoder → LineFilter × LineFilter
  | .wheel => (l.wheelA, l.wheelB)
  | .roller => (l.rollerA, l.rollerB)

theorem InputLines.withPair_pair (l : InputLines) (e : Encoder) : l.withPair e (l.pair e).1 (l.pair e).2 = l := by
  cases e <;> rfl

theorem State.stepEncoder_pair {run : Nat} {d : Direction} (hl : s.lines.pair e = (a, b)) (ha : a.Moving run) (hb : b.Moving run)
    (h : turned d (a.accepted, b.accepted) = (a.pin, b.pin)) :
    s.stepEncoder e d = { s with lines := s.lines.withPair e (.settled a.pin) (.settled b.pin) } := by
  rw [State.stepEncoder_eq]
  cases e with
  | wheel =>
    obtain ⟨rfl, rfl⟩ := Prod.mk.inj hl
    unfold InputLines.turn
    simp only [h, ha.atLevel, hb.atLevel]
    rfl
  | roller =>
    obtain ⟨rfl, rfl⟩ := Prod.mk.inj hl
    unfold InputLines.turn
    simp only [h, ha.atLevel, hb.atLevel]
    rfl

theorem State.flipEncoder_pair (hl : s.lines.pair e = (a, b)) (ha : a.pin ≠ a.accepted) (hb : b.pin ≠ b.accepted) :
    s.flipEncoder e = { s with lines := s.lines.withPair e (.settled a.pin) (.settled b.pin) } := by
  rw [Bool.eq_not.mpr ha, Bool.eq_not.mpr hb]
  cases e with
  | wheel =>
    obtain ⟨rfl, rfl⟩ := Prod.mk.inj hl
    rfl
  | roller =>
    obtain ⟨rfl, rfl⟩ := Prod.mk.inj hl
    rfl

/-- The eight samples of a millisecond settle a moving pair. -/
theorem State.sampleEncodersTimes_moving {run : Nat} (hl : s.lines.pair e = (a, b)) (hq : s.lines.OthersQuiet e)
    (ha : a.Moving run) (hb : b.Moving run) (hk : s.params.encFilter ≤ 8) : State.sampleEncodersTimes 8 s =
      State.takeStep { s with lines := s.lines.withPair e (.settled a.pin) (.settled b.pin) } e
        (quadratureStep a.accepted b.accepted a.pin b.pin) := by
  have hsame : ({ s with lines := s.lines.withPair e a b } : State) = s := by
    have := s.lines.withPair_pair e
    rw [hl] at this
    rw [this]
  conv_lhs => rw [← hsame]
  exact State.sampleEncodersTimes_pair hq 7 run ha hb (by omega)

end Encoders

/-! ### The switch lines (R43) -/

section Switches

variable {s : State}

/-- The lines after one sample of the switches. -/
def InputLines.sampled (l : InputLines) (n : Nat) : InputLines := { l with
  wheelContact := l.wheelContact.sample n, sawHome := l.sawHome.sample n, sawEnd := l.sawEnd.sample n, halt := l.halt.sample n }

/-- A sample of the switches, change by change. -/
theorem State.sampleSwitches_eq (s : State) : s.sampleSwitches =
    let l := s.lines
    let m := l.sampled s.params.switchFilter
    let s := { s with lines := m }
    let s := if l.wheelContact.accepted = m.wheelContact.accepted then s else s.contactChanged m.wheelContact.accepted
    let s := if !l.sawHome.accepted && m.sawHome.accepted then s.sawHomeAsserts else s
    let s := if !l.sawEnd.accepted && m.sawEnd.accepted then s.sawEndAsserts else s
    if l.halt.accepted = m.halt.accepted then s
    else if m.halt.accepted then s.haltAsserts
    else s.haltReleases := rfl

theorem LineFilter.sample_ripe {f : LineFilter} {n : Nat} (h : f.ripe n) : f.sample n = .settled f.pin := (f.sample_cases n).1 h

theorem LineFilter.sample_unripe {f : LineFilter} {n : Nat} (h : ¬f.ripe n) : f.sample n = f.heard := (f.sample_cases n).2 h

theorem LineFilter.heard_accepted (f : LineFilter) : f.heard.accepted = f.accepted := rfl

theorem LineFilter.settled_accepted (b : Bool) : (LineFilter.settled b).accepted = b := rfl

end Switches

/-- Settles O2: the idle millisecond. -/
theorem millisecondCountsTimers : Obligations.MillisecondCountsTimers := by
  intro s hpending hb t l patient
  have hbt : t.busSettled := hb
  have hgap (hp : patient) (u : State) (hu : u.hbp.partialRequest = t.hbp.partialRequest) : u.expireGap = u := by
    refine State.expireGap_patient fun p h => ?_
    rw [hu] at h
    obtain ⟨q, hq, rfl⟩ := Option.map_eq_some_iff.mp h
    exact hp q hq
  have hstill (hp : patient) (hd : t.nothingDue) : t.expireTimer.expireGap = t := by
    rw [State.expireTimer_nothing hd, hgap hp t rfl]
  have expires {u : State} (he : t.encodersQuiet) (hs : t.switchesQuiet) (hp : patient) (hrun : t.expireTimer = u)
      (hl : u.lines = t.lines) (hbus : u.hbp.partialRequest = t.hbp.partialRequest ∧ u.hbp.inService = t.hbp.inService ∧
        u.hbp.requests = t.hbp.requests) : step s = .next u.transmit := by
    rw [step_of_quiet hpending (u := u) (by rw [show s.countTimers = t from rfl, hrun]; exact hgap hp _ hbus.1)
      (State.encodersQuiet_congr hl he) (State.switchesQuiet_congr hl hs), State.goOn_of_bus hbt hbus.2.1 hbus.2.2]
  have silent (period : Nat) : timerDue none period = false := rfl
  refine ⟨fun he hs hp => ⟨fun hd => ?_, fun e h hdue => ?_, fun e h1 h hdue => ?_, fun e h1 h2 h hdue => ?_,
    fun e h1 h2 h3 h hdue => ?_⟩, fun p hp => ⟨?_, fun he hs hd h => ?_⟩, fun he hd hp => ?_, fun hs hd hp hfilter => ?_⟩
  · rw [step_of_quiet hpending (hstill hp hd) he hs, State.goOn_settled hbt]
  · have hdue' : timerDue t.fcs.settleTimer t.params.settleTime = true := h ▸ timerDue_some hdue
    have hrun : t.expireTimer = t.settleExpires := by simp [State.expireTimer, hdue']
    exact (expires he hs hp hrun (by simp) (by simp)).trans (if_pos (by rw [h]; rfl)).symm
  · have hdue' : timerDue t.fcs.sawTimer t.params.sawTimeout = true := h ▸ timerDue_some hdue
    have hrun : t.expireTimer = t.sawExpires := by simp [State.expireTimer, hdue', h1, silent]
    exact (expires he hs hp hrun (by simp) (by simp)).trans (if_pos (by rw [h]; rfl)).symm
  · have hdue' : timerDue t.fcs.homeTimer t.params.homeTimeout = true := h ▸ timerDue_some hdue
    have hrun : t.expireTimer = t.homeExpires := by simp [State.expireTimer, hdue', h1, h2, silent]
    exact (expires he hs hp hrun (by simp) (by simp)).trans (if_pos (by rw [h]; rfl)).symm
  · have hdue' : timerDue t.fcs.stallTimer t.params.stallTime = true := h ▸ timerDue_some hdue
    have hrun : t.expireTimer = t.stallExpires := by simp [State.expireTimer, hdue', h1, h2, h3, silent]
    exact (expires he hs hp hrun (by simp) (by simp)).trans (if_pos (by rw [h]; rfl)).symm
  · rw [show t.hbp.partialRequest = s.hbp.partialRequest.map _ from rfl, hp]
    rfl
  · have hpart : t.hbp.partialRequest = some { p with gap := p.gap + 1 } := by
      rw [show t.hbp.partialRequest = s.hbp.partialRequest.map _ from rfl, hp]
      rfl
    exact step_of_quiet (u := t.discardPartial) hpending
      (by rw [show s.countTimers = t from rfl, State.expireTimer_nothing hd, State.expireGap_over hpart h])
      (State.encodersQuiet_congr (s := t) (by simp) he) (State.switchesQuiet_congr (s := t) (by simp) hs)
  · intro n heard edge
    have hrun : step s = .next t.sampleSwitches.goOn := by
      rw [step, hpending]
      simp only
      rw [State.idle, show s.countTimers = t from rfl, hstill hp hd, State.sampleEncodersTimes_quiet (s := t) 8 he]
    rw [State.sampleSwitches_eq] at hrun
    simp only [InputLines.sampled, show t.lines = l from rfl, show t.params.switchFilter = n from rfl] at hrun
    refine ⟨fun h1 h2 h3 h4 => ?_, fun h1 h2 h3 h4 => ?_, fun h1 h2 h3 h4 => ?_, fun h1 h2 h3 h4 => ?_, fun h1 h2 h3 h4 => ?_⟩
    · simp only [LineFilter.sample_unripe h1, LineFilter.sample_unripe h2, LineFilter.sample_unripe h3,
        LineFilter.sample_unripe h4, LineFilter.heard_accepted, Bool.not_and_self, if_true] at hrun
      rw [hrun]
      exact congrArg _ (State.goOn_settled hbt)
    · have hchange : ¬l.wheelContact.accepted = l.wheelContact.pin := h1.1.symm
      simp only [LineFilter.sample_ripe h1, LineFilter.sample_unripe h2, LineFilter.sample_unripe h3,
        LineFilter.sample_unripe h4, LineFilter.heard_accepted, LineFilter.settled_accepted, Bool.not_and_self, if_true,
        if_neg hchange] at hrun
      rw [hrun]
      refine Eq.trans ?_ (if_neg hchange).symm
      rw [State.goOn_of_bus hbt (by simp) (by simp)]
      rfl
    · simp only [LineFilter.sample_unripe h1, LineFilter.sample_ripe h2, LineFilter.sample_unripe h3,
        LineFilter.sample_unripe h4, LineFilter.heard_accepted, LineFilter.settled_accepted, Bool.not_and_self, if_true] at hrun
      cases hpin : l.sawHome.pin with
      | true =>
        have hacc : l.sawHome.accepted = false := Bool.eq_false_iff.mpr fun h => h2.1 (hpin.trans h.symm)
        rw [show edge l.sawHome = .asserted from if_pos hpin]
        simp only [hpin, hacc, Bool.not_false, Bool.and_self, if_true] at hrun
        rw [hrun, State.goOn_of_bus hbt (by simp) (by simp)]
        rfl
      | false =>
        rw [show edge l.sawHome = .deasserted from if_neg (by simp [hpin])]
        simp only [hpin, Bool.and_false] at hrun
        rw [hrun]
        exact congrArg _ (State.goOn_settled hbt)
    · simp only [LineFilter.sample_unripe h1, LineFilter.sample_unripe h2, LineFilter.sample_ripe h3,
        LineFilter.sample_unripe h4, LineFilter.heard_accepted, LineFilter.settled_accepted, Bool.not_and_self, if_true] at hrun
      cases hpin : l.sawEnd.pin with
      | true =>
        have hacc : l.sawEnd.accepted = false := Bool.eq_false_iff.mpr fun h => h3.1 (hpin.trans h.symm)
        rw [show edge l.sawEnd = .asserted from if_pos hpin]
        simp only [hpin, hacc, Bool.not_false, Bool.and_self, if_true] at hrun
        rw [hrun, State.goOn_of_bus hbt (by simp) (by simp)]
        rfl
      | false =>
        rw [show edge l.sawEnd = .deasserted from if_neg (by simp [hpin])]
        simp only [hpin, Bool.and_false] at hrun
        rw [hrun]
        exact congrArg _ (State.goOn_settled hbt)
    · have hchange : ¬l.halt.accepted = l.halt.pin := h4.1.symm
      simp only [LineFilter.sample_unripe h1, LineFilter.sample_unripe h2, LineFilter.sample_unripe h3,
        LineFilter.sample_ripe h4, LineFilter.heard_accepted, LineFilter.settled_accepted, Bool.not_and_self, if_true,
        if_neg hchange] at hrun
      rw [hrun]
      cases hpin : l.halt.pin with
      | true =>
        have hacc : l.halt.accepted = false := Bool.eq_false_iff.mpr fun h => hchange (h.trans hpin.symm)
        simp only [if_true]
        rw [State.goOn_of_bus hbt (by simp) (by simp)]
        exact (if_neg (by simp [hacc])).symm
      | false =>
        have hacc : l.halt.accepted = true := Bool.eq_true_of_not_eq_false fun h => hchange (h.trans hpin.symm)
        simp only [Bool.false_eq_true, if_false]
        rw [State.goOn_of_bus hbt (by simp) (by simp)]
        exact (if_pos hacc).symm
  · have hrun (e : Encoder) (a b : LineFilter) (run : Nat) (hl : t.lines.pair e = (a, b)) (hq : t.lines.OthersQuiet e)
        (ha : a.Moving run) (hb : b.Moving run) : step s = .next (State.goOn (State.takeStep
          { t with lines := t.lines.withPair e (.settled a.pin) (.settled b.pin) } e
          (quadratureStep a.accepted b.accepted a.pin b.pin))) := by
      have hswitches (e : Encoder) (x y : LineFilter) : State.switchesQuiet { t with lines := t.lines.withPair e x y } := by
        cases e <;> exact hs
      rw [step, hpending]
      simp only
      rw [State.idle, show s.countTimers = t from rfl, hstill hp hd,
        State.sampleEncodersTimes_moving hl hq ha hb hfilter,
        State.sampleSwitches_quiet (State.switchesQuiet_congr (State.takeStep_lines _ _ _) (hswitches e _ _))]
    have pulses (e : Encoder) (a b : LineFilter) (hl : t.lines.pair e = (a, b)) (hq : t.lines.OthersQuiet e)
        (hone : (a.quiet ∧ b.pin ≠ b.accepted) ∨ (b.quiet ∧ a.pin ≠ a.accepted)) (d : Direction)
        (h : turned d (a.accepted, b.accepted) = (a.pin, b.pin)) : step s = exec (.encoderPulse e d) t := by
      obtain ⟨run, ha, hb⟩ : ∃ run, a.Moving run ∧ b.Moving run := by
        obtain ⟨h1, h2⟩ | ⟨h1, h2⟩ := hone
        · exact ⟨b.run, .inl h1, .inr ⟨h2, rfl⟩⟩
        · exact ⟨a.run, .inr ⟨h2, rfl⟩, .inl h1⟩
      rw [hrun e a b run hl hq ha hb, quadratureStep_turned h]
      show _ = Host.Outcome.next ((t.stepEncoder e d).pulse e d).transmit
      rw [State.stepEncoder_pair hl ha hb h, State.takeStep, State.goOn_of_bus hbt (by simp) (by simp)]
    have faults (e : Encoder) (a b : LineFilter) (hl : t.lines.pair e = (a, b)) (hq : t.lines.OthersQuiet e)
        (hboth : a.pin ≠ a.accepted ∧ b.pin ≠ b.accepted ∧ a.run = b.run) : step s = exec (.quadratureFault e) t := by
      obtain ⟨ha, hb, hsame⟩ := hboth
      rw [hrun e a b b.run hl hq (.inr ⟨ha, hsame⟩) (.inr ⟨hb, rfl⟩), quadratureStep_fault ha hb]
      show _ = Host.Outcome.next ((t.flipEncoder e).countQuadratureFault e).transmit
      rw [State.flipEncoder_pair hl ha hb, State.takeStep, State.goOn_of_bus hbt (by simp) (by simp)]
    exact ⟨fun h1 h2 hone d h => pulses .wheel _ _ rfl ⟨h1, h2⟩ hone d h,
      fun h1 h2 hone d h => pulses .roller _ _ rfl ⟨h1, h2⟩ hone d h, fun h1 h2 h => faults .wheel _ _ rfl ⟨h1, h2⟩ h,
      fun h1 h2 h => faults .roller _ _ rfl ⟨h1, h2⟩ h⟩

end Sys2Proof.Machine

/-! PROOF. The diameter-at-position rule (R105 to R107): at a sample, between two samples, beyond the last, and the taper. -/

namespace Sys2Proof.Machine

open Sys2Proof

section Diameter

variable {profile : List (Nat × Nat)} {taper : Nat}

/-- Positions that strictly ascend. -/
abbrev Ascending (profile : List (Nat × Nat)) : Prop := profile.Pairwise fun a b => a.1 < b.1

/-- Behind the first two samples the rule looks at the rest. -/
theorem interpolateProfile_past {x0 d0 x1 d1 x : Nat} {rest : List (Nat × Nat)} (h : x0 < x1) (hx : x1 ≤ x) :
    interpolateProfile ((x0, d0) :: (x1, d1) :: rest) x = interpolateProfile ((x1, d1) :: rest) x := by
  rw [interpolateProfile, if_neg (by omega), if_neg (by omega)]

theorem interpolateProfile_head {x0 d0 : Nat} (rest : List (Nat × Nat)) : interpolateProfile ((x0, d0) :: rest) x0 = d0 := by
  cases rest with
  | nil => rfl
  | cons a rest => exact if_pos le_rfl

/-- At a sample the rule gives its diameter. -/
theorem interpolateProfile_sample (h : Ascending profile) {x d : Nat} (hx : (x, d) ∈ profile) :
    interpolateProfile profile x = d := by
  induction profile with
  | nil => cases hx
  | cons a rest ih =>
    obtain ⟨ha, hrest⟩ := List.pairwise_cons.mp h
    obtain rfl | hx := List.mem_cons.mp hx
    · exact interpolateProfile_head rest
    · cases rest with
      | nil => cases hx
      | cons b rest =>
        have hb : b.1 ≤ x := by
          obtain rfl | hx := List.mem_cons.mp hx
          · exact le_rfl
          · exact ((List.pairwise_cons.mp hrest).1 _ hx).le
        rw [show a = (a.1, a.2) from rfl, show b = (b.1, b.2) from rfl,
          interpolateProfile_past (ha b List.mem_cons_self) hb]
        exact ih hrest hx

/-- Between two samples the rule interpolates, half up. -/
theorem interpolateProfile_between {before rest : List (Nat × Nat)} {x0 d0 x1 d1 x : Nat}
    (h : Ascending (before ++ (x0, d0) :: (x1, d1) :: rest)) (h0 : x0 < x) (h1 : x < x1) :
    interpolateProfile (before ++ (x0, d0) :: (x1, d1) :: rest) x =
      (halfUp ((d0 : Int) * ((x1 : Int) - x0) + ((d1 : Int) - d0) * ((x : Int) - x0)) (x1 - x0)).toNat := by
  induction before with
  | nil =>
    rw [List.nil_append, interpolateProfile, if_neg (by omega), if_pos h1]
  | cons a before ih =>
    rw [List.cons_append] at h
    obtain ⟨ha, hrest⟩ := List.pairwise_cons.mp h
    rw [← ih hrest]
    obtain ⟨b, tail, heq⟩ : ∃ b tail, before ++ (x0, d0) :: (x1, d1) :: rest = b :: tail :=
      List.exists_cons_of_ne_nil (by simp)
    have hb : b.1 ≤ x0 := by
      have hmem : (x0, d0) ∈ b :: tail := by rw [← heq]; simp
      rw [heq] at hrest
      obtain hx | hx := List.mem_cons.mp hmem
      · rw [← hx]
      · exact ((List.pairwise_cons.mp hrest).1 _ hx).le
    have hab : a.1 < b.1 := ha b (by rw [heq]; exact List.mem_cons_self)
    rw [List.cons_append, heq, show a = (a.1, a.2) from rfl, show b = (b.1, b.2) from rfl,
      interpolateProfile_past hab (by omega)]

theorem halfUp_nonneg {a : Int} {b : Nat} (h : 0 ≤ a) : 0 ≤ halfUp a b := by
  unfold halfUp
  exact Int.ediv_nonneg (by omega) (by omega)

/-- No sample lies beyond the last. -/
theorem le_getLast {p d x e : Nat} (h : Ascending profile) (hp : profile.getLast? = some (p, d)) (hx : (x, e) ∈ profile) : x ≤ p := by
  obtain ⟨init, rfl⟩ := List.getLast?_eq_some_iff.mp hp
  obtain hx | hx := List.mem_append.mp hx
  · exact ((List.pairwise_append.mp h).2.2 _ hx (p, d) (by simp)).le
  · cases List.mem_singleton.mp hx
    exact le_rfl

/-- Within the profile the rule is the interpolation. -/
theorem diameterAt_within {p d x : Nat} (hp : profile.getLast? = some (p, d)) (hx : x ≤ p) :
    diameterAt profile taper x = interpolateProfile profile x := by
  unfold diameterAt
  rw [hp]
  simp only
  rw [if_neg (by omega), if_pos (by omega), Int.toNat_natCast]

/-- Beyond the last sample the diameter falls with the taper, rounded up. -/
theorem diameterAt_beyond {p d x : Nat} (hp : profile.getLast? = some (p, d)) (hx : p < x) :
    diameterAt profile taper x = d - (taper * (x - p) + 999) / 1000 := by
  unfold diameterAt divUp
  rw [hp]
  simp only
  rw [if_neg (by omega), if_neg (by omega), Int.toNat_natCast]

theorem profileTaper_short {p d window : Nat} (hp : profile.getLast? = some (p, d)) (h : p < window) (e : TaperEntry) :
    profileTaper profile window e = e.tdefault := by
  unfold profileTaper
  rw [hp]
  exact if_pos h

theorem profileTaper_long {p d window : Nat} (hp : profile.getLast? = some (p, d)) (h : window ≤ p) {e : TaperEntry}
    (he : e.tmin ≤ e.tmax) : (profileTaper profile window e : Int) = max (e.tmin : Int) (min (e.tmax : Int)
      ((2 * (((diameterAt profile taper (p - window : Nat) : Int) - d) * 1000) + window) / (2 * window))) := by
  unfold profileTaper
  rw [hp, diameterAt_within hp (Nat.sub_le _ _)]
  simp only
  rw [if_neg (by omega), clampInt_eq (by omega), Int.toNat_of_nonneg (le_max_of_le_left (by omega))]
  rfl

/-- The diameter rule, sample by sample, between samples, and beyond the last. -/
theorem diameterRule (profile : List (Nat × Nat)) (taper : Nat) (h : profile.Pairwise fun a b => a.1 < b.1) :
    (∀ x d, (x, d) ∈ profile → diameterAt profile taper x = d) ∧
    (∀ (before rest : List (Nat × Nat)) (x0 d0 x1 d1 : Nat), profile = before ++ (x0, d0) :: (x1, d1) :: rest →
      ∀ x : Nat, x0 < x → x < x1 → (diameterAt profile taper x : Int) =
        (2 * ((d0 : Int) * (x1 - x0) + ((d1 : Int) - d0) * (x - x0)) + (x1 - x0)) / (2 * (x1 - x0))) ∧
    ∀ p d, profile.getLast? = some (p, d) →
      (∀ x : Nat, p < x → diameterAt profile taper x = d - (taper * (x - p) + 999) / 1000) ∧
      ∀ (window : Nat) (e : TaperEntry), e.tmin ≤ e.tmax → 0 < window →
        (p < window → profileTaper profile window e = e.tdefault) ∧
        (window ≤ p → (profileTaper profile window e : Int) = max (e.tmin : Int) (min (e.tmax : Int)
          ((2 * (((diameterAt profile taper (p - window : Nat) : Int) - d) * 1000) + window) / (2 * window)))) := by
  have last {x d : Nat} (hx : (x, d) ∈ profile) : ∃ p e, profile.getLast? = some (p, e) ∧ x ≤ p := by
    obtain ⟨⟨p, e⟩, hp⟩ := Option.ne_none_iff_exists'.mp (mt List.getLast?_eq_none_iff.mp (List.ne_nil_of_mem hx))
    exact ⟨p, e, hp, le_getLast h hp hx⟩
  refine ⟨fun x d hx => ?_, fun before rest x0 d0 x1 d1 heq x hx0 hx1 => ?_, fun p d hp => ⟨fun x hx => diameterAt_beyond hp hx,
    fun window e he _ => ⟨fun hw => profileTaper_short hp hw e, fun hw => profileTaper_long hp hw he⟩⟩⟩
  · obtain ⟨p, e, hp, hle⟩ := last hx
    rw [diameterAt_within hp hle, interpolateProfile_sample h hx]
  · obtain ⟨p, e, hp, hle⟩ := last (x := x1) (d := d1) (by rw [heq]; simp)
    have hnonneg : 0 ≤ (d0 : Int) * ((x1 : Int) - x0) + ((d1 : Int) - d0) * ((x : Int) - x0) := by
      have h0 : 0 ≤ (d0 : Int) * ((x1 : Int) - x) := mul_nonneg (by omega) (by omega)
      have h1 : 0 ≤ (d1 : Int) * ((x : Int) - x0) := mul_nonneg (by omega) (by omega)
      linarith
    rw [diameterAt_within hp (by omega)]
    conv_lhs => rw [heq]
    rw [interpolateProfile_between (heq ▸ h) hx0 hx1, Int.toNat_of_nonneg (halfUp_nonneg hnonneg), halfUp,
      Int.natCast_sub (by omega)]

end Diameter

end Sys2Proof.Machine

/-! PROOF. What a pass reads of its snapshot (R101 to R103, R109 to R112): the eligible entries, the usable end, and the valid
pieces at each grid point. -/

namespace Sys2Proof.Machine

open Sys2Proof

/-! ### The snapshot in the statements' words -/

section Vocabulary

variable (q : Snapshot)

/-- A member's diameter at a position. -/
def Snapshot.thick (m : SnapMember) (x : Int) : Nat := diameterAt m.profile (profileTaper m.profile q.taperWindow m.taper) x

/-- The position of a grid index (R110). -/
def Snapshot.gridAt (k : Nat) : Int := q.origin + 100 * (k : Int)

/-- An entry eligible for the members (R93). -/
def Snapshot.Admits (a : Assortment) : Prop :=
  (∀ m ∈ q.members, a.speciesMask.getLsbD m.species = true) ∧ (a.groupAllowed = true ∨ q.members.length < 2)

/-- A grid index in use at which every member is thick enough (R110). -/
def Snapshot.Usable (n k : Nat) : Prop := k ≤ 300 ∧ q.gridAt k ≤ 60000 ∧ ∀ m ∈ q.members, n ≤ q.thick m (q.gridAt k)

/-- The grid index of the usable end (R110). -/
def Snapshot.lastIndex? : Option Nat := (smallestTop q.eligible).bind (usableIndex q.grid)

/-- The planned value of a piece by an entry, the members' sum (R112). -/
def Snapshot.worth (a : Assortment) (nominal : Nat) (x : Int) : Nat := (q.members.map fun m =>
  (a.prices[min 7 ((q.thick m x - a.minTop) / a.classWidth)]?).getD 0 * nominal / 1000).sum

/-- A valid piece (R111). -/
def Snapshot.Fits (i : Nat) (a : Assortment) (nominal : Nat) (lower : Int) : Prop :=
  (q.bank[i]?).join = some a ∧ q.Admits a ∧ nominal ∈ a.lengths ∧
    (∃ e, q.lastIndex?.map q.gridAt = some e ∧ lower + nominal ≤ e) ∧
    ∀ m ∈ q.members, a.minTop ≤ q.thick m (lower + nominal) ∧ q.thick m lower ≤ a.maxButt

variable {q}

theorem Snapshot.origin_eq : q.origin = (q.committed.map (·.cutPosition)).getD (q.lastCut.getD 0) := by
  unfold Snapshot.origin originOf
  cases q.committed <;> rfl

theorem Snapshot.allowance_eq : q.allowance = 12 - q.pieceCount - (if q.committed = none then 0 else 1) := by
  unfold Snapshot.allowance
  cases q.committed <;> rfl

theorem Snapshot.diametersAt_tapered (x : Int) : diametersAt q.tapered x = q.members.map fun m => q.thick m x := by
  unfold diametersAt Snapshot.tapered
  rw [List.map_map]
  rfl

theorem Snapshot.sum_memberValue (a : Assortment) (nominal : Nat) (x : Int) :
    ((diametersAt q.tapered x).map (a.memberValue nominal)).sum = q.worth a nominal x := by
  rw [Snapshot.diametersAt_tapered, List.map_map]
  rfl

end Vocabulary

/-! ### The eligible set (R93, R109) -/

section Eligible

variable {q : Snapshot}

theorem Snapshot.eligible_iff (a : Assortment) : a.eligible (q.members.map fun m => m.species) = true ↔ q.Admits a := by
  simp [Assortment.eligible, Assortment.accepts, Snapshot.Admits]

theorem Snapshot.mem_eligible {i : Nat} {a : Assortment} : (i, a) ∈ q.eligible ↔ (q.bank[i]?).join = some a ∧ q.Admits a := by
  have hentry (o : Option Assortment) (j : Nat) : (match o with
      | some a => if a.eligible (q.members.map fun m => m.species) then some (j, a) else none
      | none => none) = some (i, a) ↔ o = some a ∧ j = i ∧ q.Admits a := by
    cases o with
    | none => simp
    | some b =>
      simp only [Snapshot.eligible_iff]
      split
      next h =>
        simp only [Option.some.injEq, Prod.mk.injEq]
        exact ⟨fun ⟨h1, h2⟩ => ⟨h2, h1, h2 ▸ (Snapshot.eligible_iff b).mp h⟩, fun ⟨h1, h2, _⟩ => ⟨h2, h1⟩⟩
      next h =>
        simp only [reduceCtorEq, Option.some.injEq, false_iff]
        rintro ⟨rfl, -, ha⟩
        exact h ((Snapshot.eligible_iff b).mpr ha)
  unfold Snapshot.eligible
  rw [List.mem_filterMap]
  constructor
  · rintro ⟨⟨o, j⟩, hmem, h⟩
    obtain ⟨rfl, rfl, ha⟩ := (hentry o j).mp h
    have hget := List.mk_mem_zipIdx_iff_getElem?.mp hmem
    refine ⟨?_, ha⟩
    rw [Vector.getElem?_toList] at hget
    rw [hget]
    rfl
  · rintro ⟨hget, ha⟩
    refine ⟨(some a, i), List.mk_mem_zipIdx_iff_getElem?.mpr ?_, (hentry _ _).mpr ⟨rfl, rfl, ha⟩⟩
    rw [Vector.getElem?_toList]
    exact Option.join_eq_some_iff.mp hget

theorem Snapshot.exists_entry {p : Nat → Assortment → Prop} : (∃ (i : Fin 32) (a : Assortment), q.bank[i] = some a ∧ p i a) ↔
    ∃ (i : Nat) (a : Assortment), (q.bank[i]?).join = some a ∧ p i a := by
  constructor
  · rintro ⟨i, a, h, hp⟩
    refine ⟨i, a, ?_, hp⟩
    rw [Vector.getElem?_eq_getElem i.isLt]
    exact h
  · rintro ⟨i, a, h, hp⟩
    have hsome := Option.join_eq_some_iff.mp h
    obtain ⟨hi, heq⟩ := Vector.getElem?_eq_some_iff.mp hsome
    exact ⟨⟨i, hi⟩, a, heq, hp⟩

theorem smallestTop_eq_none {l : List (Nat × Assortment)} : smallestTop l = none ↔ l = [] := by
  cases l with
  | nil => exact ⟨fun _ => rfl, fun _ => rfl⟩
  | cons e l =>
    rw [smallestTop]
    split <;> simp

theorem smallestTop_eq_some {l : List (Nat × Assortment)} {n : Nat} (h : smallestTop l = some n) :
    (∃ e ∈ l, e.2.minTop = n) ∧ ∀ e ∈ l, n ≤ e.2.minTop := by
  induction l generalizing n with
  | nil => cases h
  | cons e l ih =>
    rw [smallestTop] at h
    cases hl : smallestTop l with
    | none =>
      rw [hl] at h
      rw [smallestTop_eq_none.mp hl]
      cases h
      simp
    | some m =>
      rw [hl] at h
      cases h
      obtain ⟨⟨x, hx, hm⟩, hle⟩ := ih hl
      refine ⟨?_, ?_⟩
      · obtain hlt | hlt := le_total e.2.minTop m
        · exact ⟨e, List.mem_cons_self, (min_eq_left hlt).symm⟩
        · exact ⟨x, List.mem_cons_of_mem _ hx, by rw [hm, min_eq_right hlt]⟩
      · intro y hy
        obtain rfl | hy := List.mem_cons.mp hy
        · exact min_le_left _ _
        · exact (min_le_right _ _).trans (hle y hy)

/-- The smallest min top of the eligible entries. -/
theorem Snapshot.smallestTop_iff {n : Nat} : smallestTop q.eligible = some n ↔
    (∃ (i : Nat) (a : Assortment), (q.bank[i]?).join = some a ∧ q.Admits a ∧ a.minTop = n) ∧
      ∀ (i : Nat) (a : Assortment), (q.bank[i]?).join = some a → q.Admits a → n ≤ a.minTop := by
  have least (m : Nat) (h : smallestTop q.eligible = some m) :
      (∃ (i : Nat) (a : Assortment), (q.bank[i]?).join = some a ∧ q.Admits a ∧ a.minTop = m) ∧
        ∀ (i : Nat) (a : Assortment), (q.bank[i]?).join = some a → q.Admits a → m ≤ a.minTop := by
    obtain ⟨⟨⟨i, a⟩, hmem, hm⟩, hle⟩ := smallestTop_eq_some h
    obtain ⟨hbank, ha⟩ := Snapshot.mem_eligible.mp hmem
    exact ⟨⟨i, a, hbank, ha, hm⟩, fun j b hb hadmits => hle (j, b) (Snapshot.mem_eligible.mpr ⟨hb, hadmits⟩)⟩
  refine ⟨least n, fun ⟨⟨i, a, hbank, ha, hn⟩, hle⟩ => ?_⟩
  have hmem := Snapshot.mem_eligible.mpr ⟨hbank, ha⟩
  obtain ⟨m, hm⟩ := Option.ne_none_iff_exists'.mp (mt smallestTop_eq_none.mp (List.ne_nil_of_mem hmem))
  obtain ⟨⟨j, b, hb, hadmits, hmin⟩, hle'⟩ := least m hm
  have hmn : m = n := Nat.le_antisymm (hn ▸ hle' i a hbank ha) (hmin ▸ hle j b hb hadmits)
  rw [hm, hmn]

end Eligible

/-! ### The grid and the usable end (R110) -/

section Grid

variable {q : Snapshot} {n k : Nat}

theorem getElem?_takeWhile {α : Type} {p : α → Bool} {l : List α} (h : l.Pairwise fun a b => p b = true → p a = true) (k : Nat) :
    (l.takeWhile p)[k]? = l[k]?.filter p := by
  induction l generalizing k with
  | nil => simp
  | cons a l ih =>
    obtain ⟨ha, hl⟩ := List.pairwise_cons.mp h
    cases hp : p a with
    | true =>
      rw [List.takeWhile_cons_of_pos hp]
      cases k with
      | zero => simp [Option.filter, hp]
      | succ k => simpa using ih hl k
    | false =>
      rw [List.takeWhile_cons_of_neg (by simp [hp])]
      cases k with
      | zero => simp [Option.filter, hp]
      | succ k =>
        cases hk : l[k]? with
        | none => simp [hk]
        | some b =>
          have hb : p b = false := by
            cases hb : p b with
            | false => rfl
            | true => rw [← hp, ha b (List.mem_of_getElem? hk) hb]
          simp [hk, Option.filter, hb]

theorem Snapshot.grid_getElem? (k : Nat) : q.grid[k]? =
    if k ≤ 300 ∧ q.gridAt k ≤ 60000 then some (q.members.map fun m => q.thick m (q.gridAt k)) else none := by
  have hpair : ((List.range 301).map q.gridAt).Pairwise fun a b => decide (b ≤ 60000) = true → decide (a ≤ 60000) = true := by
    refine List.pairwise_map.mpr (List.pairwise_lt_range.imp fun {i j} hij h => ?_)
    unfold Snapshot.gridAt at h ⊢
    simp only [decide_eq_true_eq] at h ⊢
    omega
  have hgrid : q.grid[k]? = (((List.range 301).map q.gridAt)[k]?.filter fun g => decide (g ≤ 60000)).map (diametersAt q.tapered) := by
    rw [← getElem?_takeWhile hpair, ← List.getElem?_map]
    rfl
  rw [hgrid]
  by_cases hk : k ≤ 300
  · rw [List.getElem?_map, List.getElem?_range (by omega)]
    by_cases hg : q.gridAt k ≤ 60000
    · simp [hk, hg, Option.filter, Snapshot.diametersAt_tapered]
    · simp [hk, hg, Option.filter]
  · rw [List.getElem?_eq_none (by simp; omega), if_neg fun h => hk h.1]
    rfl

theorem Snapshot.usable_iff : q.Usable n k ↔ ∃ g, q.grid[k]? = some g ∧ g.all (fun d => decide (n ≤ d)) = true := by
  rw [Snapshot.grid_getElem?, Snapshot.Usable]
  by_cases h : k ≤ 300 ∧ q.gridAt k ≤ 60000
  · simp [h.1, h.2]
  · rw [if_neg h]
    simp only [reduceCtorEq, false_and, exists_false, iff_false]
    exact fun hu => h ⟨hu.1, hu.2.1⟩

/-- The last grid index at which every member is thick enough. -/
theorem Snapshot.usableIndex_some {j : Nat} (h : usableIndex q.grid n = some j) :
    q.Usable n j ∧ ∀ k, q.Usable n k → k ≤ j := by
  obtain ⟨⟨g, j'⟩, hlast, rfl⟩ := Option.map_eq_some_iff.mp h
  obtain ⟨init, hinit⟩ := List.getLast?_eq_some_iff.mp hlast
  have hsorted : (q.grid.zipIdx.filter fun g => g.1.all fun d => decide (n ≤ d)).Pairwise fun a b => a.2 < b.2 := by
    refine List.Pairwise.filter _ (List.pairwise_map.mp ?_)
    rw [List.zipIdx_map_snd]
    exact List.pairwise_lt_range'
  have hmem : (g, j') ∈ q.grid.zipIdx.filter fun g => g.1.all fun d => decide (n ≤ d) := by rw [hinit]; simp
  obtain ⟨hzip, hall⟩ := List.mem_filter.mp hmem
  refine ⟨Snapshot.usable_iff.mpr ⟨g, List.mk_mem_zipIdx_iff_getElem?.mp hzip, hall⟩, fun k hk => ?_⟩
  obtain ⟨g', hg', hall'⟩ := Snapshot.usable_iff.mp hk
  have hmem' : (g', k) ∈ init ++ [(g, j')] := by
    rw [← hinit]
    exact List.mem_filter.mpr ⟨List.mk_mem_zipIdx_iff_getElem?.mpr hg', hall'⟩
  rw [hinit] at hsorted
  obtain hx | hx := List.mem_append.mp hmem'
  · exact ((List.pairwise_append.mp hsorted).2.2 _ hx (g, j') (by simp)).le
  · cases List.mem_singleton.mp hx
    exact le_rfl

theorem Snapshot.usableIndex_none (h : usableIndex q.grid n = none) : ¬q.Usable n k := fun hk => by
  obtain ⟨g, hg, hall⟩ := Snapshot.usable_iff.mp hk
  have hempty := List.getLast?_eq_none_iff.mp (Option.map_eq_none_iff.mp h)
  have hmem : (g, k) ∈ q.grid.zipIdx.filter fun g => g.1.all fun d => decide (n ≤ d) :=
    List.mem_filter.mpr ⟨List.mk_mem_zipIdx_iff_getElem?.mpr hg, hall⟩
  rw [hempty] at hmem
  cases hmem

theorem Snapshot.usableIndex_of_max (h : q.Usable n k) (hmax : ∀ j, q.Usable n j → j ≤ k) : usableIndex q.grid n = some k := by
  cases hu : usableIndex q.grid n with
  | none => exact absurd h (Snapshot.usableIndex_none hu)
  | some j =>
    obtain ⟨hj, hmax'⟩ := Snapshot.usableIndex_some hu
    rw [Nat.le_antisymm (hmax j hj) (hmax' k h)]

end Grid

/-! ### The valid pieces (R111, R112, R114) -/

section Candidates

variable {q : Snapshot}

/-- The lengths of the bank, on the grid. -/
def Snapshot.OnGrid (q : Snapshot) : Prop :=
  ∀ (i : Nat) (a : Assortment), (q.bank[i]?).join = some a → ∀ l ∈ a.lengths, l % 100 = 0 ∧ 0 < l

theorem Snapshot.gridAt_add {nominal : Nat} (h : nominal % 100 = 0) (k : Nat) :
    q.gridAt (k + nominal / 100) = q.gridAt k + nominal := by
  unfold Snapshot.gridAt
  omega

theorem Snapshot.candidates_getD (k : Nat) : q.candidates.getD k [] =
    match q.lastIndex? with
    | some last => if k ≤ last then candidatesAt q.grid q.eligible last k else []
    | none => [] := by
  unfold Snapshot.candidates Snapshot.lastIndex?
  simp only
  cases (smallestTop q.eligible).bind (usableIndex q.grid) with
  | none => rfl
  | some last =>
    simp only [List.getD_eq_getElem?_getD, List.getElem?_map]
    split
    next h =>
      rw [List.getElem?_range (by omega)]
      rfl
    next h =>
      rw [List.getElem?_eq_none (by simp; omega)]
      rfl

/-- The usable end is in use, so that every grid index up to it is. -/
theorem Snapshot.inUse_of_lastIndex {last k : Nat} (h : q.lastIndex? = some last) (hk : k ≤ last) :
    k ≤ 300 ∧ q.gridAt k ≤ 60000 := by
  obtain ⟨n, -, hn⟩ := Option.bind_eq_some_iff.mp h
  obtain ⟨h300, h60000, -⟩ := (Snapshot.usableIndex_some hn).1
  unfold Snapshot.gridAt at h60000 ⊢
  omega

theorem Snapshot.grid_getD {last k : Nat} (h : q.lastIndex? = some last) (hk : k ≤ last) :
    q.grid.getD k [] = q.members.map fun m => q.thick m (q.gridAt k) := by
  rw [List.getD_eq_getElem?_getD, Snapshot.grid_getElem?, if_pos (Snapshot.inUse_of_lastIndex h hk)]
  rfl

theorem mem_candidatesAt {grid : List (List Nat)} {eligible : List (Nat × Assortment)} {last k : Nat} {c : Candidate} :
    c ∈ candidatesAt grid eligible last k ↔ ∃ a, (c.assortment, a) ∈ eligible ∧ c.nominal ∈ a.lengths ∧
      c.next = k + c.nominal / 100 ∧ c.next ≤ last ∧ (∀ d ∈ grid.getD c.next [], a.minTop ≤ d) ∧
      (∀ d ∈ grid.getD k [], d ≤ a.maxButt) ∧ c.value = ((grid.getD c.next []).map (a.memberValue c.nominal)).sum := by
  unfold candidatesAt
  simp only [List.mem_flatMap, List.mem_filterMap, List.mem_reverse, List.all_eq_true, decide_eq_true_eq]
  constructor
  · rintro ⟨⟨i, a⟩, hmem, nominal, hnominal, h⟩
    split at h
    next hc =>
      cases h
      exact ⟨a, hmem, hnominal, rfl, hc.1, hc.2.1, hc.2.2, rfl⟩
    next => cases h
  · rintro ⟨a, hmem, hnominal, hnext, hlast, htop, hbutt, hvalue⟩
    obtain ⟨i, nominal, next, value⟩ := c
    simp only at hmem hnominal hnext hlast htop hbutt hvalue
    subst hnext hvalue
    exact ⟨(i, a), hmem, nominal, hnominal, if_pos ⟨hlast, htop, hbutt⟩⟩

/-- The valid pieces from a grid index, entry by entry. -/
theorem Snapshot.mem_candidates (hb : q.OnGrid) {k : Nat} {c : Candidate} : c ∈ q.candidates.getD k [] ↔
    ∃ a, q.Fits c.assortment a c.nominal (q.gridAt k) ∧ c.next = k + c.nominal / 100 ∧
      c.value = q.worth a c.nominal (q.gridAt c.next) := by
  rw [Snapshot.candidates_getD]
  cases hlast : q.lastIndex? with
  | none => simp [Snapshot.Fits, hlast]
  | some last =>
    have hvalue (a : Assortment) (nominal : Nat) {j : Nat} (hj : j ≤ last) :
        ((q.grid.getD j []).map (a.memberValue nominal)).sum = q.worth a nominal (q.gridAt j) := by
      rw [Snapshot.grid_getD hlast hj, ← Snapshot.diametersAt_tapered, Snapshot.sum_memberValue]
    have hends (j : Nat) : (∃ e, q.lastIndex?.map q.gridAt = some e ∧ q.gridAt j ≤ e) ↔ j ≤ last := by
      rw [hlast]
      simp only [Option.map_some, Option.some.injEq, exists_eq_left']
      unfold Snapshot.gridAt
      omega
    simp only
    constructor
    · intro h
      split at h
      next hk =>
        obtain ⟨a, hmem, hnominal, hnext, hnextLast, htop, hbutt, hworth⟩ := mem_candidatesAt.mp h
        obtain ⟨hbank, hadmits⟩ := Snapshot.mem_eligible.mp hmem
        have hat : q.gridAt k + c.nominal = q.gridAt c.next := by rw [hnext, Snapshot.gridAt_add (hb _ a hbank _ hnominal).1]
        rw [Snapshot.grid_getD hlast hnextLast] at htop
        rw [Snapshot.grid_getD hlast hk] at hbutt
        refine ⟨a, ⟨hbank, hadmits, hnominal, by rw [hat, hends]; exact hnextLast, fun m hm => ?_⟩, hnext,
          hworth.trans (hvalue a c.nominal hnextLast)⟩
        rw [hat]
        exact ⟨htop _ (List.mem_map_of_mem hm), hbutt _ (List.mem_map_of_mem hm)⟩
      next => cases h
    · rintro ⟨a, ⟨hbank, hadmits, hnominal, hend, hthick⟩, hnext, hworth⟩
      have hat : q.gridAt k + c.nominal = q.gridAt c.next := by rw [hnext, Snapshot.gridAt_add (hb _ a hbank _ hnominal).1]
      rw [hat, hends] at hend
      have hk : k ≤ last := by omega
      rw [if_pos hk]
      refine mem_candidatesAt.mpr ⟨a, Snapshot.mem_eligible.mpr ⟨hbank, hadmits⟩, hnominal, hnext, hend, fun d hd => ?_,
        fun d hd => ?_, hworth.trans (hvalue a c.nominal hend).symm⟩
      · rw [Snapshot.grid_getD hlast hend] at hd
        obtain ⟨m, hm, rfl⟩ := List.mem_map.mp hd
        rw [← hat]
        exact (hthick m hm).1
      · rw [Snapshot.grid_getD hlast hk] at hd
        obtain ⟨m, hm, rfl⟩ := List.mem_map.mp hd
        exact (hthick m hm).2

/-- The entries of the eligible set ascend. -/
theorem Snapshot.eligible_sorted (q : Snapshot) : q.eligible.Pairwise fun a b => a.1 < b.1 := by
  have hzip : q.bank.toList.zipIdx.Pairwise fun a b => a.2 < b.2 := by
    refine List.pairwise_map.mp ?_
    rw [List.zipIdx_map_snd]
    exact List.pairwise_lt_range'
  have hindex (e : Option Assortment × Nat) (b : Nat × Assortment) (h : (match e.1 with
      | some a => if a.eligible (q.members.map fun m => m.species) then some (e.2, a) else none
      | none => none) = some b) : b.1 = e.2 := by
    split at h
    · split at h
      · cases h
        rfl
      · cases h
    · cases h
  refine List.pairwise_filterMap.mpr (hzip.imp fun {e f} hlt b hb c hc => ?_)
  rw [hindex e b hb, hindex f c hc]
  exact hlt

/-- The valid pieces from a grid index in the order of R114. -/
theorem candidatesAt_sorted {grid : List (List Nat)} {eligible : List (Nat × Assortment)} (last k : Nat)
    (he : eligible.Pairwise fun a b => a.1 < b.1) (hl : ∀ e ∈ eligible, e.2.lengths.Pairwise (· < ·)) :
    (candidatesAt grid eligible last k).Pairwise fun a b =>
      a.assortment < b.assortment ∨ (a.assortment = b.assortment ∧ b.nominal < a.nominal) := by
  have hcandidate (e : Nat × Assortment) (nominal : Nat) (c : Candidate)
      (h : (if k + nominal / 100 ≤ last ∧ ((grid.getD (k + nominal / 100) []).all fun d => decide (e.2.minTop ≤ d)) = true ∧
          ((grid.getD k []).all fun d => decide (d ≤ e.2.maxButt)) = true then
        some (⟨e.1, nominal, k + nominal / 100, ((grid.getD (k + nominal / 100) []).map (e.2.memberValue nominal)).sum⟩ : Candidate)
      else none) = some c) : c.assortment = e.1 ∧ c.nominal = nominal := by
    split at h
    · cases h
      exact ⟨rfl, rfl⟩
    · cases h
  unfold candidatesAt
  refine List.pairwise_flatMap.mpr ⟨fun e hmem => ?_, he.imp fun {e f} hlt x hx y hy => ?_⟩
  · refine List.pairwise_filterMap.mpr ((List.pairwise_reverse.mpr (hl e hmem)).imp fun {a b} hlt x hx y hy => ?_)
    obtain ⟨hxe, hxn⟩ := hcandidate e a x hx
    obtain ⟨hye, hyn⟩ := hcandidate e b y hy
    exact .inr ⟨hxe.trans hye.symm, by rw [hxn, hyn]; exact hlt⟩
  · obtain ⟨a, -, hx⟩ := List.mem_filterMap.mp hx
    obtain ⟨b, -, hy⟩ := List.mem_filterMap.mp hy
    refine .inl ?_
    rw [(hcandidate e a x hx).1, (hcandidate f b y hy).1]
    exact hlt

end Candidates

end Sys2Proof.Machine

/-! PROOF. The result of a pass (R103, R109 to R112, R114 to R119): which pieces it holds, its usable end and flags, and that
every piece is valid. -/

namespace Sys2Proof.Machine

open Sys2Proof

/-! ### The pieces of a chain (R111, R118) -/

section Chain

variable {q : Snapshot}

/-- An optimizer piece that starts at a position and is valid there (R111, R112, R118). -/
structure Snapshot.Planned (q : Snapshot) (lower : Int) (p : PlanPiece) : Prop where
  cut : p.cutPosition = lower + p.nominal
  bound : p.cutPosition ≤ 60000
  status : p.status = .planned
  source : p.source = .optimizer
  valid : ∃ a, q.Fits p.assortment a p.nominal lower ∧ p.value = q.worth a p.nominal p.cutPosition

/-- A valid candidate ends on the grid point it names, which is in use. -/
theorem Snapshot.next_of_mem (hb : q.OnGrid) {k : Nat} {c : Candidate} (hc : c ∈ q.candidates.getD k []) :
    q.gridAt c.next = q.gridAt k + c.nominal ∧ q.gridAt c.next ≤ 60000 := by
  obtain ⟨a, ⟨hbank, -, hnominal, ⟨e, he, hle⟩, -⟩, hnext, -⟩ := (Snapshot.mem_candidates hb).mp hc
  obtain ⟨last, hlast, rfl⟩ := Option.map_eq_some_iff.mp he
  have hat : q.gridAt c.next = q.gridAt k + c.nominal := by rw [hnext, Snapshot.gridAt_add (hb _ a hbank _ hnominal).1]
  have hend := (Snapshot.inUse_of_lastIndex hlast le_rfl).2
  exact ⟨hat, by omega⟩

theorem Snapshot.optimizerPiece_planned (hb : q.OnGrid) {k : Nat} {c : Candidate} (hc : c ∈ q.candidates.getD k []) :
    q.Planned (q.gridAt k) (q.optimizerPiece c) := by
  obtain ⟨hat, hbound⟩ := Snapshot.next_of_mem hb hc
  obtain ⟨a, hfits, -, hvalue⟩ := (Snapshot.mem_candidates hb).mp hc
  exact ⟨hat, hbound, rfl, rfl, a, hfits, hvalue⟩

/-- Where the next piece starts: at the last cut before it, or at the start. -/
def lowerAfter (start : Int) (before : List PlanPiece) : Int := (before.getLast?.map (·.cutPosition)).getD start

theorem lowerAfter_cons (start : Int) (b : PlanPiece) (before : List PlanPiece) :
    lowerAfter start (b :: before) = lowerAfter b.cutPosition before := by
  unfold lowerAfter
  rw [List.getLast?_cons]
  cases before.getLast? <;> rfl

/-- The pieces of a chain of candidates follow one another, and each is valid where it starts. -/
theorem Snapshot.chain_planned (hb : q.OnGrid) {k : Nat} {chain : List Candidate} (h : IsChain q.candidates k chain)
    {before after : List PlanPiece} {p : PlanPiece} (split : chain.map q.optimizerPiece = before ++ p :: after) :
    q.Planned (lowerAfter (q.gridAt k) before) p := by
  induction chain generalizing k before with
  | nil => simp at split
  | cons c rest ih =>
    cases before with
    | nil =>
      rw [← (List.cons.inj split).1]
      exact Snapshot.optimizerPiece_planned hb h.1
    | cons b before =>
      obtain ⟨rfl, hrest⟩ := List.cons.inj split
      rw [lowerAfter_cons]
      exact ih h.2 hrest

end Chain

/-! ### The pieces of a result (R114 to R118) -/

section Pieces

variable {q : Snapshot} {number : Nat} {o : Override}

/-- The candidates chosen with no override placed (R113 to R115). -/
def Snapshot.freeTrace (q : Snapshot) : List Candidate := optimizerTrace q.candidates q.origin q.earliest q.allowance

/-- The candidates chosen after a placed override (R116). -/
def Snapshot.traceAfter (q : Snapshot) (o : Override) : List Candidate :=
  traceRows (tableRows q.candidates (q.allowance - 1)) (o.nominal / 100)

/-- The conditions for placing an override (R116). -/
def Snapshot.Places (q : Snapshot) (o : Override) : Prop :=
  1 ≤ q.allowance ∧ o.nominal ≤ 30000 ∧ q.origin + o.nominal ≤ 60000 ∧ q.earliest ≤ q.origin + o.nominal

theorem Snapshot.placed_iff : q.placed o = true ↔ q.Places o := decide_eq_true_iff

theorem Snapshot.result_of_none (h : q.override = none) : (q.result number).flags.overrideDropped = false ∧
    (q.result number).pieces = q.freeTrace.map q.optimizerPiece := by
  unfold Snapshot.result
  rw [h]
  exact ⟨rfl, rfl⟩

theorem Snapshot.result_of_places (h : q.override = some o) (hp : q.Places o) :
    (q.result number).flags.overrideDropped = false ∧
      (q.result number).pieces = q.overridePiece o :: (q.traceAfter o).map q.optimizerPiece := by
  unfold Snapshot.result
  rw [h]
  simp only
  rw [if_pos (Snapshot.placed_iff.mpr hp), Snapshot.placed_iff.mpr hp]
  exact ⟨rfl, rfl⟩

theorem Snapshot.result_of_not_places (h : q.override = some o) (hp : ¬q.Places o) :
    (q.result number).flags.overrideDropped = true ∧
      (q.result number).pieces = q.freeTrace.map q.optimizerPiece := by
  have hplaced : q.placed o = false := Bool.eq_false_iff.mpr (mt Snapshot.placed_iff.mp hp)
  unfold Snapshot.result
  rw [h]
  simp only
  rw [hplaced]
  exact ⟨rfl, rfl⟩

/-- The pieces of a result: the optimizer's alone, or a placed override's and the optimizer's after it. -/
theorem Snapshot.pieces_cases (q : Snapshot) (number : Nat) :
    (q.result number).pieces = q.freeTrace.map q.optimizerPiece ∨
      ∃ o, q.override = some o ∧ q.Places o ∧
        (q.result number).pieces = q.overridePiece o :: (q.traceAfter o).map q.optimizerPiece := by
  cases h : q.override with
  | none => exact .inl (Snapshot.result_of_none h).2
  | some o =>
    by_cases hp : q.Places o
    · exact .inr ⟨o, rfl, hp, (Snapshot.result_of_places h hp).2⟩
    · exact .inl (Snapshot.result_of_not_places h hp).2

theorem Snapshot.freeTrace_isChain (q : Snapshot) : IsChain q.candidates 0 q.freeTrace ∧ q.freeTrace.length ≤ q.allowance ∧
    ∀ x rest, q.freeTrace = x :: rest → q.earliest ≤ q.origin + x.nominal :=
  ((optimizerIsOptimal q.candidates).2.2 q.origin q.earliest q.allowance).1

theorem Snapshot.gridAt_zero : q.gridAt 0 = q.origin := by simp [Snapshot.gridAt]

theorem Snapshot.pieces_length (q : Snapshot) (number : Nat) : (q.result number).pieces.length ≤ q.allowance := by
  obtain h | ⟨o, -, hp, h⟩ := q.pieces_cases number
  · rw [h, List.length_map]
    exact q.freeTrace_isChain.2.1
  · have hlength := (trace_isChain q.candidates (q.allowance - 1) (o.nominal / 100)).2.1
    have hallow := hp.1
    rw [h, List.length_cons, List.length_map, Snapshot.traceAfter]
    omega

/-- The first piece ends at or beyond the earliest first cut (R115, R116). -/
theorem Snapshot.pieces_first (hb : q.OnGrid) {p : PlanPiece} {rest : List PlanPiece}
    (h : (q.result number).pieces = p :: rest) : q.earliest ≤ p.cutPosition := by
  obtain hfree | ⟨o, -, ⟨-, -, -, hreach⟩, hover⟩ := q.pieces_cases number
  · rw [h] at hfree
    obtain ⟨hchain, -, hreach⟩ := q.freeTrace_isChain
    obtain ⟨c, tail, htrace, rfl, -⟩ := List.map_eq_cons_iff.mp hfree.symm
    rw [htrace] at hchain
    have hat := (Snapshot.next_of_mem hb hchain.1).1
    rw [Snapshot.gridAt_zero] at hat
    show q.earliest ≤ q.gridAt c.next
    rw [hat]
    exact hreach c tail htrace
  · rw [h] at hover
    rw [(List.cons.inj hover).1]
    exact hreach

/-- Every piece starts where the one before it ends, and is the override or a valid optimizer piece. -/
theorem Snapshot.pieces_valid (hb : q.OnGrid) (ho : ∀ o, q.override = some o → o.nominal % 100 = 0)
    {before after : List PlanPiece} {p : PlanPiece} (h : (q.result number).pieces = before ++ p :: after) :
    q.Planned (lowerAfter q.origin before) p ∨
      ∃ o, q.override = some o ∧ q.Places o ∧ before = [] ∧ p = q.overridePiece o := by
  obtain hfree | ⟨o, hover, hp, hpieces⟩ := q.pieces_cases number
  · rw [← Snapshot.gridAt_zero]
    exact .inl (Snapshot.chain_planned hb q.freeTrace_isChain.1 (hfree.symm.trans h))
  · rw [h] at hpieces
    cases before with
    | nil => exact .inr ⟨o, hover, hp, rfl, (List.cons.inj hpieces).1⟩
    | cons b before =>
      obtain ⟨rfl, hrest⟩ := List.cons.inj hpieces
      have hstart : (q.overridePiece o).cutPosition = q.gridAt (o.nominal / 100) := by
        have hgrid := Snapshot.gridAt_add (q := q) (ho o hover) 0
        rw [Snapshot.gridAt_zero, Nat.zero_add] at hgrid
        exact hgrid.symm
      rw [lowerAfter_cons, hstart]
      exact .inl (Snapshot.chain_planned hb (trace_isChain q.candidates _ _).1 hrest.symm)

end Pieces

/-! ### The usable end, the lead and the flags (R106, R109, R110, R119) -/

section Flags

variable {q : Snapshot} {n number : Nat}

theorem Snapshot.eligible_isEmpty : q.eligible.isEmpty = true ↔
    ∀ (i : Nat) (a : Assortment), (q.bank[i]?).join = some a → ¬q.Admits a := by
  rw [List.isEmpty_iff, List.eq_nil_iff_forall_not_mem]
  exact ⟨fun h i a hbank ha => h (i, a) (Snapshot.mem_eligible.mpr ⟨hbank, ha⟩),
    fun h e he => h e.1 e.2 (Snapshot.mem_eligible.mp he).1 (Snapshot.mem_eligible.mp he).2⟩

theorem Snapshot.result_usableEnd : (q.result number).usableEnd = q.lastIndex?.map q.gridAt := rfl

theorem Snapshot.result_noEligible : (q.result number).flags.noEligible = q.eligible.isEmpty := rfl

theorem Snapshot.result_noUsableEnd : (q.result number).flags.noUsableEnd = (!q.eligible.isEmpty && q.lastIndex?.isNone) := rfl

/-- With an eligible entry, the usable end is the furthest usable grid point. -/
theorem Snapshot.result_of_least (h : smallestTop q.eligible = some n) :
    (q.result number).flags.noEligible = false ∧
    (∀ k, q.Usable n k → (∀ j, q.Usable n j → j ≤ k) →
      (q.result number).usableEnd = some (q.gridAt k) ∧ (q.result number).flags.noUsableEnd = false) ∧
    ((∀ k, ¬q.Usable n k) → (q.result number).usableEnd = none ∧ (q.result number).flags.noUsableEnd = true) := by
  have hempty : q.eligible.isEmpty = false := by
    cases he : q.eligible with
    | nil => simp [he, smallestTop] at h
    | cons => rfl
  have hlast : q.lastIndex? = usableIndex q.grid n := by rw [Snapshot.lastIndex?, h]; rfl
  rw [Snapshot.result_noEligible, Snapshot.result_usableEnd, Snapshot.result_noUsableEnd, hempty, hlast]
  refine ⟨rfl, fun k hk hmax => ?_, fun hnone => ?_⟩
  · rw [Snapshot.usableIndex_of_max hk hmax]
    exact ⟨rfl, rfl⟩
  · cases hu : usableIndex q.grid n with
    | none => exact ⟨rfl, rfl⟩
    | some k => exact absurd (Snapshot.usableIndex_some hu).1 (hnone k)

theorem Snapshot.result_of_noEligible (h : q.eligible.isEmpty = true) : (q.result number).flags.noEligible = true ∧
    (q.result number).usableEnd = none ∧ (q.result number).flags.noUsableEnd = false := by
  rw [Snapshot.result_noEligible, Snapshot.result_usableEnd, Snapshot.result_noUsableEnd, Snapshot.lastIndex?,
    List.isEmpty_iff.mp h]
  exact ⟨rfl, rfl, rfl⟩

variable {m : SnapMember}

theorem Snapshot.leadTaper_eq (h : q.members.find? (fun m => m.isLead) = some m) :
    q.leadTaper = profileTaper m.profile q.taperWindow m.taper := by
  rw [Snapshot.leadTaper, Snapshot.lead?, h]

theorem Snapshot.leadDiameter_eq (h : q.members.find? (fun m => m.isLead) = some m) (x : Int) :
    q.leadDiameter x = q.thick m x := by
  rw [Snapshot.leadDiameter, Snapshot.lead?, h]
  rfl

theorem Snapshot.defaultTaper_iff (h : q.members.find? (fun m => m.isLead) = some m) {p d : Nat}
    (hp : m.profile.getLast? = some (p, d)) : q.defaultTaper = true ↔ p < q.taperWindow := by
  rw [Snapshot.defaultTaper, Snapshot.lead?, h, Option.bind_some, hp]
  exact decide_eq_true_iff

/-- Every piece of a result carries the lead's diameter at its cut (R118). -/
theorem Snapshot.pieces_topDiameter {x : PlanPiece} (hx : x ∈ (q.result number).pieces) :
    x.topDiameter = q.leadDiameter x.cutPosition := by
  have optimizer (chain : List Candidate) (h : x ∈ chain.map q.optimizerPiece) :
      x.topDiameter = q.leadDiameter x.cutPosition := by
    obtain ⟨c, -, rfl⟩ := List.mem_map.mp h
    rfl
  obtain h | ⟨o, -, -, h⟩ := q.pieces_cases number <;> rw [h] at hx
  · exact optimizer _ hx
  · obtain rfl | hx := List.mem_cons.mp hx
    · rfl
    · exact optimizer _ hx

/-- The placed override's value is the members' sum (R116). -/
theorem Snapshot.overridePiece_value {o : Override} {a : Assortment} (h : (q.bank[o.assortment]?).join = some a) :
    (q.overridePiece o).value = q.worth a o.nominal (q.origin + o.nominal) := by
  rw [← Snapshot.sum_memberValue]
  unfold Snapshot.overridePiece Bank.entry?
  rw [h]

/-- Every row of candidates stands in the order of R114. -/
theorem Snapshot.candidates_sorted
    (h : ∀ (i : Nat) (a : Assortment), (q.bank[i]?).join = some a → a.lengths.Pairwise (· < ·))
    {row : List Candidate} (hrow : row ∈ q.candidates) :
    row.Pairwise fun a b => a.assortment < b.assortment ∨ (a.assortment = b.assortment ∧ b.nominal < a.nominal) := by
  unfold Snapshot.candidates at hrow
  simp only at hrow
  split at hrow
  next last _ =>
    obtain ⟨k, -, rfl⟩ := List.mem_map.mp hrow
    exact candidatesAt_sorted last k q.eligible_sorted fun e he => h e.1 e.2 (Snapshot.mem_eligible.mp he).1
  next => cases hrow

end Flags

/-- A property of all entries, by their numbers. -/
theorem Snapshot.forall_entry {q : Snapshot} {p : Nat → Assortment → Prop}
    (h : ∀ (i : Fin 32) (a : Assortment), q.bank[i] = some a → p i a) (i : Nat) (a : Assortment)
    (ha : (q.bank[i]?).join = some a) : p i a := by
  obtain ⟨j, b, hb, rfl, rfl⟩ := Snapshot.exists_entry (q := q) (p := fun j b => j = i ∧ b = a).mpr ⟨i, a, ha, rfl, rfl⟩
  exact h j b hb

/-- The same, back from the numbers. -/
theorem Snapshot.join_entry {q : Snapshot} {i : Fin 32} {a : Assortment} (h : q.bank[i] = some a) :
    (q.bank[(i : Nat)]?).join = some a := by
  rw [Vector.getElem?_eq_getElem i.isLt]
  exact h

/-- Settles O58: the diameter rule by its samples, and the result of a pass from its pieces, its usable end and its flags. -/
theorem plannedPiecesAreValid : Obligations.PlannedPiecesAreValid := by
  refine ⟨diameterRule, ?_⟩
  intro q number hbank hover res origin earliest allowance thick eligible least usable worth placed fits
  have horigin : origin = q.origin := Snapshot.origin_eq.symm
  have hallow : allowance = q.allowance := Snapshot.allowance_eq.symm
  clear_value origin allowance
  subst horigin hallow
  have hb : q.OnGrid := Snapshot.forall_entry hbank
  refine ⟨⟨rfl, rfl, q.pieces_length number, fun x rest h => Snapshot.pieces_first hb h⟩,
    ⟨fun n ⟨hexists, hleast⟩ => ?_, fun hnone => ?_⟩, fun m hm => ?_, fun h => Snapshot.result_of_none h, fun o ho => ?_,
    fun before p after h => ?_, fun i a nominal k h => ?_, fun hsorted row hrow => ?_⟩
  · exact Snapshot.result_of_least (Snapshot.smallestTop_iff.mpr
      ⟨Snapshot.exists_entry.mp hexists, Snapshot.forall_entry hleast⟩)
  · exact Snapshot.result_of_noEligible (Snapshot.eligible_isEmpty.mpr (Snapshot.forall_entry hnone))
  · exact ⟨Snapshot.leadTaper_eq hm, fun p d hp => Snapshot.defaultTaper_iff hm hp,
      fun x hx => (Snapshot.pieces_topDiameter hx).trans (Snapshot.leadDiameter_eq hm _)⟩
  · refine ⟨fun hp => ?_, fun hp => ?_⟩
    · obtain ⟨hdropped, hpieces⟩ := Snapshot.result_of_places (number := number) ho hp
      exact ⟨hdropped, q.overridePiece o, rfl, rfl, rfl, rfl, rfl, fun a => Snapshot.overridePiece_value, hpieces⟩
    · obtain ⟨hdropped, hpieces⟩ := Snapshot.result_of_not_places (number := number) ho hp
      exact ⟨hdropped, hpieces⟩
  · intro lower
    obtain ⟨hcut, hbound, hstatus, hsource, hvalid⟩ | ⟨o, ho, hp, rfl, rfl⟩ := Snapshot.pieces_valid hb hover h
    · exact ⟨hcut, hbound, hstatus, fun h => absurd (hsource.symm.trans h) nofun, fun _ => hvalid⟩
    · exact ⟨rfl, hp.2.2.1, rfl, fun _ => ⟨rfl, ho⟩, nofun⟩
  · obtain ⟨hentry, -, hnominal, -⟩ := id h
    have hat := Snapshot.gridAt_add (q := q) (hb i a hentry nominal hnominal).1 k
    refine ⟨⟨i, nominal, k + nominal / 100, q.worth a nominal (q.gridAt (k + nominal / 100))⟩,
      (Snapshot.mem_candidates hb).mpr ⟨a, h, rfl, rfl⟩, rfl, rfl, rfl, ?_⟩
    rw [hat]
    rfl
  · exact Snapshot.candidates_sorted (Snapshot.forall_entry hsorted) hrow

end Sys2Proof.Machine
